-- ==== Sys2Proof/Word.lean ====
section
/-! DEFINITION. The words of the machine and their plainest arithmetic (00 R6, R11). -/

namespace Sys2Proof

/-- A scalar register, an address, a 64-bit CSR. -/
abbrev Word := BitVec 64

/-- A byte of memory. -/
abbrev Byte := BitVec 8

/-- A register number field. -/
abbrev Reg := BitVec 5

/-- The bits of one vector register at the register length of a full part (00 R1). -/
abbrev VBits := BitVec 16384

/-- The bits of one mask register (01 R31). -/
abbrev MBits := BitVec 1024

end Sys2Proof
end

