-- ==== Sys2Proof/Syntax.lean ====
section
/-! DEFINITION. Syntax of the Selyen instruction set: one constructor per row of spec/opcode_table.json.

Field names of instruction words: `d` rd or the destination, `a` rs1, `b` rs2, `e` rs3, `h` shift amount, `i` immediate,
`o` off7, `c` class or CSR number, `k` fence mask, `p` precision bit, `m` the m0 enable, `v` FMA variant, `t` tag code,
`st` the stall field (02 R45 to R54). Rows of device events take what the event names: a core number, a cluster, a nest
sequence number, the id of an engine operation or the value written. -/

namespace Sys2Proof

/-- One constructor per row of the opcode table (03 R64 to R66; 02 R53; 95). -/
inductive Instr where
  /-- ADD (R116). -/
  | add (d a b : BitVec 5) (st : BitVec 2)
  /-- SUB (R116). -/
  | sub (d a b : BitVec 5) (st : BitVec 2)
  /-- AND (R116). -/
  | and (d a b : BitVec 5) (st : BitVec 2)
  /-- OR (R116). -/
  | or (d a b : BitVec 5) (st : BitVec 2)
  /-- XOR (R116). -/
  | xor (d a b : BitVec 5) (st : BitVec 2)
  /-- ANDN (R116). -/
  | andn (d a b : BitVec 5) (st : BitVec 2)
  /-- SLL (R116). -/
  | sll (d a b : BitVec 5) (st : BitVec 2)
  /-- SRL (R116). -/
  | srl (d a b : BitVec 5) (st : BitVec 2)
  /-- SRA (R116). -/
  | sra (d a b : BitVec 5) (st : BitVec 2)
  /-- ROR (R116). -/
  | ror (d a b : BitVec 5) (st : BitVec 2)
  /-- SLT (R116). -/
  | slt (d a b : BitVec 5) (st : BitVec 2)
  /-- SLTN (R116). -/
  | sltn (d a b : BitVec 5) (st : BitVec 2)
  /-- MIN (R116). -/
  | min (d a b : BitVec 5) (st : BitVec 2)
  /-- MAX (R116). -/
  | max (d a b : BitVec 5) (st : BitVec 2)
  /-- MINN (R116). -/
  | minn (d a b : BitVec 5) (st : BitVec 2)
  /-- MAXN (R116). -/
  | maxn (d a b : BitVec 5) (st : BitVec 2)
  /-- MUL (R116). -/
  | mul (d a b : BitVec 5) (st : BitVec 2)
  /-- MULH (R116). -/
  | mulh (d a b : BitVec 5) (st : BitVec 2)
  /-- MULHN (R116). -/
  | mulhn (d a b : BitVec 5) (st : BitVec 2)
  /-- DIV (R116). -/
  | div (d a b : BitVec 5) (st : BitVec 2)
  /-- DIVN (R116). -/
  | divn (d a b : BitVec 5) (st : BitVec 2)
  /-- REM (R116). -/
  | rem (d a b : BitVec 5) (st : BitVec 2)
  /-- REMN (R116). -/
  | remn (d a b : BitVec 5) (st : BitVec 2)
  /-- CLZ (R116). -/
  | clz (d a : BitVec 5) (st : BitVec 2)
  /-- CTZ (R116). -/
  | ctz (d a : BitVec 5) (st : BitVec 2)
  /-- CPOP (R116). -/
  | cpop (d a : BitVec 5) (st : BitVec 2)
  /-- SEXTB (R116). -/
  | sextb (d a : BitVec 5) (st : BitVec 2)
  /-- SEXTH (R116). -/
  | sexth (d a : BitVec 5) (st : BitVec 2)
  /-- SEXTW (R116). -/
  | sextw (d a : BitVec 5) (st : BitVec 2)
  /-- BSWAP (R116). -/
  | bswap (d a : BitVec 5) (st : BitVec 2)
  /-- CSEL (R116). -/
  | csel (d a b : BitVec 5) (st : BitVec 2)
  /-- SLLI (R117). -/
  | slli (d a : BitVec 5) (h : BitVec 6) (st : BitVec 2)
  /-- SRLI (R117). -/
  | srli (d a : BitVec 5) (h : BitVec 6) (st : BitVec 2)
  /-- SRAI (R117). -/
  | srai (d a : BitVec 5) (h : BitVec 6) (st : BitVec 2)
  /-- RORI (R117). -/
  | rori (d a : BitVec 5) (h : BitVec 6) (st : BitVec 2)
  /-- ADDI (R118). -/
  | addi (d a : BitVec 5) (i : BitVec 12) (st : BitVec 2)
  /-- ANDI (R118). -/
  | andi (d a : BitVec 5) (i : BitVec 12) (st : BitVec 2)
  /-- ORI (R118). -/
  | ori (d a : BitVec 5) (i : BitVec 12) (st : BitVec 2)
  /-- XORI (R118). -/
  | xori (d a : BitVec 5) (i : BitVec 12) (st : BitVec 2)
  /-- SLTI (R118). -/
  | slti (d a : BitVec 5) (i : BitVec 12) (st : BitVec 2)
  /-- SLTIN (R118). -/
  | sltin (d a : BitVec 5) (i : BitVec 12) (st : BitVec 2)
  /-- MOVHI (R118). -/
  | movhi (d : BitVec 5) (i : BitVec 17) (st : BitVec 2)
  /-- PGREL (R118). -/
  | pgrel (d : BitVec 5) (i : BitVec 17) (st : BitVec 2)
  /-- JAL (R121). -/
  | jal (d : BitVec 5) (i : BitVec 17) (st : BitVec 2)
  /-- JALR (R121). -/
  | jalr (d a : BitVec 5) (i : BitVec 12) (st : BitVec 2)
  /-- BEQ (R119). -/
  | beq (a b : BitVec 5) (i : BitVec 12) (st : BitVec 2)
  /-- BNE (R119). -/
  | bne (a b : BitVec 5) (i : BitVec 12) (st : BitVec 2)
  /-- BLT (R119). -/
  | blt (a b : BitVec 5) (i : BitVec 12) (st : BitVec 2)
  /-- BGE (R119). -/
  | bge (a b : BitVec 5) (i : BitVec 12) (st : BitVec 2)
  /-- BLTN (R119). -/
  | bltn (a b : BitVec 5) (i : BitVec 12) (st : BitVec 2)
  /-- BGEN (R119). -/
  | bgen (a b : BitVec 5) (i : BitVec 12) (st : BitVec 2)
  /-- SBNZ (R120). -/
  | sbnz (a b : BitVec 5) (i : BitVec 12) (st : BitVec 2)
  /-- LD8 (R124). -/
  | ld8 (d a : BitVec 5) (o : BitVec 7) (c : BitVec 4) (st : BitVec 2)
  /-- LD8S (R124). -/
  | ld8s (d a : BitVec 5) (o : BitVec 7) (c : BitVec 4) (st : BitVec 2)
  /-- LD16 (R124). -/
  | ld16 (d a : BitVec 5) (o : BitVec 7) (c : BitVec 4) (st : BitVec 2)
  /-- LD16S (R124). -/
  | ld16s (d a : BitVec 5) (o : BitVec 7) (c : BitVec 4) (st : BitVec 2)
  /-- LD32 (R124). -/
  | ld32 (d a : BitVec 5) (o : BitVec 7) (c : BitVec 4) (st : BitVec 2)
  /-- LD32S (R124). -/
  | ld32s (d a : BitVec 5) (o : BitVec 7) (c : BitVec 4) (st : BitVec 2)
  /-- LD64 (R124). -/
  | ld64 (d a : BitVec 5) (o : BitVec 7) (c : BitVec 4) (st : BitVec 2)
  /-- ST8 (R124). -/
  | st8 (d a : BitVec 5) (o : BitVec 7) (c : BitVec 4) (st : BitVec 2)
  /-- ST16 (R124). -/
  | st16 (d a : BitVec 5) (o : BitVec 7) (c : BitVec 4) (st : BitVec 2)
  /-- ST32 (R124). -/
  | st32 (d a : BitVec 5) (o : BitVec 7) (c : BitVec 4) (st : BitVec 2)
  /-- ST64 (R124). -/
  | st64 (d a : BitVec 5) (o : BitVec 7) (c : BitVec 4) (st : BitVec 2)
  /-- FADD (R127). -/
  | fadd (d a b : BitVec 5) (p : Bool) (st : BitVec 2)
  /-- FSUB (R127). -/
  | fsub (d a b : BitVec 5) (p : Bool) (st : BitVec 2)
  /-- FMUL (R127). -/
  | fmul (d a b : BitVec 5) (p : Bool) (st : BitVec 2)
  /-- FDIV (R127). -/
  | fdiv (d a b : BitVec 5) (p : Bool) (st : BitVec 2)
  /-- FSQRT (R127). -/
  | fsqrt (d a : BitVec 5) (p : Bool) (st : BitVec 2)
  /-- FMIN (R93). -/
  | fmin (d a b : BitVec 5) (p : Bool) (st : BitVec 2)
  /-- FMAX (R93). -/
  | fmax (d a b : BitVec 5) (p : Bool) (st : BitVec 2)
  /-- FEQ (R94). -/
  | feq (d a b : BitVec 5) (p : Bool) (st : BitVec 2)
  /-- FLT (R94). -/
  | flt (d a b : BitVec 5) (p : Bool) (st : BitVec 2)
  /-- FLE (R94). -/
  | fle (d a b : BitVec 5) (p : Bool) (st : BitVec 2)
  /-- FCLASS (R128). -/
  | fclass (d a : BitVec 5) (p : Bool) (st : BitVec 2)
  /-- FSGNJ (R127). -/
  | fsgnj (d a b : BitVec 5) (p : Bool) (st : BitVec 2)
  /-- FSGNJN (R127). -/
  | fsgnjn (d a b : BitVec 5) (p : Bool) (st : BitVec 2)
  /-- FSGNJX (R127). -/
  | fsgnjx (d a b : BitVec 5) (p : Bool) (st : BitVec 2)
  /-- FCVTFI (R128). -/
  | fcvtfi (d a : BitVec 5) (p : Bool) (st : BitVec 2)
  /-- FCVTFN (R128). -/
  | fcvtfn (d a : BitVec 5) (p : Bool) (st : BitVec 2)
  /-- FCVTIF (R128). -/
  | fcvtif (d a : BitVec 5) (p : Bool) (st : BitVec 2)
  /-- FCVTNF (R128). -/
  | fcvtnf (d a : BitVec 5) (p : Bool) (st : BitVec 2)
  /-- FCVTFF (R128). -/
  | fcvtff (d a : BitVec 5) (p : Bool) (st : BitVec 2)
  /-- FCVTBF (R128). -/
  | fcvtbf (d a : BitVec 5) (p : Bool) (st : BitVec 2)
  /-- FCVTFB (R128). -/
  | fcvtfb (d a : BitVec 5) (p : Bool) (st : BitVec 2)
  /-- FFMA32 (R129). -/
  | ffma32 (d a b e : BitVec 5) (v st : BitVec 2)
  /-- FFMA64 (R129). -/
  | ffma64 (d a b e : BitVec 5) (v st : BitVec 2)
  /-- SVC (R132). -/
  | svc (st : BitVec 2)
  /-- TRET (R133). -/
  | tret (st : BitVec 2)
  /-- BRK (R132). -/
  | brk (st : BitVec 2)
  /-- NAP (R134). -/
  | nap (st : BitVec 2)
  /-- KEND (R135). -/
  | kend (st : BitVec 2)
  /-- IFLUSH (R136). -/
  | iflush (st : BitVec 2)
  /-- URET (R137). -/
  | uret (st : BitVec 2)
  /-- YIELD (R138). -/
  | yield (st : BitVec 2)
  /-- IPRF (R139). -/
  | iprf (a : BitVec 5) (o : BitVec 7) (st : BitVec 2)
  /-- DPRF (R139). -/
  | dprf (a : BitVec 5) (o : BitVec 7) (c : BitVec 4) (st : BitVec 2)
  /-- FENCE (R141). -/
  | fence (k : BitVec 16) (e st : BitVec 2)
  /-- FENCEACQ (R141). -/
  | fenceacq (k : BitVec 16) (e st : BitVec 2)
  /-- FENCEREL (R141). -/
  | fencerel (k : BitVec 16) (e st : BitVec 2)
  /-- VDRAIN (R142). -/
  | vdrain (k : BitVec 16) (e st : BitVec 2)
  /-- CSRRW (R130). -/
  | csrrw (d a : BitVec 5) (c : BitVec 12) (st : BitVec 2)
  /-- CSRRS (R130). -/
  | csrrs (d a : BitVec 5) (c : BitVec 12) (st : BitVec 2)
  /-- CSRRC (R130). -/
  | csrrc (d a : BitVec 5) (c : BitVec 12) (st : BitVec 2)
  /-- VSETL (R152). -/
  | vsetl (d a : BitVec 5) (st : BitVec 2)
  /-- VSETVT (R153). -/
  | vsetvt (d a : BitVec 5) (st : BitVec 2)
  /-- VSETTY (R154). -/
  | vsetty (d t : BitVec 5) (st : BitVec 2)
  /-- VSETDIE (R155). -/
  | vsetdie (a b : BitVec 5) (st : BitVec 2)
  /-- VADD_VV (R156). -/
  | vaddVv (d a b : BitVec 5) (m : Bool) (st : BitVec 2)
  /-- VADD_VS (R156). -/
  | vaddVs (d a b : BitVec 5) (m : Bool) (st : BitVec 2)
  /-- VADD_VI (R156). -/
  | vaddVi (d b i : BitVec 5) (m : Bool) (st : BitVec 2)
  /-- VSUB_VV (R156). -/
  | vsubVv (d a b : BitVec 5) (m : Bool) (st : BitVec 2)
  /-- VSUB_VS (R156). -/
  | vsubVs (d a b : BitVec 5) (m : Bool) (st : BitVec 2)
  /-- VSUB_VI (R156). -/
  | vsubVi (d b i : BitVec 5) (m : Bool) (st : BitVec 2)
  /-- VRSUB_VV (R156). -/
  | vrsubVv (d a b : BitVec 5) (m : Bool) (st : BitVec 2)
  /-- VRSUB_VS (R156). -/
  | vrsubVs (d a b : BitVec 5) (m : Bool) (st : BitVec 2)
  /-- VRSUB_VI (R156). -/
  | vrsubVi (d b i : BitVec 5) (m : Bool) (st : BitVec 2)
  /-- VMUL_VV (R156). -/
  | vmulVv (d a b : BitVec 5) (m : Bool) (st : BitVec 2)
  /-- VMUL_VS (R156). -/
  | vmulVs (d a b : BitVec 5) (m : Bool) (st : BitVec 2)
  /-- VMUL_VI (R156). -/
  | vmulVi (d b i : BitVec 5) (m : Bool) (st : BitVec 2)
  /-- VMULH_VV (R156). -/
  | vmulhVv (d a b : BitVec 5) (m : Bool) (st : BitVec 2)
  /-- VMULH_VS (R156). -/
  | vmulhVs (d a b : BitVec 5) (m : Bool) (st : BitVec 2)
  /-- VMULH_VI (R156). -/
  | vmulhVi (d b i : BitVec 5) (m : Bool) (st : BitVec 2)
  /-- VMULHN_VV (R156). -/
  | vmulhnVv (d a b : BitVec 5) (m : Bool) (st : BitVec 2)
  /-- VMULHN_VS (R156). -/
  | vmulhnVs (d a b : BitVec 5) (m : Bool) (st : BitVec 2)
  /-- VMULHN_VI (R156). -/
  | vmulhnVi (d b i : BitVec 5) (m : Bool) (st : BitVec 2)
  /-- VMAC_VV (R156). -/
  | vmacVv (d a b : BitVec 5) (m : Bool) (st : BitVec 2)
  /-- VMAC_VS (R156). -/
  | vmacVs (d a b : BitVec 5) (m : Bool) (st : BitVec 2)
  /-- VMAC_VI (R156). -/
  | vmacVi (d b i : BitVec 5) (m : Bool) (st : BitVec 2)
  /-- VAND_VV (R156). -/
  | vandVv (d a b : BitVec 5) (m : Bool) (st : BitVec 2)
  /-- VAND_VS (R156). -/
  | vandVs (d a b : BitVec 5) (m : Bool) (st : BitVec 2)
  /-- VAND_VI (R156). -/
  | vandVi (d b i : BitVec 5) (m : Bool) (st : BitVec 2)
  /-- VOR_VV (R156). -/
  | vorVv (d a b : BitVec 5) (m : Bool) (st : BitVec 2)
  /-- VOR_VS (R156). -/
  | vorVs (d a b : BitVec 5) (m : Bool) (st : BitVec 2)
  /-- VOR_VI (R156). -/
  | vorVi (d b i : BitVec 5) (m : Bool) (st : BitVec 2)
  /-- VXOR_VV (R156). -/
  | vxorVv (d a b : BitVec 5) (m : Bool) (st : BitVec 2)
  /-- VXOR_VS (R156). -/
  | vxorVs (d a b : BitVec 5) (m : Bool) (st : BitVec 2)
  /-- VXOR_VI (R156). -/
  | vxorVi (d b i : BitVec 5) (m : Bool) (st : BitVec 2)
  /-- VSLL_VV (R156). -/
  | vsllVv (d a b : BitVec 5) (m : Bool) (st : BitVec 2)
  /-- VSLL_VS (R156). -/
  | vsllVs (d a b : BitVec 5) (m : Bool) (st : BitVec 2)
  /-- VSLL_VI (R156). -/
  | vsllVi (d b i : BitVec 5) (m : Bool) (st : BitVec 2)
  /-- VSRL_VV (R156). -/
  | vsrlVv (d a b : BitVec 5) (m : Bool) (st : BitVec 2)
  /-- VSRL_VS (R156). -/
  | vsrlVs (d a b : BitVec 5) (m : Bool) (st : BitVec 2)
  /-- VSRL_VI (R156). -/
  | vsrlVi (d b i : BitVec 5) (m : Bool) (st : BitVec 2)
  /-- VSRA_VV (R156). -/
  | vsraVv (d a b : BitVec 5) (m : Bool) (st : BitVec 2)
  /-- VSRA_VS (R156). -/
  | vsraVs (d a b : BitVec 5) (m : Bool) (st : BitVec 2)
  /-- VSRA_VI (R156). -/
  | vsraVi (d b i : BitVec 5) (m : Bool) (st : BitVec 2)
  /-- VMIN_VV (R156). -/
  | vminVv (d a b : BitVec 5) (m : Bool) (st : BitVec 2)
  /-- VMIN_VS (R156). -/
  | vminVs (d a b : BitVec 5) (m : Bool) (st : BitVec 2)
  /-- VMIN_VI (R156). -/
  | vminVi (d b i : BitVec 5) (m : Bool) (st : BitVec 2)
  /-- VMAX_VV (R156). -/
  | vmaxVv (d a b : BitVec 5) (m : Bool) (st : BitVec 2)
  /-- VMAX_VS (R156). -/
  | vmaxVs (d a b : BitVec 5) (m : Bool) (st : BitVec 2)
  /-- VMAX_VI (R156). -/
  | vmaxVi (d b i : BitVec 5) (m : Bool) (st : BitVec 2)
  /-- VMINN_VV (R156). -/
  | vminnVv (d a b : BitVec 5) (m : Bool) (st : BitVec 2)
  /-- VMINN_VS (R156). -/
  | vminnVs (d a b : BitVec 5) (m : Bool) (st : BitVec 2)
  /-- VMINN_VI (R156). -/
  | vminnVi (d b i : BitVec 5) (m : Bool) (st : BitVec 2)
  /-- VMAXN_VV (R156). -/
  | vmaxnVv (d a b : BitVec 5) (m : Bool) (st : BitVec 2)
  /-- VMAXN_VS (R156). -/
  | vmaxnVs (d a b : BitVec 5) (m : Bool) (st : BitVec 2)
  /-- VMAXN_VI (R156). -/
  | vmaxnVi (d b i : BitVec 5) (m : Bool) (st : BitVec 2)
  /-- VDIV_VV (R156). -/
  | vdivVv (d a b : BitVec 5) (m : Bool) (st : BitVec 2)
  /-- VDIV_VS (R156). -/
  | vdivVs (d a b : BitVec 5) (m : Bool) (st : BitVec 2)
  /-- VDIV_VI (R156). -/
  | vdivVi (d b i : BitVec 5) (m : Bool) (st : BitVec 2)
  /-- VDIVN_VV (R156). -/
  | vdivnVv (d a b : BitVec 5) (m : Bool) (st : BitVec 2)
  /-- VDIVN_VS (R156). -/
  | vdivnVs (d a b : BitVec 5) (m : Bool) (st : BitVec 2)
  /-- VDIVN_VI (R156). -/
  | vdivnVi (d b i : BitVec 5) (m : Bool) (st : BitVec 2)
  /-- VREM_VV (R156). -/
  | vremVv (d a b : BitVec 5) (m : Bool) (st : BitVec 2)
  /-- VREM_VS (R156). -/
  | vremVs (d a b : BitVec 5) (m : Bool) (st : BitVec 2)
  /-- VREM_VI (R156). -/
  | vremVi (d b i : BitVec 5) (m : Bool) (st : BitVec 2)
  /-- VREMN_VV (R156). -/
  | vremnVv (d a b : BitVec 5) (m : Bool) (st : BitVec 2)
  /-- VREMN_VS (R156). -/
  | vremnVs (d a b : BitVec 5) (m : Bool) (st : BitVec 2)
  /-- VREMN_VI (R156). -/
  | vremnVi (d b i : BitVec 5) (m : Bool) (st : BitVec 2)
  /-- VSADD_VV (R156). -/
  | vsaddVv (d a b : BitVec 5) (m : Bool) (st : BitVec 2)
  /-- VSADD_VS (R156). -/
  | vsaddVs (d a b : BitVec 5) (m : Bool) (st : BitVec 2)
  /-- VSADD_VI (R156). -/
  | vsaddVi (d b i : BitVec 5) (m : Bool) (st : BitVec 2)
  /-- VSSUB_VV (R156). -/
  | vssubVv (d a b : BitVec 5) (m : Bool) (st : BitVec 2)
  /-- VSSUB_VS (R156). -/
  | vssubVs (d a b : BitVec 5) (m : Bool) (st : BitVec 2)
  /-- VSSUB_VI (R156). -/
  | vssubVi (d b i : BitVec 5) (m : Bool) (st : BitVec 2)
  /-- VMERGE_VV (R157); the second part of `d` is the mask enable X, without which it raises ILLEGAL (06 R157, R173). -/
  | vmergeVv (d : BitVec 5 × Bool) (a b : BitVec 5) (st : BitVec 2)
  /-- VMERGE_VS (R157); the second part of `d` is the mask enable X, without which it raises ILLEGAL (06 R157, R173). -/
  | vmergeVs (d : BitVec 5 × Bool) (a b : BitVec 5) (st : BitVec 2)
  /-- VMERGE_VI (R157); the second part of `d` is the mask enable X, without which it raises ILLEGAL (06 R157, R173). -/
  | vmergeVi (d : BitVec 5 × Bool) (b i : BitVec 5) (st : BitVec 2)
  /-- VMV_VV (R157). -/
  | vmvVv (d a : BitVec 5) (m : Bool) (st : BitVec 2)
  /-- VMV_VS (R157). -/
  | vmvVs (d a : BitVec 5) (m : Bool) (st : BitVec 2)
  /-- VMV_VI (R157). -/
  | vmvVi (d i : BitVec 5) (m : Bool) (st : BitVec 2)
  /-- VSEQ_VV (R156). -/
  | vseqVv (d a b : BitVec 5) (m : Bool) (st : BitVec 2)
  /-- VSEQ_VS (R156). -/
  | vseqVs (d a b : BitVec 5) (m : Bool) (st : BitVec 2)
  /-- VSEQ_VI (R156). -/
  | vseqVi (d b i : BitVec 5) (m : Bool) (st : BitVec 2)
  /-- VSNE_VV (R156). -/
  | vsneVv (d a b : BitVec 5) (m : Bool) (st : BitVec 2)
  /-- VSNE_VS (R156). -/
  | vsneVs (d a b : BitVec 5) (m : Bool) (st : BitVec 2)
  /-- VSNE_VI (R156). -/
  | vsneVi (d b i : BitVec 5) (m : Bool) (st : BitVec 2)
  /-- VSLT_VV (R156). -/
  | vsltVv (d a b : BitVec 5) (m : Bool) (st : BitVec 2)
  /-- VSLT_VS (R156). -/
  | vsltVs (d a b : BitVec 5) (m : Bool) (st : BitVec 2)
  /-- VSLT_VI (R156). -/
  | vsltVi (d b i : BitVec 5) (m : Bool) (st : BitVec 2)
  /-- VSLTN_VV (R156). -/
  | vsltnVv (d a b : BitVec 5) (m : Bool) (st : BitVec 2)
  /-- VSLTN_VS (R156). -/
  | vsltnVs (d a b : BitVec 5) (m : Bool) (st : BitVec 2)
  /-- VSLTN_VI (R156). -/
  | vsltnVi (d b i : BitVec 5) (m : Bool) (st : BitVec 2)
  /-- VSLE_VV (R156). -/
  | vsleVv (d a b : BitVec 5) (m : Bool) (st : BitVec 2)
  /-- VSLE_VS (R156). -/
  | vsleVs (d a b : BitVec 5) (m : Bool) (st : BitVec 2)
  /-- VSLE_VI (R156). -/
  | vsleVi (d b i : BitVec 5) (m : Bool) (st : BitVec 2)
  /-- VSLEN_VV (R156). -/
  | vslenVv (d a b : BitVec 5) (m : Bool) (st : BitVec 2)
  /-- VSLEN_VS (R156). -/
  | vslenVs (d a b : BitVec 5) (m : Bool) (st : BitVec 2)
  /-- VSLEN_VI (R156). -/
  | vslenVi (d b i : BitVec 5) (m : Bool) (st : BitVec 2)
  /-- VFADD_VV (R158). -/
  | vfaddVv (d a b : BitVec 5) (m : Bool) (st : BitVec 2)
  /-- VFADD_VS (R158). -/
  | vfaddVs (d a b : BitVec 5) (m : Bool) (st : BitVec 2)
  /-- VFSUB_VV (R158). -/
  | vfsubVv (d a b : BitVec 5) (m : Bool) (st : BitVec 2)
  /-- VFSUB_VS (R158). -/
  | vfsubVs (d a b : BitVec 5) (m : Bool) (st : BitVec 2)
  /-- VFMUL_VV (R158). -/
  | vfmulVv (d a b : BitVec 5) (m : Bool) (st : BitVec 2)
  /-- VFMUL_VS (R158). -/
  | vfmulVs (d a b : BitVec 5) (m : Bool) (st : BitVec 2)
  /-- VFDIV_VV (R158). -/
  | vfdivVv (d a b : BitVec 5) (m : Bool) (st : BitVec 2)
  /-- VFDIV_VS (R158). -/
  | vfdivVs (d a b : BitVec 5) (m : Bool) (st : BitVec 2)
  /-- VFSQRT (R158); the second part of `a` is gs of the .VS form, which raises ILLEGAL (06 R158, R173). -/
  | vfsqrt (d : BitVec 5) (a : BitVec 5 × Option (BitVec 5)) (m : Bool) (st : BitVec 2)
  /-- VFRSQE (R101); the second part of `a` is gs of the .VS form, which raises ILLEGAL (06 R158, R173). -/
  | vfrsqe (d : BitVec 5) (a : BitVec 5 × Option (BitVec 5)) (m : Bool) (st : BitVec 2)
  /-- VFRECE (R101); the second part of `a` is gs of the .VS form, which raises ILLEGAL (06 R158, R173). -/
  | vfrece (d : BitVec 5) (a : BitVec 5 × Option (BitVec 5)) (m : Bool) (st : BitVec 2)
  /-- VFEXP (R100); the second part of `a` is gs of the .VS form, which raises ILLEGAL (06 R158, R173). -/
  | vfexp (d : BitVec 5) (a : BitVec 5 × Option (BitVec 5)) (m : Bool) (st : BitVec 2)
  /-- VFEXP2 (R100); the second part of `a` is gs of the .VS form, which raises ILLEGAL (06 R158, R173). -/
  | vfexp2 (d : BitVec 5) (a : BitVec 5 × Option (BitVec 5)) (m : Bool) (st : BitVec 2)
  /-- VFLOG2 (R100); the second part of `a` is gs of the .VS form, which raises ILLEGAL (06 R158, R173). -/
  | vflog2 (d : BitVec 5) (a : BitVec 5 × Option (BitVec 5)) (m : Bool) (st : BitVec 2)
  /-- VFMIN_VV (R158). -/
  | vfminVv (d a b : BitVec 5) (m : Bool) (st : BitVec 2)
  /-- VFMIN_VS (R158). -/
  | vfminVs (d a b : BitVec 5) (m : Bool) (st : BitVec 2)
  /-- VFMAX_VV (R158). -/
  | vfmaxVv (d a b : BitVec 5) (m : Bool) (st : BitVec 2)
  /-- VFMAX_VS (R158). -/
  | vfmaxVs (d a b : BitVec 5) (m : Bool) (st : BitVec 2)
  /-- VFSGNJ_VV (R158). -/
  | vfsgnjVv (d a b : BitVec 5) (m : Bool) (st : BitVec 2)
  /-- VFSGNJ_VS (R158). -/
  | vfsgnjVs (d a b : BitVec 5) (m : Bool) (st : BitVec 2)
  /-- VFSGNJN_VV (R158). -/
  | vfsgnjnVv (d a b : BitVec 5) (m : Bool) (st : BitVec 2)
  /-- VFSGNJN_VS (R158). -/
  | vfsgnjnVs (d a b : BitVec 5) (m : Bool) (st : BitVec 2)
  /-- VFSGNJX_VV (R158). -/
  | vfsgnjxVv (d a b : BitVec 5) (m : Bool) (st : BitVec 2)
  /-- VFSGNJX_VS (R158). -/
  | vfsgnjxVs (d a b : BitVec 5) (m : Bool) (st : BitVec 2)
  /-- VFEQ_VV (R158). -/
  | vfeqVv (d a b : BitVec 5) (m : Bool) (st : BitVec 2)
  /-- VFEQ_VS (R158). -/
  | vfeqVs (d a b : BitVec 5) (m : Bool) (st : BitVec 2)
  /-- VFNE_VV (R158). -/
  | vfneVv (d a b : BitVec 5) (m : Bool) (st : BitVec 2)
  /-- VFNE_VS (R158). -/
  | vfneVs (d a b : BitVec 5) (m : Bool) (st : BitVec 2)
  /-- VFLT_VV (R158). -/
  | vfltVv (d a b : BitVec 5) (m : Bool) (st : BitVec 2)
  /-- VFLT_VS (R158). -/
  | vfltVs (d a b : BitVec 5) (m : Bool) (st : BitVec 2)
  /-- VFLE_VV (R158). -/
  | vfleVv (d a b : BitVec 5) (m : Bool) (st : BitVec 2)
  /-- VFLE_VS (R158). -/
  | vfleVs (d a b : BitVec 5) (m : Bool) (st : BitVec 2)
  /-- VFCLASS (R158); the second part of `a` is gs of the .VS form, which raises ILLEGAL (06 R158, R173). -/
  | vfclass (d : BitVec 5) (a : BitVec 5 × Option (BitVec 5)) (m : Bool) (st : BitVec 2)
  /-- VFCVT (R159); the second part of `a` is gs of the .VS form, which raises ILLEGAL (06 R158, R173). -/
  | vfcvt (d : BitVec 5) (a : BitVec 5 × Option (BitVec 5)) (m : Bool) (st : BitVec 2)
  /-- VFROUND (R160); the second part of `a` is gs of the .VS form, which raises ILLEGAL (06 R158, R173). -/
  | vfround (d : BitVec 5) (a : BitVec 5 × Option (BitVec 5)) (m : Bool) (st : BitVec 2)
  /-- VFMERGE_VV (R158); the second part of `d` is the mask enable X, without which it raises ILLEGAL (06 R158, R173). -/
  | vfmergeVv (d : BitVec 5 × Bool) (a b : BitVec 5) (st : BitVec 2)
  /-- VFMERGE_VS (R158); the second part of `d` is the mask enable X, without which it raises ILLEGAL (06 R158, R173). -/
  | vfmergeVs (d : BitVec 5 × Bool) (a b : BitVec 5) (st : BitVec 2)
  /-- VFMACC_VV (R161). -/
  | vfmaccVv (d a b : BitVec 5) (m : Bool) (st : BitVec 2)
  /-- VFNMACC_VV (R161). -/
  | vfnmaccVv (d a b : BitVec 5) (m : Bool) (st : BitVec 2)
  /-- VFMSAC_VV (R161). -/
  | vfmsacVv (d a b : BitVec 5) (m : Bool) (st : BitVec 2)
  /-- VFNMSAC_VV (R161). -/
  | vfnmsacVv (d a b : BitVec 5) (m : Bool) (st : BitVec 2)
  /-- VFMACC_VS (R161). -/
  | vfmaccVs (d a b : BitVec 5) (m : Bool) (st : BitVec 2)
  /-- VFNMACC_VS (R161). -/
  | vfnmaccVs (d a b : BitVec 5) (m : Bool) (st : BitVec 2)
  /-- VFMSAC_VS (R161). -/
  | vfmsacVs (d a b : BitVec 5) (m : Bool) (st : BitVec 2)
  /-- VFNMSAC_VS (R161). -/
  | vfnmsacVs (d a b : BitVec 5) (m : Bool) (st : BitVec 2)
  /-- VREDSUM (R163). -/
  | vredsum (d a b : BitVec 5) (m : Bool) (st : BitVec 2)
  /-- VREDAND (R163). -/
  | vredand (d a b : BitVec 5) (m : Bool) (st : BitVec 2)
  /-- VREDOR (R163). -/
  | vredor (d a b : BitVec 5) (m : Bool) (st : BitVec 2)
  /-- VREDXOR (R163). -/
  | vredxor (d a b : BitVec 5) (m : Bool) (st : BitVec 2)
  /-- VREDMIN (R163). -/
  | vredmin (d a b : BitVec 5) (m : Bool) (st : BitVec 2)
  /-- VREDMAX (R163). -/
  | vredmax (d a b : BitVec 5) (m : Bool) (st : BitVec 2)
  /-- VREDMINN (R163). -/
  | vredminn (d a b : BitVec 5) (m : Bool) (st : BitVec 2)
  /-- VREDMAXN (R163). -/
  | vredmaxn (d a b : BitVec 5) (m : Bool) (st : BitVec 2)
  /-- VFREDSUM (R164). -/
  | vfredsum (d a b : BitVec 5) (m : Bool) (st : BitVec 2)
  /-- VFREDMIN (R164). -/
  | vfredmin (d a b : BitVec 5) (m : Bool) (st : BitVec 2)
  /-- VFREDMAX (R164). -/
  | vfredmax (d a b : BitVec 5) (m : Bool) (st : BitVec 2)
  /-- VSCAN (R165). -/
  | vscan (d a : BitVec 5) (m : Bool) (st : BitVec 2)
  /-- VFSCAN (R165). -/
  | vfscan (d a : BitVec 5) (m : Bool) (st : BitVec 2)
  /-- VSMX (R166). -/
  | vsmx (d a b : BitVec 5) (m : Bool) (st : BitVec 2)
  /-- VSLIDEUP (R168). -/
  | vslideup (d a b : BitVec 5) (m : Bool) (st : BitVec 2)
  /-- VSLIDEDN (R168). -/
  | vslidedn (d a b : BitVec 5) (m : Bool) (st : BitVec 2)
  /-- VSLIDE1UP (R168). -/
  | vslide1up (d a b : BitVec 5) (m : Bool) (st : BitVec 2)
  /-- VSLIDE1DN (R168). -/
  | vslide1dn (d a b : BitVec 5) (m : Bool) (st : BitVec 2)
  /-- VRGATH (R168). -/
  | vrgath (d a b : BitVec 5) (m : Bool) (st : BitVec 2)
  /-- VCOMPRESS (R169). -/
  | vcompress (d a : BitVec 5) (m : Bool) (st : BitVec 2)
  /-- VEXPAND (R169). -/
  | vexpand (d a : BitVec 5) (m : Bool) (st : BitVec 2)
  /-- VZIP (R168). -/
  | vzip (d a b : BitVec 5) (m : Bool) (st : BitVec 2)
  /-- VUNZIPE (R168). -/
  | vunzipe (d a : BitVec 5) (m : Bool) (st : BitVec 2)
  /-- VUNZIPO (R168). -/
  | vunzipo (d a : BitVec 5) (m : Bool) (st : BitVec 2)
  /-- VDROT (R28). -/
  | vdrot (d a : BitVec 5) (m : Bool) (st : BitVec 2)
  /-- VSPLAT (R168). -/
  | vsplat (d a : BitVec 5) (m : Bool) (st : BitVec 2)
  /-- VID (R168). -/
  | vid (d : BitVec 5) (m : Bool) (st : BitVec 2)
  /-- VINS (R168). -/
  | vins (d a b : BitVec 5) (m : Bool) (st : BitVec 2)
  /-- VEXT (R170). -/
  | vext (d a b : BitVec 5) (st : BitVec 2)
  /-- MAND (R171). -/
  | mand (d a b : BitVec 5) (st : BitVec 2)
  /-- MOR (R171). -/
  | mor (d a b : BitVec 5) (st : BitVec 2)
  /-- MXOR (R171). -/
  | mxor (d a b : BitVec 5) (st : BitVec 2)
  /-- MANDN (R171). -/
  | mandn (d a b : BitVec 5) (st : BitVec 2)
  /-- MNOT (R171). -/
  | mnot (d a : BitVec 5) (st : BitVec 2)
  /-- MSET (R171). -/
  | mset (d : BitVec 5) (st : BitVec 2)
  /-- MCLR (R171). -/
  | mclr (d : BitVec 5) (st : BitVec 2)
  /-- MMV (R171). -/
  | mmv (d a : BitVec 5) (st : BitVec 2)
  /-- MPOP (R171). -/
  | mpop (d a : BitVec 5) (st : BitVec 2)
  /-- MFIRST (R171). -/
  | mfirst (d a : BitVec 5) (st : BitVec 2)
  /-- MSBF (R171). -/
  | msbf (d a : BitVec 5) (st : BitVec 2)
  /-- MFROMV (R171). -/
  | mfromv (d a : BitVec 5) (st : BitVec 2)
  /-- MTOV (R171). -/
  | mtov (d a : BitVec 5) (st : BitVec 2)
  /-- VLD16 (R180). -/
  | vld16 (d a : BitVec 5) (c : BitVec 4) (m : Bool) (st : BitVec 2)
  /-- VLDS16 (R180). -/
  | vlds16 (d a b : BitVec 5) (c : BitVec 4) (m : Bool) (st : BitVec 2)
  /-- VLDX16 (R180). -/
  | vldx16 (d a b : BitVec 5) (c : BitVec 4) (m : Bool) (st : BitVec 2)
  /-- VLDFF16 (R182). -/
  | vldff16 (d a : BitVec 5) (c : BitVec 4) (m : Bool) (st : BitVec 2)
  /-- VLD32 (R180). -/
  | vld32 (d a : BitVec 5) (c : BitVec 4) (m : Bool) (st : BitVec 2)
  /-- VLDS32 (R180). -/
  | vlds32 (d a b : BitVec 5) (c : BitVec 4) (m : Bool) (st : BitVec 2)
  /-- VLDX32 (R180). -/
  | vldx32 (d a b : BitVec 5) (c : BitVec 4) (m : Bool) (st : BitVec 2)
  /-- VLDFF32 (R182). -/
  | vldff32 (d a : BitVec 5) (c : BitVec 4) (m : Bool) (st : BitVec 2)
  /-- VLD64 (R180). -/
  | vld64 (d a : BitVec 5) (c : BitVec 4) (m : Bool) (st : BitVec 2)
  /-- VLDS64 (R180). -/
  | vlds64 (d a b : BitVec 5) (c : BitVec 4) (m : Bool) (st : BitVec 2)
  /-- VLDX64 (R180). -/
  | vldx64 (d a b : BitVec 5) (c : BitVec 4) (m : Bool) (st : BitVec 2)
  /-- VLDFF64 (R182). -/
  | vldff64 (d a : BitVec 5) (c : BitVec 4) (m : Bool) (st : BitVec 2)
  /-- VST16 (R181). -/
  | vst16 (d a : BitVec 5) (c : BitVec 4) (m : Bool) (st : BitVec 2)
  /-- VSTS16 (R181). -/
  | vsts16 (d a b : BitVec 5) (c : BitVec 4) (m : Bool) (st : BitVec 2)
  /-- VSTXO16 (R181). -/
  | vstxo16 (d a b : BitVec 5) (c : BitVec 4) (m : Bool) (st : BitVec 2)
  /-- VSTXA16 (R181). -/
  | vstxa16 (d a b : BitVec 5) (c : BitVec 4) (m : Bool) (st : BitVec 2)
  /-- VST32 (R181). -/
  | vst32 (d a : BitVec 5) (c : BitVec 4) (m : Bool) (st : BitVec 2)
  /-- VSTS32 (R181). -/
  | vsts32 (d a b : BitVec 5) (c : BitVec 4) (m : Bool) (st : BitVec 2)
  /-- VSTXO32 (R181). -/
  | vstxo32 (d a b : BitVec 5) (c : BitVec 4) (m : Bool) (st : BitVec 2)
  /-- VSTXA32 (R181). -/
  | vstxa32 (d a b : BitVec 5) (c : BitVec 4) (m : Bool) (st : BitVec 2)
  /-- VST64 (R181). -/
  | vst64 (d a : BitVec 5) (c : BitVec 4) (m : Bool) (st : BitVec 2)
  /-- VSTS64 (R181). -/
  | vsts64 (d a b : BitVec 5) (c : BitVec 4) (m : Bool) (st : BitVec 2)
  /-- VSTXO64 (R181). -/
  | vstxo64 (d a b : BitVec 5) (c : BitVec 4) (m : Bool) (st : BitVec 2)
  /-- VSTXA64 (R181). -/
  | vstxa64 (d a b : BitVec 5) (c : BitVec 4) (m : Bool) (st : BitVec 2)
  /-- LDI (R50). -/
  | ldi (d : BitVec 5) (imm : BitVec 43) (st : BitVec 2)
  /-- LDIH (R50). -/
  | ldih (d : BitVec 5) (imm : BitVec 21) (st : BitVec 2)
  /-- LACQ (R188). -/
  | lacq (d a : BitVec 5) (imm : BitVec 11) (w scope : BitVec 2) (cls : BitVec 4) (st : BitVec 2)
  /-- SREL (R188). -/
  | srel (b a : BitVec 5) (imm : BitVec 11) (w scope : BitVec 2) (cls : BitVec 4) (st : BitVec 2)
  /-- ASWAP (R189). -/
  | aswap (d a b : BitVec 5) (imm : BitVec 11) (ord : BitVec 2) (wide : Bool) (scope : BitVec 2) (cls : BitVec 4) (st : BitVec 2)
  /-- AADD (R189). -/
  | aadd (d a b : BitVec 5) (imm : BitVec 11) (ord : BitVec 2) (wide : Bool) (scope : BitVec 2) (cls : BitVec 4) (st : BitVec 2)
  /-- AAND (R189). -/
  | aand (d a b : BitVec 5) (imm : BitVec 11) (ord : BitVec 2) (wide : Bool) (scope : BitVec 2) (cls : BitVec 4) (st : BitVec 2)
  /-- AOR (R189). -/
  | aor (d a b : BitVec 5) (imm : BitVec 11) (ord : BitVec 2) (wide : Bool) (scope : BitVec 2) (cls : BitVec 4) (st : BitVec 2)
  /-- AXOR (R189). -/
  | axor (d a b : BitVec 5) (imm : BitVec 11) (ord : BitVec 2) (wide : Bool) (scope : BitVec 2) (cls : BitVec 4) (st : BitVec 2)
  /-- AMIN (R189). -/
  | amin (d a b : BitVec 5) (imm : BitVec 11) (ord : BitVec 2) (wide : Bool) (scope : BitVec 2) (cls : BitVec 4) (st : BitVec 2)
  /-- AMAX (R189). -/
  | amax (d a b : BitVec 5) (imm : BitVec 11) (ord : BitVec 2) (wide : Bool) (scope : BitVec 2) (cls : BitVec 4) (st : BitVec 2)
  /-- AMINN (R189). -/
  | aminn (d a b : BitVec 5) (imm : BitVec 11) (ord : BitVec 2) (wide : Bool) (scope : BitVec 2) (cls : BitVec 4) (st : BitVec 2)
  /-- AMAXN (R189). -/
  | amaxn (d a b : BitVec 5) (imm : BitVec 11) (ord : BitVec 2) (wide : Bool) (scope : BitVec 2) (cls : BitVec 4) (st : BitVec 2)
  /-- AINC (R189). -/
  | ainc (d a b : BitVec 5) (imm : BitVec 11) (ord : BitVec 2) (wide : Bool) (scope : BitVec 2) (cls : BitVec 4) (st : BitVec 2)
  /-- ADEC (R189). -/
  | adec (d a b : BitVec 5) (imm : BitVec 11) (ord : BitVec 2) (wide : Bool) (scope : BitVec 2) (cls : BitVec 4) (st : BitVec 2)
  /-- ABADD (R189). -/
  | abadd (d a b e : BitVec 5) (imm : BitVec 11) (ord : BitVec 2) (wide : Bool) (scope : BitVec 2) (cls : BitVec 4) (st : BitVec 2)
  /-- ACAS (R189). -/
  | acas (d a b e : BitVec 5) (imm : BitVec 11) (ord : BitVec 2) (wide : Bool) (scope : BitVec 2) (cls : BitVec 4) (st : BitVec 2)
  /-- LL (R190). -/
  | ll (d a : BitVec 5) (imm : BitVec 11) (ord : BitVec 2) (wide : Bool) (scope : BitVec 2) (cls : BitVec 4) (st : BitVec 2)
  /-- SC (R190). -/
  | sc (d a b : BitVec 5) (imm : BitVec 11) (ord : BitVec 2) (wide : Bool) (scope : BitVec 2) (cls : BitVec 4) (st : BitVec 2)
  /-- VAADD (R191). -/
  | vaadd (d a b e : BitVec 5) (ret : Bool) (dm : BitVec 8) (me : Bool) (mi : BitVec 4) (scope : BitVec 2) (cls : BitVec 4) (st : BitVec 2)
  /-- VAAND (R191). -/
  | vaand (d a b e : BitVec 5) (ret : Bool) (dm : BitVec 8) (me : Bool) (mi : BitVec 4) (scope : BitVec 2) (cls : BitVec 4) (st : BitVec 2)
  /-- VAOR (R191). -/
  | vaor (d a b e : BitVec 5) (ret : Bool) (dm : BitVec 8) (me : Bool) (mi : BitVec 4) (scope : BitVec 2) (cls : BitVec 4) (st : BitVec 2)
  /-- VAXOR (R191). -/
  | vaxor (d a b e : BitVec 5) (ret : Bool) (dm : BitVec 8) (me : Bool) (mi : BitVec 4) (scope : BitVec 2) (cls : BitVec 4) (st : BitVec 2)
  /-- VAMIN (R191). -/
  | vamin (d a b e : BitVec 5) (ret : Bool) (dm : BitVec 8) (me : Bool) (mi : BitVec 4) (scope : BitVec 2) (cls : BitVec 4) (st : BitVec 2)
  /-- VAMAX (R191). -/
  | vamax (d a b e : BitVec 5) (ret : Bool) (dm : BitVec 8) (me : Bool) (mi : BitVec 4) (scope : BitVec 2) (cls : BitVec 4) (st : BitVec 2)
  /-- VASWAP (R191). -/
  | vaswap (d a b e : BitVec 5) (ret : Bool) (dm : BitVec 8) (me : Bool) (mi : BitVec 4) (scope : BitVec 2) (cls : BitVec 4) (st : BitVec 2)
  /-- VAINC (R191). -/
  | vainc (d a b e : BitVec 5) (ret : Bool) (dm : BitVec 8) (me : Bool) (mi : BitVec 4) (scope : BitVec 2) (cls : BitVec 4) (st : BitVec 2)
  /-- VABADD (R191). -/
  | vabadd (d a b e : BitVec 5) (ret : Bool) (dm : BitVec 8) (me : Bool) (mi : BitVec 4) (scope : BitVec 2) (cls : BitVec 4) (st : BitVec 2)
  /-- VFAADD (R191). -/
  | vfaadd (d a b e : BitVec 5) (ret : Bool) (dm : BitVec 8) (me : Bool) (mi : BitVec 4) (scope : BitVec 2) (cls : BitVec 4) (st : BitVec 2)
  /-- VFAMAX (R191). -/
  | vfamax (d a b e : BitVec 5) (ret : Bool) (dm : BitVec 8) (me : Bool) (mi : BitVec 4) (scope : BitVec 2) (cls : BitVec 4) (st : BitVec 2)
  /-- VGL (R193). -/
  | vgl (d a b : BitVec 5) (dm : BitVec 8) (me : Bool) (mi : BitVec 4) (scope : BitVec 2) (cls : BitVec 4) (st : BitVec 2)
  /-- VSC (R194). -/
  | vsc (d a b e : BitVec 5) (dm : BitVec 8) (me : Bool) (mi : BitVec 4) (scope : BitVec 2) (cls : BitVec 4) (st : BitVec 2)
  /-- VLDQ (R184). -/
  | vldq (d a : BitVec 5) (q8 : Bool) (grp : BitVec 2) (dm : BitVec 8) (me : Bool) (mi cls : BitVec 4) (st : BitVec 2)
  /-- VSTQ (R185). -/
  | vstq (e a : BitVec 5) (q8 : Bool) (grp : BitVec 2) (dm : BitVec 8) (me : Bool) (mi cls : BitVec 4) (st : BitVec 2)
  /-- VLDF16 (R186). -/
  | vldf16 (d a : BitVec 5) (dm : BitVec 8) (me : Bool) (mi cls : BitVec 4) (st : BitVec 2)
  /-- VSTF16 (R186). -/
  | vstf16 (e a : BitVec 5) (dm : BitVec 8) (me : Bool) (mi cls : BitVec 4) (st : BitVec 2)
  /-- VLSEG (R187). -/
  | vlseg (d a : BitVec 5) (f : BitVec 3) (w : BitVec 2) (dm : BitVec 8) (me : Bool) (mi cls : BitVec 4) (st : BitVec 2)
  /-- VSSEG (R187). -/
  | vsseg (e a : BitVec 5) (f : BitVec 3) (w : BitVec 2) (dm : BitVec 8) (me : Bool) (mi cls : BitVec 4) (st : BitVec 2)
  /-- VPUSH (R201). -/
  | vpush (d b a : BitVec 5) (dm : BitVec 8) (cls : BitVec 4) (st : BitVec 2)
  /-- VTAKE (R202). -/
  | vtake (d a : BitVec 5) (dm : BitVec 8) (st : BitVec 2)
  /-- VEMPTY (R202). -/
  | vempty (d : BitVec 5) (dm : BitVec 8) (st : BitVec 2)
  /-- VFILL (R202). -/
  | vfill (d : BitVec 5) (dm : BitVec 8) (st : BitVec 2)
  /-- FGET (R196). -/
  | fget (d a : BitVec 5) (imm : BitVec 11) (scope : BitVec 2) (cls : BitVec 4) (st : BitVec 2)
  /-- FTAKE (R196). -/
  | ftake (d a : BitVec 5) (imm : BitVec 11) (scope : BitVec 2) (cls : BitVec 4) (st : BitVec 2)
  /-- FGIVE (R196). -/
  | fgive (b a : BitVec 5) (imm : BitVec 11) (scope : BitVec 2) (cls : BitVec 4) (st : BitVec 2)
  /-- FEMPTY (R196). -/
  | fempty (a : BitVec 5) (imm : BitVec 11) (scope : BitVec 2) (cls : BitVec 4) (st : BitVec 2)
  /-- FPEEK (R196). -/
  | fpeek (d a : BitVec 5) (imm : BitVec 11) (scope : BitVec 2) (cls : BitVec 4) (st : BitVec 2)
  /-- SBIND (R237). -/
  | sbind (d a : BitVec 5) (imm : BitVec 11) (st : BitVec 2)
  /-- SUNBIND (R241). -/
  | sunbind (d : BitVec 5) (st : BitVec 2)
  /-- SSTAT (R242). -/
  | sstat (d b : BitVec 5) (st : BitVec 2)
  /-- SFLUSH (R241). -/
  | sflush (d : BitVec 5) (st : BitVec 2)
  /-- TPLANAR (R225). -/
  | tplanar (d a b e : BitVec 5) (keep : Bool) (cls : BitVec 4) (st : BitVec 2)
  /-- TPOST (R220). -/
  | tpost (d a : BitVec 5) (scope : BitVec 2) (cls : BitVec 4) (st : BitVec 2)
  /-- TZERO (R226). -/
  | tzero (a : BitVec 5) (cls : BitVec 4) (st : BitVec 2)
  /-- TRENORM (R227). -/
  | trenorm (a b : BitVec 5) (cls : BitVec 4) (st : BitVec 2)
  /-- TLOAD (R228). -/
  | tload (d a b : BitVec 5) (me : Bool) (mi cls : BitVec 4) (st : BitVec 2)
  /-- TINIT (R224). -/
  | tinit (a b p : BitVec 5) (role : Bool) (cls : BitVec 4) (st : BitVec 2)
  /-- TSTAT (R229). -/
  | tstat (d a : BitVec 5) (cls : BitVec 4) (st : BitVec 2)
  /-- TFLAGS (R229). -/
  | tflags (d a b : BitVec 5) (cls : BitVec 4) (st : BitVec 2)
  /-- EPOST (R232). -/
  | epost (d a : BitVec 5) (st : BitVec 2)
  /-- ESUSP (R233). -/
  | esusp (d a : BitVec 5) (all : Bool) (st : BitVec 2)
  /-- ERESM (R233). -/
  | eresm (d a : BitVec 5) (all : Bool) (st : BitVec 2)
  /-- ESTAT (R234). -/
  | estat (d a : BitVec 5) (sel st : BitVec 2)
  /-- EWAIT (R235). -/
  | ewait (d a b : BitVec 5) (imm : BitVec 11) (scope : BitVec 2) (cls : BitVec 4) (st : BitVec 2)
  /-- LKACQ (R246). -/
  | lkacq (d a : BitVec 5) (mode : BitVec 3) (scope st : BitVec 2)
  /-- LKTRY (R246). -/
  | lktry (d a : BitVec 5) (mode : BitVec 3) (scope st : BitVec 2)
  /-- LKREL (R248). -/
  | lkrel (d a : BitVec 5) (scope st : BitVec 2)
  /-- LKUP (R247). -/
  | lkup (d a : BitVec 5) (mode : BitVec 3) (scope st : BitVec 2)
  /-- LKDOWN (R247). -/
  | lkdown (d a : BitVec 5) (mode : BitVec 3) (scope st : BitVec 2)
  /-- LKRELALL (R248). -/
  | lkrelall (d : BitVec 5) (scope st : BitVec 2)
  /-- LKSTAT (R249). -/
  | lkstat (d a : BitVec 5) (scope st : BitVec 2)
  /-- NLAUNCH (R250). -/
  | nlaunch (d a : BitVec 5) (sup : Bool) (st : BitVec 2)
  /-- LLEASE (R251). -/
  | llease (a b : BitVec 5) (st : BitVec 2)
  /-- BSET (R204). -/
  | bset (n : BitVec 3) (a : BitVec 5) (st : BitVec 2)
  /-- BARR (R204). -/
  | barr (d : BitVec 5) (n : BitVec 3) (scope st : BitVec 2)
  /-- BWAIT (R204). -/
  | bwait (n : BitVec 3) (a : BitVec 5) (scope st : BitVec 2)
  /-- BSYNC (R205). -/
  | bsync (n : BitVec 3) (scope st : BitVec 2)
  /-- TSREAD (R207). -/
  | tsread (d : BitVec 5) (k : BitVec 6) (st : BitVec 2)
  /-- XV (R51). -/
  | xv (f6 op : BitVec 6) (ds : BitVec 3) (vm : BitVec 2) (dm : BitVec 8) (cls : BitVec 4) (me : Bool) (mi : BitVec 4) (b a d : BitVec 5) (st : BitVec 2)
  /-- XVI (R52). -/
  | xvi (op : BitVec 6) (d a : BitVec 5) (f6 : BitVec 6) (imm : BitVec 32) (st : BitVec 2)
  /-- C_ILLEGAL (R53). -/
  | cIllegal (a b : BitVec 5)
  /-- C_ADD (R53). -/
  | cAdd (a b : BitVec 5)
  /-- C_SUB (R53). -/
  | cSub (a b : BitVec 5)
  /-- C_MV (R53). -/
  | cMv (a b : BitVec 5)
  /-- C_ADDI (R53). -/
  | cAddi (a i : BitVec 5)
  /-- C_LI (R53). -/
  | cLi (a i : BitVec 5)
  /-- C_SLLI (R53). -/
  | cSlli (a h : BitVec 5)
  /-- C_SRLI (R53). -/
  | cSrli (a h : BitVec 5)
  /-- C_AND (R53). -/
  | cAnd (a b : BitVec 5)
  /-- C_OR (R53). -/
  | cOr (a b : BitVec 5)
  /-- C_XOR (R53). -/
  | cXor (a b : BitVec 5)
  /-- C_LD64 (R53). -/
  | cLd64 (a b : BitVec 5)
  /-- C_ST64 (R53). -/
  | cSt64 (a b : BitVec 5)
  /-- C_BEQZ (R53). -/
  | cBeqz (a i : BitVec 5)
  /-- C_BNEZ (R53). -/
  | cBnez (a i : BitVec 5)
  /-- C_J (R53). -/
  | cJ (i : BitVec 10)
  /-- C_JR (R53). -/
  | cJr (a : BitVec 5)
  /-- C_VSETL (R53). -/
  | cVsetl (a b : BitVec 5)
  /-- C_VADD (R53). -/
  | cVadd (a b : BitVec 5)
  /-- C_VFADD (R53). -/
  | cVfadd (a b : BitVec 5)
  /-- C_VMV (R53). -/
  | cVmv (a b : BitVec 5)
  /-- C_KEND (R53). -/
  | cKend
  /-- C_NOP (R53). -/
  | cNop
  /-- VTYPE_WRITE (R22). -/
  | vtypeWrite (v : BitVec 64)
  /-- VL_WRITE (R24). -/
  | vlWrite (v : BitVec 64)
  /-- VSTART_WRITE (R25). -/
  | vstartWrite (v : BitVec 64)
  /-- VTAGS_WRITE (R35). -/
  | vtagsWrite (hi : Bool) (v : BitVec 64)
  /-- PAIRCTL_MODE_SOLO (R38). -/
  | pairctlModeSolo (v : BitVec 64)
  /-- PAIRCTL_MODE_PAIR (R38). -/
  | pairctlModePair (v : BitVec 64)
  /-- KSLICE_WRITE (R303). -/
  | ksliceWrite (v : BitVec 64)
  /-- CATCTL_WRITE (R280). -/
  | catctlWrite (v : BitVec 64)
  /-- CURCMP_WRITE (R373). -/
  | curcmpWrite (v : BitVec 64)
  /-- PTBASE_WRITE (R438). -/
  | ptbaseWrite (v : BitVec 64)
  /-- SCTX_WRITE (R452). -/
  | sctxWrite (v : BitVec 64)
  /-- TBCFG_WRITE (R386). -/
  | tbcfgWrite (v : BitVec 64)
  /-- DSPSUP_WRITE (R383). -/
  | dspsupWrite (v : BitVec 64)
  /-- CSR_WRITE (R130). -/
  | csrWrite (csr : BitVec 12) (v : BitVec 64)
  /-- PREEMPT_REQUEST_WRITE (R461). -/
  | preemptRequestWrite (n : BitVec 8) (v : BitVec 64)
  /-- HOST_DOORBELL_WRITE (R431). -/
  | hostDoorbellWrite (n : BitVec 8) (v : BitVec 64)
  /-- HOST_MAILBOX_WRITE (R326). -/
  | hostMailboxWrite (w : BitVec 9) (size : BitVec 4) (v : BitVec 64)
  /-- HOST_MEMORY_READ (R442). -/
  | hostMemoryRead (off : BitVec 40) (size : BitVec 4)
  /-- HOST_MEMORY_WRITE (R442). -/
  | hostMemoryWrite (off : BitVec 40) (size : BitVec 4) (v : BitVec 64)
  /-- ATTESTATION_REQUEST (R444). -/
  | attestationRequest (nonce : BitVec 512) (asid : BitVec 16)
  /-- REGISTRAR_SERVE (R327). -/
  | registrarServe
  /-- WAIT_WORD_READ (R331). -/
  | waitWordRead (seq : BitVec 64)
  /-- WALKER_DISPATCH (R334). -/
  | walkerDispatch
  /-- THREAD_RESUME (R337). -/
  | threadResume
  /-- KEND_RETIRE (R135). -/
  | kendRetire (n : BitVec 8)
  /-- ITERATION_FAULT_END (R342). -/
  | iterationFaultEnd (n : BitVec 8)
  /-- NEST_DONE (R342). -/
  | nestDone (seq : BitVec 64)
  /-- NEST_ABORT (R343). -/
  | nestAbort (seq : BitVec 64)
  /-- FEATURE_REQUEUE (R287). -/
  | featureRequeue (seq : BitVec 64)
  /-- GANG_ACK (R346). -/
  | gangAck (gid : BitVec 32) (fabric : BitVec 16)
  /-- GANG_TIMEOUT (R347). -/
  | gangTimeout (seq : BitVec 64)
  /-- TILE_TASK_WTOK_READY (R370). -/
  | tileTaskWtokReady (id : BitVec 64)
  /-- CURATOR_GRANT (R375). -/
  | curatorGrant
  /-- LOCK_REVOKE (R378). -/
  | lockRevoke (name : BitVec 64) (tid : BitVec 8)
  /-- TILE_TASK_ISSUE (R340). -/
  | tileTaskIssue (c : BitVec 5)
  /-- TILE_SLICE_STEP (R365). -/
  | tileSliceStep (id : BitVec 64)
  /-- TILE_MERGE_TURN (R368). -/
  | tileMergeTurn (id : BitVec 64)
  /-- TILE_TASK_FINISH (R221). -/
  | tileTaskFinish (id : BitVec 64)
  /-- COPY_START (R341). -/
  | copyStart (c : BitVec 5)
  /-- COPY_CHUNK (R217). -/
  | copyChunk (id : BitVec 64)
  /-- COPY_FINISH (R221). -/
  | copyFinish (id : BitVec 64)
  /-- FUTURE_WAIT_COMPLETE (R197). -/
  | futureWaitComplete (n : BitVec 8)
  /-- BWAIT_RETURN (R204). -/
  | bwaitReturn (n : BitVec 8)
  /-- EWAIT_RETURN (R235). -/
  | ewaitReturn (n : BitVec 8)
  /-- GATED_READ_PROCEED (R199). -/
  | gatedReadProceed (n : BitVec 8)
  /-- VPUSH_PROCEED (R201). -/
  | vpushProceed (n : BitVec 8)
  /-- NAP_WAKE (R134). -/
  | napWake (n : BitVec 8)
  /-- EMPTY_TIMEOUT (R198). -/
  | emptyTimeout (n : BitVec 8)
  /-- RESERVATION_EXPIRE (R190). -/
  | reservationExpire (n : BitVec 8)
  /-- VIQ_ISSUE (R261). -/
  | viqIssue (n : BitVec 8)
  /-- VIQ_COMPLETE (R261). -/
  | viqComplete (n : BitVec 8)
  /-- VIQ_RETIRE (R261). -/
  | viqRetire (n : BitVec 8)
  /-- CATALOGUE_DEDUP (R271). -/
  | catalogueDedup (n : BitVec 8)
  /-- STREAM_FETCH (R240). -/
  | streamFetch (n : BitVec 8) (r : BitVec 5)
  /-- LEAD_ISSUE (R299). -/
  | leadIssue (n : BitVec 8)
  /-- LEAD_FORK_COPY_DONE (R302). -/
  | leadForkCopyDone (n : BitVec 8)
  /-- ASYNC_TRAP_TAKE (R431). -/
  | asyncTrapTake (n : BitVec 8)
  /-- TIMER_COMPARE (R431). -/
  | timerCompare (n : BitVec 8)
  /-- USER_TRAP_DELIVER (R349). -/
  | userTrapDeliver (n : BitVec 8)
  /-- SCRATCH_WAY_RESTORE (R466). -/
  | scratchWayRestore (n : BitVec 8) (w : BitVec 4)
  /-- ICACHE_FILL (R418). -/
  | icacheFill (n : BitVec 8) (addr : BitVec 64)
  /-- PAGE_WALK (R434). -/
  | pageWalk (n : BitVec 8) (addr : BitVec 64) (kind : BitVec 2)
  /-- L2_FILL (R389). -/
  | l2Fill (pa : BitVec 52)
  /-- COALESCE_DRAIN_TIMEOUT (R407). -/
  | coalesceDrainTimeout (n : BitVec 8)
  /-- LOAN_RECALL_DONE (R391). -/
  | loanRecallDone (pa : BitVec 52)
  /-- SLOT_WHEEL_FRAME (R401). -/
  | slotWheelFrame
  /-- GOLDEN_EPOCH (R395). -/
  | goldenEpoch
  /-- LINK_FLIT_RECEIVE (R397). -/
  | linkFlitReceive (link : BitVec 5) (flit : BitVec 576)
  /-- AXOLOTL_REPLAN (R447). -/
  | axolotlReplan (die : BitVec 3) (group : BitVec 2) (short : Bool)
  /-- DIE_DOMAIN_DOWN (R402). -/
  | dieDomainDown (die : BitVec 3)
  /-- DEVICE_RESET (R37). -/
  | deviceReset
  /-- UNCORRECTABLE_ERROR_AFTER_ACK (R342). -/
  | uncorrectableErrorAfterAck (seq loc : BitVec 64)
  deriving DecidableEq, Repr

end Sys2Proof
end

