-- ==== Sys2Proof/Machine/Types.lean ====
section
/-! DEFINITION. The parts of the machine's state, as plain data (01 R14 to R42 and the chapters named at each part). -/

namespace Sys2Proof.Machine

/-- The three privilege levels (01 R40). -/
inductive Level where
  | user | supervisor | firmware
  deriving DecidableEq, Repr

/-- A level as SSTATUS.PPL numbers it (20 Table 20-2). -/
def Level.num : Level → Nat
  | .user => 0
  | .supervisor => 1
  | .firmware => 2

/-- The level numbered n; 3 is never held (20 Table 20-2). -/
def Level.ofNum : Nat → Level
  | 0 => .user
  | 1 => .supervisor
  | _ => .firmware

/-- Vector type tags (01 Table 01-2). A reserved code never stands in a tag (R19), so there is none. -/
inductive Tag where
  | i32 | i16 | i64 | bf16 | f32 | f64
  deriving DecidableEq, Repr

/-- One vector register: its bits, its tag and the poison marks of its 1,024 units of 16 bits
(01 R17, R18; 07 R176). -/
structure VReg where
  bits : VBits
  tag : Tag
  poison : BitVec 1024
  deriving DecidableEq, Repr

/-- Trap causes (20 Table 20-1). -/
inductive Cause where
  | empty | wound | engdone | streamerr
  | illegal | priv | overlap | fmt | stall | feature | align | xlateR | xlateW | xlateX | perm
  | firstuse | svc | brk | lockmisuse | poison | preempt | hostint | timer | gangfail
  deriving DecidableEq, Repr

/-- The code of a cause (20 Table 20-1). -/
def Cause.code : Cause → Nat
  | .empty => 0x01 | .wound => 0x02 | .engdone => 0x03 | .streamerr => 0x04
  | .illegal => 0x10 | .priv => 0x11 | .overlap => 0x12 | .fmt => 0x13 | .stall => 0x14
  | .feature => 0x15 | .align => 0x16 | .xlateR => 0x17 | .xlateW => 0x18 | .xlateX => 0x19
  | .perm => 0x1A | .firstuse => 0x1B | .svc => 0x1C | .brk => 0x1D | .lockmisuse => 0x1E
  | .poison => 0x20 | .preempt => 0x30 | .hostint => 0x31 | .timer => 0x32 | .gangfail => 0x33

/-! ### Vector operations, as the vector unit holds them -/

/-- Element-wise integer operations (06 Table 06-3). -/
inductive IntOp where
  | add | sub | rsub | mul | mulh | mulhn | mac | and | or | xor | sll | srl | sra
  | min | max | minn | maxn | div | divn | rem | remn | sadd | ssub
  deriving DecidableEq, Repr

/-- Integer compares (06 Table 06-3). -/
inductive ICmp where
  | eq | ne | lt | ltn | le | len
  deriving DecidableEq, Repr

/-- Element-wise floating-point operations (06 Table 06-5). -/
inductive FpOp where
  | add | sub | mul | div | sqrt | rsqe | rece | exp | exp2 | log2 | min | max
  | sgnj | sgnjn | sgnjx | cls | round
  deriving DecidableEq, Repr

/-- Floating-point compares (06 Table 06-5). -/
inductive FCmp where
  | eq | ne | lt | le
  deriving DecidableEq, Repr

/-- The four fused forms (06 Table 06-6). -/
inductive FmaOp where
  | macc | nmacc | msac | nmsac
  deriving DecidableEq, Repr

/-- Reductions to a g register (06 Table 06-7). -/
inductive RedOp where
  | sum | and | or | xor | min | max | minn | maxn | fsum | fmin | fmax
  deriving DecidableEq, Repr

/-- Permutes into a vector register (06 Table 06-8). -/
inductive PermOp where
  | slideup | slidedn | slide1up | slide1dn | rgath | compress | expand | zip | unzipe | unzipo
  | drot | splat | vid | ins
  deriving DecidableEq, Repr

/-- Mask operations (06 Table 06-9). -/
inductive MaskOp where
  | and | or | xor | andn | not | set | clr | mv | pop | first | sbf | fromv | tov
  deriving DecidableEq, Repr

/-- Address forms of vector memory instructions (07 R174). -/
inductive VAddr where
  | unit | stride | index
  deriving DecidableEq, Repr

/-- Vector atomics (07 R191). -/
inductive VamoOp where
  | add | and | or | xor | min | max | swap | inc | badd | fadd | fmax
  deriving DecidableEq, Repr

/-- What a vector instruction does (06, 07, 08 Table 08-1); `lost` stands for one that a replay could not fetch again
(02 R44, log 22). -/
inductive VOp where
  | int (o : IntOp) | icmp (o : ICmp) | merge | mv
  | fp (o : FpOp) | fcmp (o : FCmp) | fcvt | fmerge | fma (o : FmaOp)
  | red (o : RedOp) | scan | fscan | smx | perm (o : PermOp) | ext | mask (o : MaskOp)
  | setty (code : BitVec 5)
  | load (md : VAddr) (z : Nat) | loadff (z : Nat) | store (md : VAddr) (z : Nat) (ordered : Bool)
  | ldq (q8 : Bool) (grp : Nat) | stq (q8 : Bool) (grp : Nat) | ldf16 | stf16
  | ldseg (f w : Nat) | stseg (f w : Nat)
  | amo (o : VamoOp) (ret : Bool) | gl | sc
  | push | take | vempty | vfill
  | tplanar (keep : Bool) | tpost (scope : BitVec 2) | tzero | trenorm | tload
  | tinit (p : BitVec 5) (role : Bool) | tstat | tflags
  | epost | sbind (imm : BitVec 11) | sunbind | sstat | sflush
  | lost (c : Cause) (val : Word)
  deriving DecidableEq, Repr

/-- Where the second operand comes from (06 Table 06-1). -/
inductive VSrc where
  | none | vec (r : Reg) | gpr | imm5 (i : BitVec 5) | imm32 (i : BitVec 32)
  deriving DecidableEq, Repr

/-- A vector instruction as it stands in the queue: its operation and fields. `va` is the first
vector source, `vc` the vs3 field, `dm` and `ds` the die fields of a 64-bit form (02 R49, R51). -/
structure VDesc where
  op : VOp
  vd : Reg
  va : Reg
  b : VSrc
  vc : Reg
  gd : Reg
  masked : Bool
  mi : BitVec 4
  dm : Option (BitVec 8)
  ds : Option (BitVec 3)
  cls : BitVec 4
  deriving DecidableEq, Repr

/-- The translation context an agent acts in (14 R331, R471; 20 R445). `core` is the core whose
scratch window and cluster it reaches, `age` and `tid` the thread whose scratch ways those are (17 R470; 22 R466). -/
structure Ctx where
  ptbase : Word
  asid : BitVec 16
  level : Level
  core : Nat
  age : Nat
  tid : Nat
  deriving DecidableEq, Repr

/-- How far an entry of the queue has come (10 R261, R274). -/
inductive VStage where
  | queued | issued | hit | done
  deriving DecidableEq, Repr

/-- An entry of the vector instruction queue with what it captured (10 R260, R263).
`srq` lists the g destinations still pending, `results` the values to return (R262),
`popped` whether its strips have been popped (08 R238), `din` its dynamic instruction number (12 R304), `ctx` the translation
context, `spin` the EMPTYSPIN and `cat` whether the Catalogue was on at its entry (05 R130), `banked` whether a user-level
handler issued it (01 R16), `otag` the tag its destination had before it stopped part-way (06 R149). -/
structure VEntry where
  desc : VDesc
  pc : Word
  x1 : Word
  x2 : Word
  x3 : Word
  vl : BitVec 15
  vtype : Word
  granted : BitVec 8
  frm : BitVec 3
  ftz : Bool
  progress : Nat
  abandoned : Bool
  stage : VStage
  popped : Bool
  srq : List Reg
  results : List (Reg × Word)
  since : Nat
  din : Nat
  ctx : Ctx
  cat : Bool
  banked : Bool
  spin : BitVec 32
  otag : Option Tag
  deriving DecidableEq, Repr

/-- A stream binding (08 R218, R237, R242); `ahead` counts strips fetched ahead (R240). -/
structure Binding where
  reg : Reg
  desc : BitVec 512
  pos : Nat
  ended : Bool
  err : Bool
  ahead : Nat
  deriving DecidableEq, Repr

/-- A queued user-level trap (14 R350). -/
structure UTrap where
  cause : Cause
  value : Word
  deriving DecidableEq, Repr

/-- The user CSRs a thread owns (01 Table 01-6) but those that are views of other state. -/
structure Csrs where
  fflags : BitVec 5
  frm : BitVec 3
  ftz : Bool
  vl : BitVec 15
  vtype : Word
  vstart : BitVec 15
  vdirty : BitVec 32
  vloaded : BitVec 32
  vfemask : BitVec 32
  vfestate : BitVec 32
  vcp : Word
  vqpos : BitVec 6
  vfpc : Word
  leasePref : BitVec 8
  leaseMin : BitVec 8
  leaseGranted : BitVec 8
  catctl : BitVec 2
  catcls : BitVec 16
  cathit : Word
  catmiss : Word
  schk : Bool
  pairctl : BitVec 32
  kslice : BitVec 32
  reforks : Word
  utvec : Word
  utcause : BitVec 8
  utpc : Word
  utval : Word
  utActive : Bool
  emptyspin : BitVec 32
  utmask : BitVec 5
  tbcfg : BitVec 16
  threadid : BitVec 16
  nestid : Word
  gangrank : BitVec 16
  gpass : Word
  ifmiss : Word
  ipdrop : Word
  cycle : Word
  instret : Word
  deriving DecidableEq, Repr

/-- A fixed-latency result still inside its latency: the register, the first issue slot at which a
reader is sure of it, and the value before it (02 R56, R57). -/
structure Pending where
  reg : Reg
  ready : Nat
  old : Word
  deriving DecidableEq, Repr

/-- The wait of a scalar instruction that has not retired: the cycle it began at (07 R198). -/
structure Wait where
  since : Nat
  deriving DecidableEq, Repr

/-- The state of one thread (01 Table 01-1, R41, R42). `arrival` holds the barrier, the generation and the address of a
`bsync` that has arrived (07 R205); `held` counts the entries at the head of the queue that wait
for uret, `din` the instructions issued so far (12 R304), `uvec` the scalar address a user-level trap taken at VCP resumes at (07 R199, log 31). -/
structure Thread where
  g : Vector Word 32
  bank : Option (Vector Word 8)
  pc : Word
  v : Vector VReg 32
  m : Vector MBits 16
  csr : Csrs
  slot : Nat
  din : Nat
  lat : List Pending
  viq : List VEntry
  vecSeen : Bool
  resv : Option (Nat × Nat)
  vresv : List (Nat × Nat × Nat)
  arrival : Option (BitVec 3 × BitVec 32 × Word)
  utq : List UTrap
  woundOverflow : Bool
  revoked : Bool
  streams : List Binding
  floor : Word
  fault : Option (Nat × Nat × Word)
  wait : Option Wait
  nest : Nat
  ord : Nat
  stage : Nat
  tid : Nat
  prio : Nat
  minCols : Nat
  vlfix : Bool
  cycleFrom : Nat
  held : Nat
  uvec : Option Word
  deriving DecidableEq, Repr

/-- Who a thread is: what the walker gave it at its dispatch (14 R333, R335). -/
structure Who where
  nest : Nat
  ord : Nat
  stage : Nat
  tid : Nat
  prio : Nat
  minCols : Nat
  vlfix : Bool
  deriving DecidableEq, Repr

/-- An entry of the delay buffer (12 Table 12-4). -/
inductive DEntry where
  | br (din : Nat) (taken : Bool) (target : Word)
  | gl (din : Nat) (lines : List Nat)
  | pf (din line die : Nat)
  | sy (din : Nat) (pc : Word)
  deriving DecidableEq, Repr

/-- The lead stream (12 R299 to R312): its copies, known bits, issue slots, next instruction number and delay buffer; `csr` are
the user CSRs at the last fork with the lead's own VL and VTYPE, `syncs` what each synchronising CSR read there. `todo` are the entries of its last instruction that the full
buffer has not taken. `owed` names the older vector instructions that still have to write a copied register, each with the g
registers it returns; `copyUntil` is the cycle a fork's copy ends once nothing is owed, none once the lead runs (R302). -/
structure Lead where
  pc : Word
  g : Vector Word 32
  known : BitVec 32
  m : Vector MBits 16
  v : Vector VReg 32
  csr : Csrs
  syncs : List (Nat × Word)
  vlKnown : Bool
  din : Nat
  slot : Nat
  lat : List Pending
  buf : List DEntry
  todo : List DEntry
  owed : List (Nat × List Reg)
  copyUntil : Option Nat
  fstop : Bool
  syw : Bool
  deriving DecidableEq, Repr

/-- The key of a Catalogue entry (10 R272, R278). -/
structure CatKey where
  op : VOp
  bkind : Nat
  masked : Bool
  maskNames : List Nat
  vl : Nat
  vtype : Word
  dm : BitVec 8
  ds : BitVec 3
  frm : BitVec 3
  ftz : Bool
  srcNames : List Nat
  scalars : List Word
  dstNames : List Nat
  cls : BitVec 4
  deriving DecidableEq, Repr

/-- A Catalogue entry: key, the names and contents of its value registers, the flags it raised and,
for a load, the granules it touched (10 R275, R277, R278). -/
structure CatEntry where
  key : CatKey
  isMask : Bool
  names : List Nat
  vregs : List VReg
  masks : List MBits
  flags : BitVec 5
  load : Option (BitVec 4 × List Nat)
  deriving DecidableEq, Repr

/-- The Catalogue of a core, most recently used entry first, and the names of the physical registers
behind the architectural ones (10 R270 to R276). -/
structure Catalogue where
  entries : List CatEntry
  vname : Vector Nat 32
  mname : Vector Nat 16
  fresh : Nat
  deriving DecidableEq, Repr

/-- A 64-byte line of an instruction cache, by virtual address and ASID (19 R418). -/
structure ILine where
  line : Nat
  asid : BitVec 16
  data : BitVec 512
  deriving DecidableEq, Repr

/-- A fill of the instruction cache in flight that an `iprf` asked for: the line, its ASID, and where it is read from (19 R418). -/
structure IFill where
  line : Nat
  asid : BitVec 16
  loc : Nat
  key : Nat
  deriving DecidableEq, Repr

/-- A line in a cache way of a die slice of a tile buffer (17 R385). -/
structure TbLine where
  die : Nat
  way : Nat
  line : Nat
  deriving DecidableEq, Repr

/-- A line in the coalescing buffer of a die slice, and the cycle of its first write (17 R385; 18 R407). -/
structure CoLine where
  die : Nat
  line : Nat
  since : Nat
  deriving DecidableEq, Repr

/-- The supervisor and firmware CSRs of a core (01 Table 01-6, 20 Table 20-2, 22 R466). -/
structure SCsrs where
  stvec : Word
  scause : BitVec 8
  sepc : Word
  stval : Word
  sstatus : Word
  sctx : Word
  ptbase : Word
  asid : BitVec 16
  sscratch : Word
  fustat : Word
  timecmp : Word
  tbsbase : Word
  deriving DecidableEq, Repr

/-- Whether a core runs a thread (14 R334; 20 R430; 05 R134). -/
inductive Run where
  | idle | live | napping | stopped
  deriving DecidableEq, Repr

/-- The owner of scratch data left in a way: its save-area base, its memory key, and its thread's age and id (22 R466). -/
structure WayOwner where
  sctx : Word
  key : Nat
  age : Nat
  tid : Nat
  deriving DecidableEq, Repr

/-- A scratch way that the device has saved: its owner, its number and the physical address it went to (22 R466). -/
structure SavedWay where
  owner : WayOwner
  way : Nat
  base : Nat
  deriving DecidableEq, Repr

/-- One core: its thread, level, CSRs, pending asynchronous causes, caches, lead and Catalogue. `ready` is the cycle it
is next ready at (log 6), `ahead` how many turns the scalar unit still takes before the vector unit moves (log 11).
`leadV` are the vector registers the lead last held, `refork` says that a fork is wanted at the next boundary and `diverged` that
REFORKS counts it (12 R300, R303). `fills` are the instruction lines on their way (19 R418).
`scratchOwner` names the owner of each scratch way that a context switched out has left (22 R466). `out` says that its thread has been set aside by a pre-emption and a trap handler runs in its
place (14 R336). -/
structure Core where
  th : Thread
  run : Run
  ready : Nat
  ahead : Nat
  level : Level
  sup : SCsrs
  preempt : Bool
  preemptStop : Bool
  hostint : Option Word
  gangfail : Option (BitVec 32)
  icache : List ILine
  fills : List IFill
  tblines : List TbLine
  coalesce : List CoLine
  scratchOwner : List (Nat × WayOwner)
  lead : Option Lead
  leadV : Vector VReg 32
  refork : Bool
  diverged : Bool
  cat : Catalogue
  out : Bool
  deriving DecidableEq, Repr

/-- A barrier register (01 Table 01-5). -/
structure Bar where
  gen : BitVec 32
  count : BitVec 16
  target : BitVec 16
  deriving DecidableEq, Repr

/-- One row of an accumulator tile (04 R108, R109): 64 mantissas, the exponent and the sticky flags
TRUNC, RENORM, SAT, NANV, EOVF in bits 0 to 4. -/
structure TileRow where
  m : List Int
  e : Int
  flags : BitVec 5
  deriving DecidableEq, Repr

/-- A planar header (04 R105): exponents, precision, role, slices and NANV. -/
structure PlanarHdr where
  e : List Int
  p : Nat
  role : Nat
  k : Nat
  nanv : Bool
  deriving DecidableEq, Repr

/-- States of a tile task (16 Table 16-2); a running task knows its engine. -/
inductive TaskState where
  | waiting | queued | ready | running | finishing | finished | suspended
  deriving DecidableEq, Repr

/-- A tile task in the scheduler (08 R213, R221; 16 R370). `tile` is the working tile, `hdrs` the headers of a multiplication as its
start has read and checked them (08 R472),
`failed` the failure code, `stopped` that its poster was stopped with STOP (22 R464), `due` the cycle its engine is done
with what it is at (16 R362). -/
structure TileTask where
  id : Nat
  cluster : Nat
  record : BitVec 512
  cls : BitVec 4
  scope : BitVec 2
  ctx : Ctx
  nest : Nat
  ord : Nat
  tid : Nat
  state : TaskState
  engine : Nat
  slice : Nat
  tile : List TileRow
  hdrs : Option (PlanarHdr × PlanarHdr)
  failed : Nat
  stopped : Bool
  due : Nat
  deriving DecidableEq, Repr

/-- States of a copy command (08 R217, R233; 22 R465). -/
inductive CopyState where
  | queued | running | finished
  deriving DecidableEq, Repr

/-- A byte of a segment split that stands in the buffer of its field: where it goes, and its value (17 R400). -/
structure BufByte where
  field : Nat
  key : Nat
  loc : Nat
  val : Nat
  deriving DecidableEq, Repr

/-- A copy command in the queue (08 R215, R221); `due` is the cycle its next stretch ends at (log 6), `buf` what stands in the
buffers of a segment split (17 R400). -/
structure CopyCmd where
  id : Nat
  cluster : Nat
  record : BitVec 512
  ctx : Ctx
  nest : Nat
  ord : Nat
  tid : Nat
  state : CopyState
  progress : Nat
  suspended : Bool
  stopped : Bool
  failed : Nat
  due : Nat
  buf : List BufByte
  deriving DecidableEq, Repr

/-- What a cluster owns (01 Table 01-1): barriers, token counters, available columns, the core that
received the first column of the last deal and the target of each core's thread (14 R338). -/
structure Cluster where
  bars : Vector Bar 8
  tokens : Vector (BitVec 32) 64
  cols : Nat
  deal : Nat
  targets : Vector Nat 8
  deriving DecidableEq, Repr

/-- Lock modes (16 R371, R373). -/
inductive Mode where
  | nl | is | ix | s | six | inc | x
  deriving DecidableEq, Repr

/-- A holder or waiter of the Curator (16 R371): a thread by its age and id, or a tile task. -/
inductive Holder where
  | thread (age tid : Nat)
  | task (id : Nat)
  deriving DecidableEq, Repr

/-- One entry of the lock table (16 R371); `wounded` is the cycle of an outstanding wound (R377). -/
structure LockEntry where
  holder : Holder
  age : Nat
  tid : Nat
  name : Word
  expl : Mode
  wounded : Option Nat
  deriving DecidableEq, Repr

/-- A waiting request of the Curator, oldest arrival first (16 R375). -/
structure LockReq where
  holder : Holder
  age : Nat
  tid : Nat
  name : Word
  mode : Mode
  upgrade : Bool
  rep : Bool
  deriving DecidableEq, Repr

/-- The Curator (16 R371 to R379). -/
structure Curator where
  cmp : Word
  grace : BitVec 32
  held : List LockEntry
  queue : List LockReq
  starved : List LockReq
  deriving DecidableEq, Repr

/-- A running iteration of a nest (14 R334, R342, R343): its threads that have not ended, whether one faulted, and whether
one ended without counting. -/
structure Iter where
  ord : Nat
  left : Nat
  faulted : Bool
  lost : Bool
  deriving DecidableEq, Repr

/-- A nest the walker holds (14 R329 to R334, R342, R346, R348): `gangLate` says that an eager gang did not form in time, `rank` is
the rank its dispatched threads have been given. -/
structure Nest where
  seq : Nat
  record : BitVec 1024
  ctx : Ctx
  eligible : Bool
  aborted : Bool
  nextOrd : Nat
  lastCluster : Option Nat
  iters : List Iter
  postedAt : Nat
  acks : List (BitVec 16)
  gangFormed : Bool
  gangLate : Bool
  badWait : Bool
  rank : Option (BitVec 16)
  deriving DecidableEq, Repr

/-- A set-aside thread with its level, the core it left and the cycle it was set aside (14 R336, R337). `area` is the DSP
offset of the save area that holds the context of one set aside by a pre-emption (21 R451), `asked` whether the walker has
posted a request for it (14 R345). -/
structure Aside where
  th : Thread
  level : Level
  core : Nat
  since : Nat
  area : Option Nat
  asked : Bool
  deriving DecidableEq, Repr

/-- The walker's tables (14); `early` holds acknowledgements of gangs whose nest this device has not accepted yet (R346). -/
structure Walker where
  nests : List Nest
  aside : List Aside
  nextSeq : Nat
  requests : List (Nat × Nat × BitVec 32)
  early : List (BitVec 32 × BitVec 16)
  deriving DecidableEq, Repr

/-- The Registrar's tables (14 R327): the kept record and the last word taken of each level. -/
structure Registrar where
  kept : Vector (Option (BitVec 1024)) 8
  last : Vector Nat 8
  ptbase : Word
  deriving DecidableEq, Repr

/-- An entry of the deferred error log (20 R441). -/
structure ErrEntry where
  pa : Nat
  size : Nat
  kind : Nat
  time : Word
  core : Option Nat
  deriving DecidableEq, Repr

/-- What the host sees (20 R441, R442, R444; 14 R326, R327): `mailboxLog` holds the word, the value and the TIME of each mailbox write
that was lost, `lastPoison` whether the data of the last read carried poison. -/
structure HostView where
  errors : List ErrEntry
  overflow : Nat
  refusals : List Word
  mailboxOverflow : Nat
  mailboxLog : List (Nat × Word × Word)
  preemptLog : Nat
  msix : List Nat
  lastRead : Word
  lastPoison : Bool
  report : List Byte
  images : List (BitVec 16 × BitVec 2048)
  deriving DecidableEq, Repr

/-- The translation look-aside buffers (20 Table 20-4). -/
inductive TlbId where
  | itlb (core : Nat) | dtlb (core : Nat) | block (cluster die : Nat) | die (die : Nat) | sqd
  deriving DecidableEq, Repr

/-- A TLB entry: a valid leaf with the level that bounds its page (20 R434, R437). -/
structure TlbEntry where
  tlb : TlbId
  asid : BitVec 16
  level : Nat
  vpn : Nat
  pte : Word
  pteAt : Nat
  deriving DecidableEq, Repr

/-- What a waiting future operation does (07 Table 07-6). -/
inductive FutKind where
  | get | take | give
  deriving DecidableEq, Repr

/-- A waiting FUT instruction; the list of them is in order of arrival. `owed` says that the last change of the word's bit
lets it complete before anything that came later (07 R197), `got` the word as it stood when that change filled it (18 R417). -/
structure FutWait where
  core : Nat
  loc : Nat
  kind : FutKind
  owed : Bool
  got : Option Nat
  deriving DecidableEq, Repr

/-- A completion object that an engine operation of a thread has added to, with whether the thread's scalar unit has read
the addition (18 R412). -/
structure Join where
  nest : Nat
  ord : Nat
  tid : Nat
  loc : Nat
  seen : Bool
  deriving DecidableEq, Repr

/-- An acknowledged update of a non-returning atomic of a nest that no later access of its line has passed: its bytes, and what
they were before (18 R415). -/
structure Acked where
  seq : Nat
  key : Nat
  loc : Nat
  n : Nat
  old : Nat
  deriving DecidableEq, Repr

/-- The memory of the device (17 R381 to R388): one canonical list of bytes over all locations, the
future words that are full, the poisoned units and the keys of sectors. -/
structure Mem where
  cells : List Host.Cell
  full : List Nat
  poison : List Nat
  keys : List (Nat × Nat)
  deriving DecidableEq, Repr

/-- An element that a link's data flits carry: its address, its value, and whether its flit was poisoned (17 R397, R398). -/
structure LinkElem where
  addr : Word
  val : Nat
  bad : Bool
  deriving DecidableEq, Repr

/-- A context open on a direction of a link (17 R398, Table 17-5): its operation, class and scope, the units it goes between, the
operand data of its header, the size, address, stride and number of its elements, how many have passed, and those received. -/
structure LinkCtx where
  link : Nat
  tag : Nat
  op : Nat
  cls : BitVec 4
  scope : BitVec 2
  dstUnit : Nat
  srcUnit : Nat
  operand : BitVec 288
  elem : Nat
  addr : Word
  stride : Word
  count : Nat
  passed : Nat
  got : List LinkElem
  deriving DecidableEq, Repr

/-- One direction of a die link (17 R397, R398): the sequence number its receiver expects, the flits its sender holds for replay,
newest first, the replay that is asked for, with the sequence number it starts from and whether it is maintenance traffic, the
credits returned, and the headers that wait at the sender for a context to close. -/
structure Link where
  seq : BitVec 16
  held : List (BitVec 576)
  replay : Option (BitVec 16 × Bool)
  credits : Nat
  waiting : List (BitVec 576)
  deriving DecidableEq, Repr

/-- A line that an L2 slice of a die holds: its home's copy or one lent to the die (17 R389, R390). -/
structure L2Line where
  die : Nat
  line : Nat
  dirty : Bool
  deriving DecidableEq, Repr

/-- The reads of a clean line that its home has served in this frame, by requesting die; 8 is the SQD (17 R390). -/
structure LineReads where
  line : Nat
  by_ : Vector Nat 9
  deriving DecidableEq, Repr

/-- A line that is lent (17 R390, R391): its helpers, each with the reads it has served in its last frames, the latest first, and
the loan notes, each a requesting die with the helper its reads are sent to. -/
structure Loan where
  line : Nat
  helpers : List (Nat × List Nat)
  notes : List (Nat × Nat)
  deriving DecidableEq, Repr

/-- A flit on a lane die's mesh: the die, and the node and the injection slot it took (17 R394, R395). -/
structure MeshFlit where
  die : Nat
  node : Nat
  slot : Nat
  deriving DecidableEq, Repr

/-- What decides no value but through an acknowledged atomic that is lost: L2 lines with the most recently used first, reads, loans,
links, open contexts and the transfers of closed ones, the replays and the other corrected errors counted, flits on the meshes, slot
wheel, golden epoch, Axolotl (17 R389 to R401; 20 R439, R447). -/
structure Fabric where
  l2 : List L2Line
  reads : List LineReads
  loans : List Loan
  acked : List Acked
  links : Vector Link 32
  linkOpen : List LinkCtx
  transfers : List LinkCtx
  replays : Nat
  corrected : Nat
  mesh : List MeshFlit
  frame : Nat
  epoch : Nat
  vddc : Vector Nat 8
  clock : Vector Nat 8
  nextVddc : Vector Nat 8
  nextClock : Vector Nat 8
  retireCols : List (Nat × Nat)
  retireBanks : Bool
  deriving DecidableEq, Repr

/-- What an agent leaves for a thread: a user-level trap (14 R350), a revocation (16 R378) or a failure of one of its
operations (08 R222). -/
inductive Note where
  | trap (u : UTrap)
  | revoked
  | failure (code kind : Nat) (utag : Word)
  deriving DecidableEq, Repr

/-- A note for a thread that a switch has taken off its core into a save area (22 R464, R467). -/
structure Away where
  nest : Nat
  ord : Nat
  tid : Nat
  note : Note
  deriving DecidableEq, Repr

/-- What the device owns (01 Table 01-1) and its agents' tables. `blocks` says whose context the block in a save area is, by its
DSP offset (21 R452), `savedWays` the scratch ways that the device has saved (22 R466), `carried` the greatest TIME that a release
has carried (18 R413). -/
structure Dev where
  clk : Nat
  vlen : Nat
  mem : Mem
  tierBytes : Nat
  down : BitVec 8
  tlbs : List TlbEntry
  dspsup : BitVec 10
  clusters : Vector Cluster 32
  tasks : List TileTask
  copies : List CopyCmd
  nextOp : Nat
  slots : List (Nat × Nat)
  cur : Curator
  walker : Walker
  reg : Registrar
  host : HostView
  futq : List FutWait
  joins : List Join
  away : List Away
  blocks : List (Nat × Who)
  savedWays : List SavedWay
  carried : Word
  fabric : Fabric
  deriving DecidableEq, Repr

end Sys2Proof.Machine
end

