-- ==== Sys2Proof/Machine/IntOps.lean ====
section
/-! DEFINITION. Integer arithmetic at a width w, for scalars (w = 64) and elements (04 R85; 05 Table 05-1). -/

namespace Sys2Proof.Machine

/-- Signed quotient: all ones for a zero divisor (04 R85). -/
def idiv {w : Nat} (x y : BitVec w) : BitVec w := if y = 0 then BitVec.allOnes w else x.sdiv y
/-- Unsigned quotient. -/
def idivn {w : Nat} (x y : BitVec w) : BitVec w := if y = 0 then BitVec.allOnes w else x / y
/-- Signed remainder: the dividend for a zero divisor. -/
def irem {w : Nat} (x y : BitVec w) : BitVec w := if y = 0 then x else x.srem y
/-- Unsigned remainder. -/
def iremn {w : Nat} (x y : BitVec w) : BitVec w := if y = 0 then x else x % y
/-- High half of the signed product. -/
def imulh {w : Nat} (x y : BitVec w) : BitVec w := BitVec.ofInt w (x.toInt * y.toInt / 2 ^ w)
/-- High half of the unsigned product. -/
def imulhn {w : Nat} (x y : BitVec w) : BitVec w := BitVec.ofNat w (x.toNat * y.toNat / 2 ^ w)
/-- Left shift; the amount counts modulo w. -/
def isll {w : Nat} (x y : BitVec w) : BitVec w := x <<< (y.toNat % w)
/-- Logical right shift. -/
def isrl {w : Nat} (x y : BitVec w) : BitVec w := x >>> (y.toNat % w)
/-- Arithmetic right shift. -/
def isra {w : Nat} (x y : BitVec w) : BitVec w := x.sshiftRight (y.toNat % w)
/-- Rotation to the right. -/
def iror {w : Nat} (x y : BitVec w) : BitVec w := x.rotateRight (y.toNat % w)
/-- An exact signed result clamped to w bits. -/
def iclamp (w : Nat) (v : Int) : BitVec w :=
  if v < -(2 ^ (w - 1)) then BitVec.ofInt w (-(2 ^ (w - 1)))
  else if 2 ^ (w - 1) - 1 < v then BitVec.ofInt w (2 ^ (w - 1) - 1)
  else BitVec.ofInt w v
/-- Signed minimum. -/
def imin {w : Nat} (x y : BitVec w) : BitVec w := if x.slt y then x else y
/-- Signed maximum. -/
def imax {w : Nat} (x y : BitVec w) : BitVec w := if x.slt y then y else x
/-- Unsigned minimum. -/
def iminn {w : Nat} (x y : BitVec w) : BitVec w := if x.ult y then x else y
/-- Unsigned maximum. -/
def imaxn {w : Nat} (x y : BitVec w) : BitVec w := if x.ult y then y else x

/-- An element-wise integer operation; `acc` is the destination before (06 Table 06-3). -/
def intOp {w : Nat} (o : IntOp) (x y acc : BitVec w) : BitVec w :=
  match o with
  | .add => x + y
  | .sub => x - y
  | .rsub => y - x
  | .mul => x * y
  | .mulh => imulh x y
  | .mulhn => imulhn x y
  | .mac => acc + x * y
  | .and => x &&& y
  | .or => x ||| y
  | .xor => x ^^^ y
  | .sll => isll x y
  | .srl => isrl x y
  | .sra => isra x y
  | .min => imin x y
  | .max => imax x y
  | .minn => iminn x y
  | .maxn => imaxn x y
  | .div => idiv x y
  | .divn => idivn x y
  | .rem => irem x y
  | .remn => iremn x y
  | .sadd => iclamp w (x.toInt + y.toInt)
  | .ssub => iclamp w (x.toInt - y.toInt)

/-- An integer compare (06 Table 06-3). -/
def icmpOp {w : Nat} (o : ICmp) (x y : BitVec w) : Bool :=
  match o with
  | .eq => x == y
  | .ne => x != y
  | .lt => x.slt y
  | .ltn => x.ult y
  | .le => x.sle y
  | .len => x.ule y

/-- Leading zero bits of a word. -/
def clz64 (x : BitVec 64) : BitVec 64 :=
  BitVec.ofNat 64 (if x = 0 then 64 else 63 - Nat.log2 x.toNat)
/-- Trailing zero bits of a word. -/
def ctz64 (x : BitVec 64) : BitVec 64 :=
  BitVec.ofNat 64 (((List.range 64).find? (x.getLsbD ·)).getD 64)
/-- One bits of a word. -/
def cpop64 (x : BitVec 64) : BitVec 64 :=
  BitVec.ofNat 64 ((List.range 64).filter (x.getLsbD ·)).length
/-- The bytes of a word in reverse order. -/
def bswap64 (x : BitVec 64) : BitVec 64 :=
  x.extractLsb' 0 8 ++ x.extractLsb' 8 8 ++ x.extractLsb' 16 8 ++ x.extractLsb' 24 8 ++
    x.extractLsb' 32 8 ++ x.extractLsb' 40 8 ++ x.extractLsb' 48 8 ++ x.extractLsb' 56 8
/-- A truth value as a word. -/
def ofBool64 (b : Bool) : BitVec 64 := if b then 1 else 0

end Sys2Proof.Machine
end

