-- ==== Sys2Proof/Config.lean ====
section
/-! DEFINITION. What this part fixes, and the free values: constants without a body where the spec leaves a value open
(log 8). Each is applied to the state's counter `free` or to what the value belongs to. -/

namespace Sys2Proof.Config

/-- FEATURES of the YS-256 (00 R2, 01 R38). -/
def features : Word := 0x010000000000007F

/-- Free: whether operand k of the instruction drawing number n reads the value before a producer still
inside its latency (02 R57). -/
opaque staleRead (n k : Nat) : Bool

/-- Free: the byte at a location read under a key that is not its sector's (17 R399). -/
opaque wrongKeyByte (loc key : Nat) (b : Byte) : Byte

/-- Free: whether a faithfully rounded result takes the upper neighbour (04 R100). -/
opaque faithfulUp (n k : Nat) : Bool

/-- Free: which of m waiting terms a REP = 0 sum adds next (04 R99), taken modulo m. -/
opaque sumPick (n k : Nat) : Nat

/-- Free: which element an unordered scatter performs next (07 R181), taken modulo those left. -/
opaque scatterPick (n k : Nat) : Nat

/-- Free: where a pre-emption stops the vector instruction in execution (10 R263), taken modulo its vl plus one. -/
opaque stopAt (n : Nat) : Nat

/-- Free: how far entry j of the queue, behind the head, has gone at a stop (10 R263), taken modulo its vl plus one. -/
opaque stopBehind (n j : Nat) : Nat

/-- Free: which entry of the queue fails before the head has ended (10 R263), counted from the head, 0 for none, modulo 64. -/
opaque overtakes (n : Nat) : Nat

/-- How many cycles the scalar unit waits for what a load returns, of which at most 4,095 count (02 Table 02-8; log 6). -/
opaque loadTime (n : Nat) : Nat

/-- Free: how many turns the scalar unit is ahead of the vector unit (10 R261), modulo 64. -/
opaque runAhead (n : Nat) : Nat

/-- Free: whether a fill (1) takes its pattern, and a segment split (3) its fields, as entries that must be aligned (08 Table 08-10). -/
opaque wideEntry (op : Nat) : Bool

/-- Free: what a byte that nothing backs, or whose die is down, hands to an agent that takes no poison trap (17 R388, R402). -/
opaque absentByte (n loc : Nat) : Byte

/-- Free: how many correctable errors a frame of the slot wheel has met anywhere, in the accesses of the lead too (20 R439, R449). -/
opaque corrected (frame : Nat) : Nat

/-- Free: a location that an uncorrectable error strikes in a frame of the slot wheel, if any (20 R439). -/
opaque strike (frame : Nat) : Option Nat

/-- Free: whether the lanes and engines of a die are held in reset (17 R402). -/
opaque lanesHeld (die : Nat) : Bool

/-- Free: the headers of the images that the loader has placed for an ASID since the last attestation request (03 R82; 20 R444). -/
opaque placedImages (n : Nat) (asid : BitVec 16) : List (BitVec 2048)

/-- Free: a destination byte of a copy whose ranges overlap (08 R216). -/
opaque overlapByte (n k : Nat) : Byte

/-- Free: how this part arranges word k of a private image (21 R450). -/
opaque imageMask (k : Nat) : Word

/-- Free: byte k of a signature or digest (20 R444). -/
opaque secretByte (n k : Nat) : Byte

/-- Free: whether the other members of a gang have completed a barrier generation (07 R206). -/
opaque remoteDone (n : Nat) : Bool

/-- Free: how far the TIME of another member of a gang is ahead of this device's, in ticks (18 R413), taken modulo 1,001. -/
opaque remoteLead (n : Nat) : Nat

/-- The mesh node at which a slice of a die injects its flits (17 R394). -/
opaque sliceNode (die k : Nat) : Nat

/-- Whether the flit with an identifier leaves its mesh in an epoch without being golden (17 R395). -/
opaque meshOut (epoch k : Nat) : Bool

/-- Free: what Axolotl schedules for retirement (20 R447), taken modulo what there is. -/
opaque retirePick (n : Nat) : Nat

/-- Free: the populated bytes of second-tier memory (17 Table 17-2). -/
opaque tierBytes : Nat

/-- Free: the device serial number (20 Table 20-6). -/
opaque serial : Word

/-- Free: the fabric number of this device (14 R346). -/
opaque fabricNumber : BitVec 16

/-- Free: how many of the members of a gang that are not yet known come before this device (14 R346, R348), modulo those. -/
opaque gangRank (seq : Nat) : BitVec 16

/-- Free: whether the gang refuses this device's acknowledgement of a nest as late (14 R348). -/
opaque ackRefused (seq : Nat) : Bool

/-- Free: whether a device of the gang has the feature this one lacks (10 R287). -/
opaque peerHas (seq : Nat) : Bool


end Sys2Proof.Config
end

