-- ==== Sys2Proof/Machine/State.lean ====
section
/-! DEFINITION. The state of the machine, its state after reset and the reasons a step can stop (01 R14, R37, R42). -/

namespace Sys2Proof.Machine

/-- Reasons the machine stops with a fault. There is none: every failing case of this hardware is a trap, a
failed engine operation, a logged error or poison, each of which has an effect (20 R429, 08 R222, 20 R441). -/
inductive Fault where
  deriving DecidableEq, Repr

/-- Reasons an instruction has no meaning. -/
inductive Refusal where
  /-- Raised by an arm of `exec` whose instruction is not modelled; safe, since no claim follows from it. -/
  | notModelled (mnemonic : String)
  deriving DecidableEq, Repr

/-- The state of the whole device. `core` is the core whose turn it is, `at_` its number; `others` lists the
other cores that have had the turn or been changed, by rising number; a core it does not list is `Core.start`. `agenda` lists outside inputs and
agent moves still to happen, `free` counts the free values drawn so far. -/
structure State where
  core : Core
  at_ : Nat
  others : List (Nat × Core)
  dev : Dev
  agenda : List Instr
  free : Nat
  deriving DecidableEq, Repr

/-- A zero register of tag I32 (01 R42). -/
def VReg.zero : VReg := ⟨0, .i32, 0⟩

/-- The user CSRs of Table 01-6 at iteration start, before the walker's values of R335 are set. -/
def Csrs.start : Csrs where
  fflags := 0
  frm := 0
  ftz := false
  vl := 0
  vtype := 0xFF18
  vstart := 0
  vdirty := 0
  vloaded := 0xFFFFFFFF
  vfemask := 0
  vfestate := 0
  vcp := 0
  vqpos := 0
  vfpc := 0
  leasePref := 1
  leaseMin := 1
  leaseGranted := 1
  catctl := 3
  catcls := 0
  cathit := 0
  catmiss := 0
  schk := false
  pairctl := 0x08000000
  kslice := 0
  reforks := 0
  utvec := 0
  utcause := 0
  utpc := 0
  utval := 0
  utActive := false
  emptyspin := 1024
  utmask := 0
  tbcfg := 0
  threadid := 0
  nestid := 0
  gangrank := 0
  gpass := 0
  ifmiss := 0
  ipdrop := 0
  cycle := 0
  instret := 0

/-- A thread at iteration start before the walker's preloads (01 R42); also what a core holds before any
dispatch (log 16). -/
def Thread.start : Thread where
  g := Vector.replicate 32 0
  bank := none
  pc := 0
  v := Vector.replicate 32 VReg.zero
  m := Vector.replicate 16 0
  csr := Csrs.start
  slot := 0
  din := 0
  lat := []
  viq := []
  vecSeen := false
  resv := none
  vresv := []
  arrival := none
  utq := []
  woundOverflow := false
  revoked := false
  streams := []
  floor := 0
  fault := none
  wait := none
  nest := 0
  ord := 0
  stage := 0
  tid := 0
  prio := 0
  minCols := 1
  vlfix := false
  cycleFrom := 0
  held := 0
  uvec := none

/-- The empty Catalogue: each architectural register has a physical name of its own (10 R270, 01 R42). -/
def Catalogue.start : Catalogue where
  entries := []
  vname := Vector.ofFn (fun i => i.val)
  mname := Vector.ofFn (fun i => i.val)
  fresh := 48

/-- The supervisor and firmware CSRs at device reset (01 Table 01-6). -/
def SCsrs.start : SCsrs where
  stvec := 0
  scause := 0
  sepc := 0
  stval := 0
  sstatus := 0
  sctx := 0
  ptbase := 0
  asid := 0
  sscratch := 0
  fustat := 0
  timecmp := 0xFFFFFFFFFFFFFFFF
  tbsbase := 0x0000008000000000

/-- A core at device reset: no thread has run on it. -/
def Core.start : Core where
  th := Thread.start
  run := .idle
  ready := 0
  ahead := 0
  level := .user
  sup := SCsrs.start
  preempt := false
  preemptStop := false
  hostint := none
  gangfail := none
  icache := []
  fills := []
  tblines := []
  coalesce := []
  scratchOwner := []
  lead := none
  leadV := Vector.replicate 32 VReg.zero
  refork := false
  diverged := false
  cat := Catalogue.start
  out := false

/-- A cluster at device reset (01 Table 01-5, 10 R285, 14 R338). -/
def Cluster.start : Cluster where
  bars := Vector.replicate 8 ⟨0, 0, 0⟩
  tokens := Vector.replicate 64 0
  cols := 32
  deal := 7
  targets := Vector.replicate 8 0

/-- The Curator at device reset (16 R373, R374). -/
def Curator.start : Curator := ⟨0x120454CF, 65536, [], [], []⟩

/-- The device at reset. -/
def Dev.start : Dev where
  clk := 0
  vlen := 16384
  mem := ⟨[], [], [], []⟩
  tierBytes := Config.tierBytes
  down := 0
  tlbs := []
  dspsup := 0x200
  clusters := Vector.replicate 32 Cluster.start
  tasks := []
  copies := []
  nextOp := 0
  slots := []
  cur := Curator.start
  walker := ⟨[], [], 1, [], []⟩
  reg := ⟨Vector.replicate 8 none, Vector.replicate 8 63, 0⟩
  host := ⟨[], 0, [], 0, [], 0, [], 0, false, [], []⟩
  futq := []
  joins := []
  away := []
  blocks := []
  savedWays := []
  carried := 0
  fabric := ⟨[], [], [], [], Vector.replicate 32 ⟨0, [], none, 0, []⟩, [], [], 0, 0, [], 0, 0, Vector.replicate 8 450, Vector.replicate 8 1750,
    Vector.replicate 8 450, Vector.replicate 8 1750, [], false⟩

/-- The machine right after device reset: no thread is live and memory lists nothing. -/
def State.reset : State where
  core := Core.start
  at_ := 0
  others := []
  dev := Dev.start
  agenda := []
  free := 0

end Sys2Proof.Machine
end

