-- ==== Sys2Proof/Machine/Mem.lean ====
section
/-! DEFINITION. The bytes of the device: one canonical list over all locations, poison units, full words
and the keys of sectors (17 R381 to R388, R399; 20 R439, R440, R445). A location below 2^52 is a physical
address; windows lie above: DSP from 2^53, CSM from 2^54, scratch ways from 2^55. -/

namespace Sys2Proof.Machine

/-- What a location that nothing lists reads as (log 4). -/
def unlistedByte : Byte := 0

/-- The byte at a location of a canonical list. -/
def cellGet : List Host.Cell → Nat → Byte
  | [], _ => unlistedByte
  | (x, b) :: t, a => if x = a then b else if a < x then unlistedByte else cellGet t a

/-- Writing a byte keeps the list rising and free of bytes an unlisted location reads as. -/
def cellSet : List Host.Cell → Nat → Byte → List Host.Cell
  | [], a, v => if v = unlistedByte then [] else [(a, v)]
  | (x, b) :: t, a, v =>
    if a < x then (if v = unlistedByte then (x, b) :: t else (a, v) :: (x, b) :: t)
    else if a = x then (if v = unlistedByte then t else (a, v) :: t)
    else (x, b) :: cellSet t a v

/-- The canonical form: locations strictly rising from lo, no entry equal to the unlisted byte. -/
def cellsWf : Nat → List Host.Cell → Bool
  | _, [] => true
  | lo, (x, b) :: t => decide (lo ≤ x) && b != unlistedByte && cellsWf (x + 1) t

/-- Whether a rising list holds a number. -/
def setHas : List Nat → Nat → Bool
  | [], _ => false
  | x :: t, a => if x = a then true else if a < x then false else setHas t a

/-- A number put into a rising list. -/
def setAdd : List Nat → Nat → List Nat
  | [], a => [a]
  | x :: t, a => if a < x then a :: x :: t else if a = x then x :: t else x :: setAdd t a

/-- A number taken out of a rising list. -/
def setDel : List Nat → Nat → List Nat
  | [], _ => []
  | x :: t, a => if a = x then t else x :: setDel t a

/-- Numbers strictly rising from lo. -/
def setWf : Nat → List Nat → Bool
  | _, [] => true
  | lo, x :: t => decide (lo ≤ x) && setWf (x + 1) t

/-- The value of a key in a list rising by key. -/
def assocGet {α : Type} : List (Nat × α) → Nat → Option α
  | [], _ => none
  | (x, b) :: t, a => if x = a then some b else if a < x then none else assocGet t a

/-- A value put at a key of a list rising by key. -/
def assocSet {α : Type} : List (Nat × α) → Nat → α → List (Nat × α)
  | [], a, v => [(a, v)]
  | (x, b) :: t, a, v =>
    if a < x then (a, v) :: (x, b) :: t else if a = x then (a, v) :: t else (x, b) :: assocSet t a v

/-- Keys strictly rising from lo. -/
def assocWf {α : Type} : Nat → List (Nat × α) → Bool
  | _, [] => true
  | lo, (x, _) :: t => decide (lo ≤ x) && assocWf (x + 1) t

/-- The canonical form of the device's memory. -/
def Mem.wf (m : Mem) : Bool :=
  cellsWf 0 m.cells && setWf 0 m.full && setWf 0 m.poison && assocWf 0 m.keys

/-- The first location of the DSP window's bytes. -/
def dspLoc : Nat := 2 ^ 53
/-- The first location of cluster 0's CSM. -/
def csmLoc : Nat := 2 ^ 54
/-- The first location of core 0's scratch ways. -/
def scratchLoc : Nat := 2 ^ 55

/-- Whether a location lies in on-chip SRAM. -/
def isSram (loc : Nat) : Bool := decide (dspLoc ≤ loc)

/-- The size of a poison unit at a location (20 Table 20-5): 32 bytes behind the L2, 8 in SRAM. -/
def poisonUnit (loc : Nat) : Nat := if isSram loc then 8 else 32

/-- The unit that an uncorrectable error poisons where it strikes: 64 bytes in a stack, of which a line in an L2 slice has two
(20 Table 20-5). -/
def errorUnit (inL2 : Bool) (loc : Nat) : Nat := if isSram loc || inL2 then poisonUnit loc else 64

/-- The first location of the poison unit a location lies in. -/
def unitOf (loc : Nat) : Nat := loc / poisonUnit loc * poisonUnit loc

/-- The first location of the 64-bit word a location lies in. -/
def wordOf (loc : Nat) : Nat := loc / 8 * 8

/-- Whether a physical address is HBM4E (17 Table 17-2). -/
def isHbm (pa : Nat) : Bool := decide (0x1000000000 ≤ pa) && decide (pa < 0x9000000000)

/-- Whether a physical address lies in the second tier's range (17 Table 17-2). -/
def isTier (pa : Nat) : Bool := decide (0x200000000000 ≤ pa) && decide (pa < 0x400000000000)

/-- The home die of a physical address (17 R388). -/
def homeDie (pa : Nat) : Nat := (pa / 2 ^ 11 % 8) ^^^ (pa / 2 ^ 19 % 8)

/-- The slice within the home die (17 R388). -/
def homeSlice (pa : Nat) : Nat := (pa / 2 ^ 7 % 16) ^^^ (pa / 2 ^ 14 % 16) ^^^ (pa / 2 ^ 26 % 16)

/-- The lane die that holds a location (17 R382, R388); a scratch way's slice is part of its location. -/
def dieOfLoc (loc : Nat) : Nat :=
  if scratchLoc ≤ loc then (loc - scratchLoc) / 2 ^ 16 % 8
  else if dspLoc ≤ loc then loc / 256 % 8
  else homeDie loc

/-- Whether a location is backed by memory that works: mapped, populated, its die's domain up
(17 Table 17-2, R402). -/
def locPresent (d : Dev) (loc : Nat) : Bool :=
  (isSram loc || isHbm loc || (isTier loc && decide (loc < 0x200000000000 + d.tierBytes)))
    && !d.down.getLsbD (dieOfLoc loc)

/-- Whether a byte reads as poison (17 R388, R402; 20 R439). -/
def locPoisoned (d : Dev) (loc : Nat) : Bool :=
  !locPresent d loc || setHas d.mem.poison (unitOf loc)

/-- The sector a location's key belongs to; SRAM is not encrypted (20 R445, R446). -/
def sectorOf (loc : Nat) : Nat := loc / 64

/-- A byte read under a key (17 R399, log 13). -/
def readByte (m : Mem) (key loc : Nat) : Byte :=
  let b := cellGet m.cells loc
  if isSram loc then b
  else
    match assocGet m.keys (sectorOf loc) with
    | some k => if k = key then b else Config.wrongKeyByte loc key b
    | none => b

/-- The little-endian value of n bytes read under a key (00 R6). -/
def readNat (m : Mem) (key : Nat) : Nat → Nat → Nat
  | 0, _ => 0
  | n + 1, loc => (readByte m key loc).toNat + 256 * readNat m key n (loc + 1)

/-- Whether any of n bytes reads as poison. -/
def anyPoisoned (d : Dev) : Nat → Nat → Bool
  | 0, _ => false
  | n + 1, loc => locPoisoned d loc || anyPoisoned d n (loc + 1)

/-- Re-encryption of a sector written under a new key: its other bytes become what the new key reads. -/
def rekey (m : Mem) (key loc : Nat) : Mem :=
  if isSram loc then m
  else
    match assocGet m.keys (sectorOf loc) with
    | some k =>
      if k = key then m
      else
        { m with
          cells := (List.range 64).foldl (fun cs i =>
            let a := sectorOf loc * 64 + i
            cellSet cs a (Config.wrongKeyByte a key (cellGet cs a))) m.cells
          keys := assocSet m.keys (sectorOf loc) key }
    | none => { m with keys := assocSet m.keys (sectorOf loc) key }

/-- A byte written under a key; a location without working memory discards it (17 R402). -/
def writeByte (d : Dev) (key loc : Nat) (b : Byte) : Dev :=
  if locPresent d loc then
    let m := rekey d.mem key loc
    { d with mem := { m with cells := cellSet m.cells loc b } }
  else d

/-- n bytes of a value written from a location on, least significant first (00 R6). -/
def writeNat (key : Nat) : Nat → Dev → Nat → Nat → Dev
  | 0, d, _, _ => d
  | n + 1, d, loc, v => writeNat key n (writeByte d key loc (BitVec.ofNat 8 v)) (loc + 1) (v / 256)

/-- The poison units that a write of n bytes covers whole lose their mark (20 R440). -/
def clearCovered (m : Mem) (loc n : Nat) : Mem :=
  { m with poison := m.poison.filter (fun u => !(decide (loc ≤ u) && decide (u + poisonUnit u ≤ loc + n))) }

/-- Whether a write of n bytes leaves a poisoned unit it touches poisoned (20 R440). -/
def touchesPoison (m : Mem) (loc n : Nat) : Bool :=
  m.poison.any (fun u => decide (u < loc + n) && decide (loc < u + poisonUnit u) &&
    !(decide (loc ≤ u) && decide (u + poisonUnit u ≤ loc + n)))

/-- The units of n bytes marked poisoned (07 R176). -/
def markPoison (m : Mem) : Nat → Nat → Mem
  | 0, _ => m
  | n + 1, loc => markPoison { m with poison := setAdd m.poison (unitOf loc) } n (loc + 1)

/-- Whether the future word of a location is full (07 R196). -/
def wordFull (m : Mem) (loc : Nat) : Bool := setHas m.full (wordOf loc)

/-- The full/empty bit of a location's word set (07 R196). -/
def setFull (m : Mem) (loc : Nat) (f : Bool) : Mem :=
  { m with full := if f then setAdd m.full (wordOf loc) else setDel m.full (wordOf loc) }

end Sys2Proof.Machine
end

