-- ==== Sys2Proof/Machine/Ops.lean ====
section
/-! DEFINITION. The named operations over registers, cores and traps that every meaning is written with
(01 R15, R16, R39, R40; 02 R55 to R58; 14 R349, R350; 20 R430; 21 R450, R451). -/

namespace Sys2Proof.Machine

/-- What a step answers. -/
abbrev Result := Host.Outcome State Fault Refusal

/-! ### Cores -/

/-- The state with the core whose turn it is changed. -/
def State.mapCore (s : State) (f : Core → Core) : State := { s with core := f s.core }

/-- The state with the thread of the core whose turn it is changed. -/
def State.mapTh (s : State) (f : Thread → Thread) : State :=
  { s with core := { s.core with th := f s.core.th } }

/-- The state with the user CSRs of that thread changed. -/
def State.mapCsr (s : State) (f : Csrs → Csrs) : State :=
  s.mapTh (fun t => { t with csr := f t.csr })

/-- The state with the supervisor CSRs of that core changed. -/
def State.mapSup (s : State) (f : SCsrs → SCsrs) : State :=
  s.mapCore (fun c => { c with sup := f c.sup })

/-- The state with the device changed. -/
def State.mapDev (s : State) (f : Dev → Dev) : State := { s with dev := f s.dev }

/-- The core numbered n. -/
def State.coreAt (s : State) (n : Nat) : Core :=
  if n = s.at_ then s.core else (assocGet s.others n).getD Core.start

/-- The core numbered n replaced. -/
def State.setCoreAt (s : State) (n : Nat) (c : Core) : State :=
  if n = s.at_ then { s with core := c } else { s with others := assocSet s.others n c }

/-- The core numbered n changed. -/
def State.mapCoreAt (s : State) (n : Nat) (f : Core → Core) : State := s.setCoreAt n (f (s.coreAt n))

/-- The thread of core n changed. -/
def State.mapThAt (s : State) (n : Nat) (f : Thread → Thread) : State :=
  s.mapCoreAt n (fun c => { c with th := f c.th })

/-- The turn given to core n. -/
def State.select (s : State) (n : Nat) : State :=
  if n = s.at_ then s
  else { s with core := s.coreAt n, at_ := n, others := assocSet (s.others.filter (fun p => p.1 != n)) s.at_ s.core }

/-- A change made as core n, the turn staying where it was. -/
def State.onCore (s : State) (n : Nat) (f : State → State) : State := ((f (s.select n)).select s.at_)

/-- The numbers of the cores that have had the turn or been changed, rising; every other core is idle. -/
def State.knownCores (s : State) : List Nat := setAdd (s.others.map (·.1)) s.at_

/-- The numbers of the cores that hold a live or napping thread, rising. -/
def State.liveCores (s : State) : List Nat :=
  s.knownCores.filter (fun n =>
    match (s.coreAt n).run with
    | .live => true
    | .napping => true
    | _ => false)

/-- The user CSRs of the running thread. -/
abbrev State.csr (s : State) : Csrs := s.core.th.csr

/-- One more free value drawn (log 8). -/
def State.draw (s : State) : State := { s with free := s.free + 1 }

/-- n bits of a 64-byte record from a byte offset on. -/
def recN (r : BitVec 512) (off n : Nat) : Nat := (r.extractLsb' (8 * off) n).toNat
/-- A 64-bit field of a record. -/
def recW (r : BitVec 512) (off : Nat) : Word := r.extractLsb' (8 * off) 64

/-! ### Time (00 R5, 01 R39) -/

/-- TIME ticks of a clock of 1.75 GHz. -/
def ticks (clk : Nat) : Nat := clk * 4 / 7

/-- TIME as a thread reads it: never below its floor (18 R413). -/
def State.time (s : State) : Word :=
  let t := BitVec.ofNat 64 (ticks s.dev.clk)
  if t.toNat < s.core.th.floor.toNat then s.core.th.floor else t

/-- The core whose turn it is stays busy for n more cycles (log 6). -/
def State.tick (s : State) (n : Nat) : State := s.mapCore (fun c => { c with ready := max c.ready s.dev.clk + n })

/-- The TIME that an acquire raises the floor to: its own, or the greatest that a release has carried, where that is more. It is at
least what the release carried that the acquire synchronises with (18 R413). -/
def State.carriedTime (s : State) : Word := if s.time.toNat < s.dev.carried.toNat then s.dev.carried else s.time

/-- The floor of TIME raised, by some ticks more where a release came from elsewhere (18 R413). -/
def State.raiseFloor (ahead : Nat) (s : State) : State :=
  let t := s.carriedTime + BitVec.ofNat 64 ahead
  s.mapCore (fun c => { c with th := { c.th with floor := t } })

/-- An acquire at cluster scope or wider: the tile buffer's cache lines go and TIME is floored (07 R177, 18 R413). -/
def State.acquire (s : State) : State :=
  let t := s.carriedTime
  s.mapCore (fun c => { c with tblines := [], th := { c.th with floor := t } })

/-- A release drains the coalescing buffer and carries the TIME that its thread would read (05 R126, 07 R177, 18 R413). -/
def State.release (s : State) : State :=
  let t := s.carriedTime
  (s.mapCore (fun c => { c with coalesce := [] })).mapDev (fun d => { d with carried := t })

/-! ### Scalar registers (01 R15, R16) -/

/-- Whether g24 to g31 name the second bank: only while a user-level handler runs (01 R16). -/
def Core.banked (c : Core) : Bool := c.level == .user && c.th.csr.utActive

/-- The second bank, where a register names it. -/
def Thread.bankOf (t : Thread) (banked : Bool) (r : Reg) : Option (Vector Word 8) :=
  if banked && decide (24 ≤ r.toNat) then t.bank else none

/-- A g register of a thread, from the bank that is in force for it. -/
def Thread.getG (t : Thread) (banked : Bool) (r : Reg) : Word :=
  match t.bankOf banked r with
  | some b => b[r.toNat % 8]'(Nat.mod_lt _ (by decide))
  | none => t.g[r.toNat]'r.isLt

/-- A thread with a g register written, in the bank that is in force for it. -/
def Thread.setG (t : Thread) (banked : Bool) (r : Reg) (v : Word) : Thread :=
  match t.bankOf banked r with
  | some b => { t with bank := some (b.set (r.toNat % 8) v (Nat.mod_lt _ (by decide))) }
  | none => { t with g := t.g.set r.toNat v r.isLt }

/-- The value of a g register; g0 reads as zero. -/
def readG (s : State) (r : Reg) : Word := if r = 0 then 0 else s.core.th.getG s.core.banked r

/-- A g register written; g0 discards the write. -/
def writeG (s : State) (r : Reg) (v : Word) : State :=
  if r = 0 then s else s.mapTh (fun t => t.setG s.core.banked r v)

/-- Whether an entry's result for a register goes to the register that its number names now: a thread's pending g24 to g31
are not those of its handler (01 R16). -/
def VEntry.names (e : VEntry) (banked : Bool) (r : Reg) : Bool := decide (r.toNat < 24) || e.banked == banked

/-- A pending vector result for a register is discarded by a younger scalar write (10 R262). -/
def dropSrq (s : State) (r : Reg) : State :=
  s.mapTh (fun t => { t with viq := t.viq.map (fun e =>
    if e.names s.core.banked r then
      { e with srq := e.srq.filter (· != r), results := e.results.filter (fun p => p.1 != r) }
    else e) })

/-- Whether a register waits for a vector result (10 R262). -/
def srqPending (s : State) (r : Reg) : Bool :=
  r != 0 && s.core.th.viq.any (fun e => e.srq.contains r && e.names s.core.banked r)

/-- A returned vector result written to its own register: a handler's second bank that is gone takes none (01 R16, 10 R262). -/
def Thread.setResult (t : Thread) (banked : Bool) (r : Reg) (v : Word) : Thread :=
  if r = 0 ∨ (banked && decide (24 ≤ r.toNat) && t.bank.isNone) then t else t.setG banked r v

/-! ### The scoreboard (02 R55 to R58) -/

/-- The fixed latency classes (02 Table 02-8). -/
inductive Lat where
  | alu | mul | fp | interlocked
  deriving DecidableEq, Repr

/-- Issue slots from producer to a sure reader; an interlocked result is always sure. -/
def Lat.slots : Lat → Nat
  | .alu => 1
  | .mul => 3
  | .fp => 4
  | .interlocked => 0

/-- The result of r that is still inside its latency, if any. -/
def pendingOf (s : State) (r : Reg) : Option Pending :=
  s.core.th.lat.find? (fun p => p.reg == r && decide (s.core.th.slot < p.ready))

/-- Whether reading r now violates its producer's latency class (02 R57). -/
def hazard (s : State) (r : Reg) : Bool := r != 0 && (pendingOf s r).isSome

/-- Operand k of an instruction, read from register r: inside a latency either value may be read (02 R57). -/
def opVal (s : State) (k : Nat) (r : Reg) : Word :=
  match pendingOf s r with
  | some p => if r != 0 && Config.staleRead s.free k then p.old else readG s r
  | none => readG s r

/-- A result of a fixed-latency class written to r (02 R56, R57). -/
def writeLat (s : State) (r : Reg) (l : Lat) (v : Word) : State :=
  if r = 0 then s
  else
    let old := readG s r
    let s := writeG (dropSrq s r) r v
    s.mapTh (fun t => { t with lat :=
      (if l.slots ≤ 1 then [] else [⟨r, t.slot + l.slots, old⟩]) ++ t.lat.filter (fun p => p.reg != r) })

/-- Every fixed-latency result is written (02 R58). -/
def settle (s : State) : State := s.mapTh (fun t => { t with lat := [] })

/-- The instruction leaves the scalar unit: slots, cycles, INSTRET, the next pc. -/
def retireTo (st : BitVec 2) (pc : Word) (s : State) : State :=
  ((s.tick (1 + st.toNat)).draw).mapTh (fun t =>
    { t with
      pc := pc
      slot := t.slot + 1 + st.toNat
      din := t.din + 1
      wait := none
      lat := t.lat.filter (fun p => decide (t.slot + 1 + st.toNat < p.ready))
      csr := { t.csr with instret := t.csr.instret + 1 } })

/-- The instruction of n bytes leaves the scalar unit and the next in line follows. -/
def retire (st : BitVec 2) (n : Nat) (s : State) : State :=
  retireTo st (s.core.th.pc + BitVec.ofNat 64 n) s

/-- The instruction does not issue: it is tried again when the core next has the turn. -/
def stall (s : State) : State := s.tick 1

/-! ### Reservations (07 R190, R195) -/

/-- The reservations of a thread that a write of n bytes breaks (07 R190, R195). -/
def breakThread (loc n : Nat) (keepV : Bool) (t : Thread) : Thread :=
  let hit := fun (gr : Nat) => decide (gr * 128 < loc + n) && decide (loc < gr * 128 + 128)
  { t with
    resv := match t.resv with
      | some (gr, t0) => if hit gr then none else some (gr, t0)
      | none => none
    vresv := if keepV then t.vresv else t.vresv.filter (fun r => !hit r.2.1) }

/-- Reservations broken on every core; `keepV` spares the running thread's vector ones (07 R194). -/
def breakResv (loc n : Nat) (keepV : Bool) (s : State) : State :=
  { s with
    core := { s.core with th := breakThread loc n keepV s.core.th }
    others := s.others.map (fun p => (p.1, { p.2 with th := breakThread loc n false p.2.th })) }

/-! ### The DSP as the device itself reads and writes it -/

/-- An entry in the deferred error log (20 R441): the oldest of 256 is overwritten; MSI-X entry 8 on the
first entry of an empty log. -/
def logError (pa size kind : Nat) (core : Option Nat) (d : Dev) : Dev :=
  let e : ErrEntry := ⟨pa, size, kind, BitVec.ofNat 64 (ticks d.clk), core⟩
  let h := d.host
  { d with host := { h with
      errors := if h.errors.length < 256 then h.errors ++ [e] else h.errors.drop 1 ++ [e]
      overflow := if h.errors.length < 256 then h.overflow else h.overflow + 1
      msix := if h.errors.isEmpty then h.msix ++ [8] else h.msix } }

/-- A byte as it stands, or a free value where nothing that works backs its location (17 R388, R402). -/
def byteOr (d : Dev) (free key loc : Nat) : Byte :=
  if locPresent d loc then readByte d.mem key loc else Config.absentByte free loc

/-- A write of n bytes that meets a location without working memory is logged; those bytes are discarded (17 R402). -/
def logAbsent (who : Option Nat) (loc n : Nat) (d : Dev) : Dev :=
  if d.down = 0 ∧ locPresent d loc then d
  else if (List.range n).any (fun k => !locPresent d (loc + k)) then logError loc (poisonUnit loc) 3 who d
  else d

/-- n bytes of the DSP from an offset, little-endian. -/
def dspRead (s : State) (off n : Nat) : Nat :=
  if s.dev.down = 0 then readNat s.dev.mem 0 n (dspLoc + off)
  else (List.range n).foldr (fun k acc => (byteOr s.dev s.free 0 (dspLoc + off + k)).toNat + 256 * acc) 0

/-- n bytes of the DSP written from an offset on. -/
def dspWrite (s : State) (off n v : Nat) : State :=
  (breakResv (dspLoc + off) n false s).mapDev (fun d =>
    writeNat 0 n { logAbsent none (dspLoc + off) n d with mem := clearCovered d.mem (dspLoc + off) n } (dspLoc + off) v)

/-- The base of the DSP window (17 Table 17-1). -/
def dspBase : Nat := 0xFFFFFC0000000000
/-- The base of the CSM window. -/
def csmBase : Nat := 0xFFFFFD0000000000
/-- The base of the scratch window. -/
def scratchBase : Nat := 0xFFFFFF0000000000

/-- The DSP offset of the save area SCTX names, when the whole area lies in the supervisor region
(21 R450, R452). -/
def areaOf (d : Dev) (sctx : Word) : Option Nat :=
  let b := sctx.toNat
  if dspBase ≤ b then
    let o := b - dspBase
    if d.dspsup.toNat * 65536 ≤ o ∧ o + 0x12000 ≤ 0x03FFF000 then some o else none
  else none

/-! ### Tags and packing (01 Table 01-2) -/

/-- The code of a tag. -/
def Tag.code : Tag → Nat
  | .i32 => 0 | .i16 => 1 | .i64 => 2 | .bf16 => 4 | .f32 => 5 | .f64 => 6

/-- The tag of a code; none for a reserved one. -/
def Tag.ofCode : Nat → Option Tag
  | 0 => some .i32 | 1 => some .i16 | 2 => some .i64 | 4 => some .bf16 | 5 => some .f32 | 6 => some .f64
  | _ => none

/-- Values of width w side by side, the first lowest. -/
def packEls (w : Nat) : List Nat → Nat
  | [] => 0
  | x :: xs => x % 2 ^ w + 2 ^ w * packEls w xs

/-! ### The private image (21 R450, R451): the words of the state it holds, in this part's order -/

/-- A truth value as a word. -/
def boolW (b : Bool) : Word := if b then 1 else 0

/-- A queued user-level trap as two words. -/
def UTrap.words (u : UTrap) : List Word := [BitVec.ofNat 64 u.cause.code, u.value]

/-- The cause a code of the queue names. -/
def utCauseOf : Nat → Cause
  | 0x02 => .wound
  | 0x04 => .streamerr
  | _ => .engdone

/-- A stream binding as ten words. -/
def Binding.words (b : Binding) : List Word :=
  [BitVec.ofNat 64 (b.reg.toNat + (if b.ended then 256 else 0) + (if b.err then 512 else 0)), BitVec.ofNat 64 b.pos]
    ++ (List.range 8).map (fun i => b.desc.extractLsb' (64 * i) 64)

/-- A bit for each entry of the queue. -/
def queueBits (t : Thread) (f : VEntry → Bool) : Word :=
  BitVec.ofNat 64 ((List.range 64).foldl (fun n i => n + (if ((t.viq[i]?).map f).getD false then 2 ^ i else 0)) 0)

/-- The tag an entry's destination had, as 4 bits: 0 where it is not kept. -/
def otagCode (e : VEntry) : Nat := (e.otag.map (fun t => t.code + 1)).getD 0

/-- Word k of the kept tags: 16 entries of 4 bits. -/
def otagWord (t : Thread) (k : Nat) : Word :=
  BitVec.ofNat 64 (packEls 4 ((List.range 16).map (fun i => ((t.viq[16 * k + i]?).map otagCode).getD 0)))

/-- The words of a thread's private image; who the thread is the device keeps by the area's address (`Dev.blocks`). -/
def imageWords (t : Thread) : List Word :=
  let c := t.csr
  [c.fflags.setWidth 64, c.frm.setWidth 64, boolW c.ftz, c.vfemask.setWidth 64, c.vfestate.setWidth 64,
   c.vcp, c.vqpos.setWidth 64, c.vfpc, (c.leasePref ++ c.leaseMin ++ c.leaseGranted).setWidth 64,
   (c.catctl ++ c.catcls).setWidth 64, queueBits t (·.banked), c.cathit, c.catmiss, boolW c.schk, c.pairctl.setWidth 64,
   c.kslice.setWidth 64, c.reforks, c.utvec, c.utcause.setWidth 64, c.utpc, c.utval, boolW c.utActive,
   c.emptyspin.setWidth 64, c.utmask.setWidth 64, c.tbcfg.setWidth 64, (c.gangrank ++ c.threadid).setWidth 64, c.nestid,
   otagWord t 0, c.gpass, c.ifmiss, c.ipdrop, c.cycle, c.instret, t.floor,
   (match t.arrival with
    | some (b, g, _) => (1#1 ++ b ++ g).setWidth 64
    | none => 0),
   (boolW t.woundOverflow) ||| (boolW t.revoked <<< 1) ||| (boolW t.vecSeen <<< 2), otagWord t 1,
   (match t.fault with
    | some (x, k, _) => BitVec.ofNat 64 (1 + 2 * x + 512 * k)
    | none => 0),
   (match t.fault with
    | some (_, _, u) => u
    | none => 0),
   0, 0, BitVec.ofNat 64 (2 ^ 32 * t.held + (if t.uvec.isSome then 2 ^ 40 else 0)),
   queueBits t (·.popped),
   BitVec.ofNat 64 (t.utq.length + 256 * t.streams.length), otagWord t 2,
   t.uvec.getD 0, ((t.arrival.map (fun a => a.2.2)).getD 0)]
  ++ (match t.bank with
    | some b => b.toList
    | none => List.replicate 8 0)
  ++ t.utq.flatMap UTrap.words ++ List.replicate (32 - 2 * t.utq.length) 0
  ++ t.streams.flatMap Binding.words ++ List.replicate (40 - 10 * t.streams.length) 0 ++ [otagWord t 3]

/-- Word k of a list of words. -/
def nthW (ws : List Word) (k : Nat) : Word := ws.getD k 0

/-- A thread with what a private image holds restored (21 R451). -/
def imageApply (ws : List Word) (t : Thread) : Thread :=
  let w := nthW ws
  let act := w 21 != 0
  { t with
    csr := { t.csr with
      fflags := (w 0).setWidth 5, frm := (w 1).setWidth 3, ftz := w 2 != 0, vfemask := (w 3).setWidth 32,
      vfestate := (w 4).setWidth 32, vcp := w 5, vqpos := (w 6).setWidth 6, vfpc := w 7,
      leasePref := (w 8).extractLsb' 16 8, leaseMin := (w 8).extractLsb' 8 8,
      leaseGranted := (w 8).extractLsb' 0 8, catctl := (w 9).extractLsb' 16 2, catcls := (w 9).setWidth 16,
      cathit := w 11, catmiss := w 12, schk := w 13 != 0, pairctl := (w 14).setWidth 32,
      kslice := (w 15).setWidth 32, reforks := w 16, utvec := w 17, utcause := (w 18).setWidth 8,
      utpc := w 19, utval := w 20, utActive := act, emptyspin := (w 22).setWidth 32,
      utmask := (w 23).setWidth 5, tbcfg := (w 24).setWidth 16, threadid := (w 25).setWidth 16,
      nestid := w 26, gangrank := (w 25).extractLsb' 16 16, gpass := w 28, ifmiss := w 29, ipdrop := w 30,
      cycle := w 31, instret := w 32 }
    floor := w 33
    arrival := if (w 34).getLsbD 35 then some ((w 34).extractLsb' 32 3, (w 34).extractLsb' 0 32, w 46) else none
    woundOverflow := (w 35).getLsbD 0
    revoked := (w 35).getLsbD 1
    vecSeen := (w 35).getLsbD 2
    fault := if (w 37).getLsbD 0
      then some ((w 37).toNat / 2 % 256, (w 37).toNat / 512 % 2, w 38) else none
    held := (w 41).toNat / 2 ^ 32 % 256
    uvec := if (w 41).getLsbD 40 then some (w 45) else none
    bank := if act then some (Vector.ofFn (fun (i : Fin 8) => w (47 + i.val))) else none
    utq := (List.range ((w 43).toNat % 256 % 17)).map (fun i =>
      ⟨utCauseOf ((w (55 + 2 * i)).toNat), w (56 + 2 * i)⟩)
    streams := (List.range ((w 43).toNat / 256 % 5)).map (fun j =>
      { reg := (w (87 + 10 * j)).extractLsb' 0 5
        desc := (List.range 8).foldl (fun acc i =>
          acc ||| ((w (89 + 10 * j + i)).setWidth 512 <<< (64 * i))) 0
        pos := (w (88 + 10 * j)).toNat
        ended := (w (87 + 10 * j)).getLsbD 8
        err := (w (87 + 10 * j)).getLsbD 9
        ahead := 0 }) }

/-- The popped mark of entry i of a saved queue. -/
def imagePopped (ws : List Word) (i : Nat) : Bool := (nthW ws 42).getLsbD i

/-- Whether entry i of a saved queue was issued by a user-level handler. -/
def imageBanked (ws : List Word) (i : Nat) : Bool := (nthW ws 10).getLsbD i

/-- The tag kept for entry i of a saved queue. -/
def imageOtag (ws : List Word) (i : Nat) : Option Tag :=
  let k := match i / 16 with
    | 0 => 27
    | 1 => 36
    | 2 => 44
    | _ => 127
  let c := (nthW ws k).toNat / 2 ^ (4 * (i % 16)) % 16
  if c = 0 then none else Tag.ofCode (c - 1)

/-! ### The block a vector trap writes (21 R451, Tables 21-2 and 21-3) -/

/-- The SRQ of a queue: destination and value of every pending g result in order. -/
def srqList (q : List VEntry) : List (Reg × Option Word) :=
  q.flatMap (fun e => e.srq.map (fun r => (r, (e.results.find? (fun p => p.1 == r)).map (·.2))))

/-- Who a thread is. -/
def Thread.who (t : Thread) : Who := ⟨t.nest, t.ord, t.stage, t.tid, t.prio, t.minCols, t.vlfix⟩

/-- A thread that is someone. -/
def Thread.withWho (t : Thread) (w : Who) : Thread :=
  { t with nest := w.nest, ord := w.ord, stage := w.stage, tid := w.tid, prio := w.prio, minCols := w.minCols, vlfix := w.vlfix }

/-- Nobody: no nest has the sequence number 0 (14 R330). -/
def Who.nobody : Who := ⟨0, 0, 0, 0, 0, 1, false⟩

/-- Words written from a DSP offset on. -/
def dspWords (s : State) : Nat → List Word → State
  | _, [] => s
  | off, w :: ws => dspWords (dspWrite s off 8 w.toNat) (off + 8) ws

/-- A captured-operand record as four words (21 Table 21-3). -/
def recordWords (e : VEntry) : List Word :=
  [e.x1, e.x2, e.x3,
   BitVec.ofNat 64 (e.vl.toNat + 2 ^ 16 * e.granted.toNat + 2 ^ 24 * (e.frm.toNat + (if e.ftz then 8 else 0))
     + 2 ^ 32 * (e.vtype.toNat % 2 ^ 23) + (if e.vtype.getLsbD 63 then 2 ^ 63 else 0))]

/-- The device block of the save area at a DSP offset (21 R451). -/
def writeBlock (s : State) (o : Nat) : State :=
  let t := s.core.th
  let q := t.viq
  let srq := srqList q
  let img := imageWords t
  let s := dspWords s (o + 0x400)
    ((List.range 128).map (fun k => nthW img k ^^^ Config.imageMask k))
  let s := dspWords s (o + 0x800)
    (BitVec.ofNat 64 (q.length + 256 * t.csr.vqpos.toNat + 65536 * srq.length) :: List.replicate 7 0)
  let s := dspWords s (o + 0x840) (q.flatMap (fun e =>
    [e.pc, BitVec.ofNat 64 (e.progress % 65536 + 65536 * ((if e.abandoned then 1 else 0) + 2 * e.srq.length))]))
  let s := dspWords s (o + 0xC40) (q.flatMap recordWords)
  let s := dspWords s (o + 0x1440) (srq.flatMap (fun p =>
    [p.2.getD 0, BitVec.ofNat 64 (p.1.toNat + (if p.2.isSome then 256 else 0))]))
  dspWords s (o + 0x1800) ((List.range 16).flatMap (fun n =>
    (List.range 16).map (fun i => (t.m.getD n 0).extractLsb' (64 * i) 64)))

/-! ### Taking an exception (20 R430) -/

/-- The cycles a fork's copy takes: 64, and 4 for each vector register (12 R302). -/
def leadCopyTime (kslice : BitVec 32) : Nat := 64 + 4 * ((List.range 32).filter (fun r => kslice.getLsbD r)).length

/-- The lead squashed: it and every delay-buffer entry are gone, its vector registers keep their contents (12 R300, R303). -/
def squashLead (s : State) : State :=
  s.mapCore (fun c => { c with lead := none, diverged := false, leadV := (c.lead.map (·.v)).getD c.leadV })

/-- A fork of the lead wanted at the next instruction boundary, where the mode is PAIR; the lead there is ends now
(12 R302, R303). -/
def wantFork (s : State) : State :=
  (squashLead s).mapCore (fun c => { c with refork := c.th.csr.pairctl.getLsbD 0 })

/-- The GL and PF entries of an instruction leave the delay buffer: it goes out of the queue for execution (12 Table 12-4). -/
def leadFree (din : Nat) (s : State) : State :=
  let keep := fun (e : DEntry) => match e with
    | .gl k _ => k != din
    | .pf k _ _ => k != din
    | _ => true
  s.mapCore (fun c => { c with lead := c.lead.map (fun l => { l with buf := l.buf.filter keep, todo := l.todo.filter keep }) })

/-- A copied register that an older vector instruction had still to write is taken once it has: its results, and the vector and
mask registers as they now stand (12 R302). -/
def leadTake (e : VEntry) (s : State) : State :=
  s.mapCore (fun c => { c with lead := c.lead.map (fun l =>
    match assocGet l.owed e.din with
    | none => l
    | some rs =>
      let k := c.th.csr.kslice
      { l with
        g := e.results.foldl (fun g p => if rs.contains p.1 && p.1 != 0 then g.setIfInBounds p.1.toNat p.2 else g) l.g
        m := c.th.m
        v := Vector.ofFn (fun (r : Fin 32) => if k.getLsbD r.val then { c.th.v[r] with poison := 0 } else l.v[r])
        csr := (match e.desc.op with
          | .loadff _ => { l.csr with vl := c.th.csr.vl }
          | _ => l.csr)
        owed := l.owed.filter (fun p => p.1 != e.din)
        copyUntil := some (s.dev.clk + leadCopyTime k) }) })

/-- SSTATUS after a trap from a level: PPL, SPIE, SIE, VT and UA (20 R430, Table 20-2). -/
def trapStatus (old : Word) (l : Level) (vt ua : Bool) : Word :=
  BitVec.ofNat 64 (l.num + (if old.getLsbD 2 then 8 else 0) + (if ua then 256 else 0) + (if vt then 512 else 0))

/-- The core stops; the Registrar will end its iteration as faulted (20 R430). -/
def stopCore (s : State) : State := s.mapCore (fun c => { c with run := .stopped })

/-- What the thread waits for is withdrawn: its place among the waiters of a word and its request to the Curator
(07 R198, 08 R246). -/
def abandonWait (s : State) : State :=
  let t := s.core.th
  (s.mapTh (fun t => { t with wait := none })).mapDev (fun d =>
    { d with
      futq := d.futq.filter (fun w => w.core != s.at_)
      cur := { d.cur with
        queue := d.cur.queue.filter (fun r => r.holder != .thread (t.nest * 2 ^ 32 + t.ord) t.tid)
        starved := d.cur.starved.filter (fun r => r.holder != .thread (t.nest * 2 ^ 32 + t.ord) t.tid) } })

/-- The cycles that have passed are put into CYCLE, which starts to count anew (01 R39). -/
def bankCycles (s : State) : State :=
  s.mapTh (fun t => { t with
    cycleFrom := s.dev.clk
    csr := { t.csr with cycle := t.csr.cycle + BitVec.ofNat 64 (s.dev.clk - t.cycleFrom) } })

/-- Entry to a supervisor trap (20 R430). `vt` marks a vector trap or pre-emption, whose device block is
written first and whose queue entries then leave (21 R451); an area outside the region stops the core (R452). -/
def enterSup (c : Cause) (val sepc : Word) (vt : Bool) (s : State) : State :=
  let s := abandonWait (settle (squashLead s))
  let ua := s.csr.utActive
  let lvl := s.core.level
  let area := areaOf s.dev s.core.sup.sctx
  let lost := vt && area.isNone
  let s := match vt, area with
    | true, some o =>
      ((writeBlock (bankCycles s) o).mapTh (fun t => { t with viq := [] })).mapDev (fun d =>
        { d with blocks := assocSet (d.blocks.filter (fun b => b.1 != o)) o s.core.th.who })
    | _, _ => s
  let s := s.mapCore (fun k =>
    { k with
      refork := false
      run := if k.sup.stvec = 0 || lost then .stopped else .live
      level := if lvl = .firmware then .firmware else .supervisor
      sup := { k.sup with
        sepc := sepc
        scause := BitVec.ofNat 8 c.code
        stval := val
        sstatus := trapStatus k.sup.sstatus lvl vt ua }
      th := { k.th with pc := k.sup.stvec } })
  s.tick 1

/-- A synchronous scalar trap at the instruction being executed (20 R430). -/
def trap (c : Cause) (val : Word) (s : State) : State := enterSup c val s.core.th.pc false s

/-- What FIRSTUSE leaves in FUSTAT: the register, VALID and one more in COUNT (20 Table 20-2). -/
def noteFirstUse (r : Nat) (s : State) : State :=
  s.mapSup (fun u =>
    let v := (u.fustat.toNat / 2 ^ 32 + 1) % 2 ^ 32 * 2 ^ 32 + 128 + r % 32
    { u with fustat := BitVec.ofNat 64 v })

/-! ### User-level traps (14 R349, R350) -/

/-- Delivery of a user-level trap, resuming at an address after uret (14 R349). -/
def deliverUser (c : Cause) (val resume : Word) (s : State) : State :=
  if s.csr.utvec = 0 then
    (enterSup .illegal (BitVec.ofNat 64 c.code) resume false s)
  else
    let s := abandonWait (settle (squashLead s))
    (s.mapTh (fun t =>
      { t with
        bank := some (Vector.ofFn (fun (i : Fin 8) => t.g[24 + i.val]))
        pc := t.csr.utvec
        csr := { t.csr with
          utcause := BitVec.ofNat 8 c.code, utval := val, utpc := resume, utActive := true } })).tick 1

/-- Whether UTMASK holds a cause pending (01 Table 01-7). -/
def utMasked (c : Csrs) : Cause → Bool
  | .streamerr => c.utmask.getLsbD 4
  | .engdone => c.utmask.getLsbD 3
  | _ => false

/-- The order of delivery among causes (14 R350). -/
def utRank : Cause → Nat
  | .wound => 0
  | .streamerr => 1
  | _ => 2

/-- The first deliverable entry of the queue (14 R350). -/
def utFirst (t : Thread) : Option UTrap :=
  let q := t.utq.filter (fun u => !utMasked t.csr u.cause)
  match q.find? (fun u => utRank u.cause == 0) with
  | some u => some u
  | none =>
    if t.woundOverflow then some ⟨.wound, 0xFFFFFFFFFFFF0000⟩
    else
      match q.find? (fun u => utRank u.cause == 1) with
      | some u => some u
      | none => q.head?

/-- The youngest entry of a cause taken out of the queue. -/
def dropYoungest (q : List UTrap) (c : Cause) : List UTrap :=
  let r := q.reverse
  match r.findIdx? (fun u => u.cause == c) with
  | some i => (r.eraseIdx i).reverse
  | none => q

/-- A user-level cause put into a thread's queue of 16 (14 R350). -/
def queueUser (u : UTrap) (t : Thread) : Thread :=
  let same := t.utq.any (fun x => x.cause == u.cause && x.value == u.value)
  if (u.cause == .wound || u.cause == .streamerr) && same then t
  else if t.utq.length < 16 then { t with utq := t.utq ++ [u] }
  else if u.cause == .engdone then t
  else if t.utq.any (fun x => x.cause == .engdone) then
    { t with utq := dropYoungest t.utq .engdone ++ [u] }
  else if u.cause == .wound then { t with woundOverflow := true }
  else { t with utq := dropYoungest t.utq .wound ++ [u], woundOverflow := true }

/-- A thread with an entry that was delivered taken out of its queue (14 R350). -/
def unqueueUser (u : UTrap) (t : Thread) : Thread :=
  match t.utq.findIdx? (· == u) with
  | some i => { t with utq := t.utq.eraseIdx i }
  | none => { t with woundOverflow := false }

/-! ### Waits (07 R198; 08 R235) -/

/-- The instruction waits: its wait is recorded at the first try. -/
def waiting (s : State) : State :=
  stall (s.mapTh (fun t => { t with wait := t.wait.or (some ⟨s.dev.clk⟩) }))

/-- Whether a wait may raise EMPTY now: at user level, no handler active, EMPTYSPIN cycles gone (07 R198). -/
def emptyDue (s : State) (spin : BitVec 32) (since : Nat) : Bool :=
  s.core.level == .user && !s.csr.utActive && decide (since + spin.toNat ≤ s.dev.clk)

/-- A wait that may end in EMPTY with a value (07 R198, 08 R235). -/
def waitOrEmpty (val : Word) (s : State) : State :=
  match s.core.th.wait with
  | some w => if emptyDue s s.csr.emptyspin w.since then deliverUser .empty val s.core.th.pc s else waiting s
  | none => waiting s

/-! ### The frame of a scalar instruction -/

/-- A scalar instruction that reads registers `rs`: it waits for pending vector results, raises STALL under
SCHK, and otherwise acts (02 R57, R61 rows 1 to 4). -/
def scalar (rs : List Reg) (s : State) (body : State → State) : State :=
  if rs.any (srqPending s) then stall s
  else if s.csr.schk && rs.any (hazard s) then trap .stall 0 s
  else body s

/-- A scalar instruction of n bytes whose only effect is a g register. -/
def scalarG (n : Nat) (rs : List Reg) (st : BitVec 2) (d : Reg) (l : Lat) (v : State → Word) (s : State) : State :=
  scalar rs s (fun s => retire st n (writeLat s d l (v s)))

end Sys2Proof.Machine
end

