-- ==== Sys2Proof/Machine/ScalarAlu.lean ====
section
/-! DEFINITION. The register and shift majors of the scalar unit, and their compressed spellings
(05 R114, R116, R117, Table 05-1; 02 R53, R54, Table 02-7). -/

namespace Sys2Proof.Machine

/-- A two-operand member of n bytes: gd takes f of gs1 and gs2 (05 R116). -/
def alu2 (n : Nat) (l : Lat) (f : Word → Word → Word) (d a b : Reg) (st : BitVec 2) (s : State) : Result :=
  .next (scalarG n [a, b] st d l (fun s => f (opVal s 0 a) (opVal s 1 b)) s)

/-- A one-operand member. -/
def alu1 (n : Nat) (l : Lat) (f : Word → Word) (d a : Reg) (st : BitVec 2) (s : State) : Result :=
  .next (scalarG n [a] st d l (fun s => f (opVal s 0 a)) s)

/-- A compressed encoding that R54 reserves raises ILLEGAL; any other has its meaning. -/
def unlessReserved (res : Bool) (m : State → Result) (s : State) : Result :=
  if res then .next (trap .illegal 0 s) else m s

/-- `add` (05 Table 05-1). -/
def execAdd (d a b : Reg) (st : BitVec 2) (s : State) : Result := alu2 4 .alu (· + ·) d a b st s

/-- `sub` (05 Table 05-1). -/
def execSub (d a b : Reg) (st : BitVec 2) (s : State) : Result := alu2 4 .alu (· - ·) d a b st s

/-- `and` (05 Table 05-1). -/
def execAnd (d a b : Reg) (st : BitVec 2) (s : State) : Result := alu2 4 .alu (· &&& ·) d a b st s

/-- `or` (05 Table 05-1). -/
def execOr (d a b : Reg) (st : BitVec 2) (s : State) : Result := alu2 4 .alu (· ||| ·) d a b st s

/-- `xor` (05 Table 05-1). -/
def execXor (d a b : Reg) (st : BitVec 2) (s : State) : Result := alu2 4 .alu (· ^^^ ·) d a b st s

/-- `andn` (05 Table 05-1). -/
def execAndn (d a b : Reg) (st : BitVec 2) (s : State) : Result := alu2 4 .alu (fun x y => x &&& ~~~y) d a b st s

/-- `sll` (05 Table 05-1). -/
def execSll (d a b : Reg) (st : BitVec 2) (s : State) : Result := alu2 4 .alu isll d a b st s

/-- `srl` (05 Table 05-1). -/
def execSrl (d a b : Reg) (st : BitVec 2) (s : State) : Result := alu2 4 .alu isrl d a b st s

/-- `sra` (05 Table 05-1). -/
def execSra (d a b : Reg) (st : BitVec 2) (s : State) : Result := alu2 4 .alu isra d a b st s

/-- `ror` (05 Table 05-1). -/
def execRor (d a b : Reg) (st : BitVec 2) (s : State) : Result := alu2 4 .alu iror d a b st s

/-- `slt` (05 Table 05-1). -/
def execSlt (d a b : Reg) (st : BitVec 2) (s : State) : Result := alu2 4 .alu (fun x y => ofBool64 (x.slt y)) d a b st s

/-- `sltn` (05 Table 05-1). -/
def execSltn (d a b : Reg) (st : BitVec 2) (s : State) : Result := alu2 4 .alu (fun x y => ofBool64 (x.ult y)) d a b st s

/-- `min` (05 Table 05-1). -/
def execMin (d a b : Reg) (st : BitVec 2) (s : State) : Result := alu2 4 .alu imin d a b st s

/-- `max` (05 Table 05-1). -/
def execMax (d a b : Reg) (st : BitVec 2) (s : State) : Result := alu2 4 .alu imax d a b st s

/-- `minn` (05 Table 05-1). -/
def execMinn (d a b : Reg) (st : BitVec 2) (s : State) : Result := alu2 4 .alu iminn d a b st s

/-- `maxn` (05 Table 05-1). -/
def execMaxn (d a b : Reg) (st : BitVec 2) (s : State) : Result := alu2 4 .alu imaxn d a b st s

/-- `mul` (05 Table 05-1). -/
def execMul (d a b : Reg) (st : BitVec 2) (s : State) : Result := alu2 4 .mul (· * ·) d a b st s

/-- `mulh` (05 Table 05-1). -/
def execMulh (d a b : Reg) (st : BitVec 2) (s : State) : Result := alu2 4 .mul imulh d a b st s

/-- `mulhn` (05 Table 05-1). -/
def execMulhn (d a b : Reg) (st : BitVec 2) (s : State) : Result := alu2 4 .mul imulhn d a b st s

/-- `div` (05 Table 05-1). -/
def execDiv (d a b : Reg) (st : BitVec 2) (s : State) : Result := alu2 4 .interlocked idiv d a b st s

/-- `divn` (05 Table 05-1). -/
def execDivn (d a b : Reg) (st : BitVec 2) (s : State) : Result := alu2 4 .interlocked idivn d a b st s

/-- `rem` (05 Table 05-1). -/
def execRem (d a b : Reg) (st : BitVec 2) (s : State) : Result := alu2 4 .interlocked irem d a b st s

/-- `remn` (05 Table 05-1). -/
def execRemn (d a b : Reg) (st : BitVec 2) (s : State) : Result := alu2 4 .interlocked iremn d a b st s

/-- `clz` (05 Table 05-1). -/
def execClz (d a : Reg) (st : BitVec 2) (s : State) : Result := alu1 4 .alu clz64 d a st s

/-- `ctz` (05 Table 05-1). -/
def execCtz (d a : Reg) (st : BitVec 2) (s : State) : Result := alu1 4 .alu ctz64 d a st s

/-- `cpop` (05 Table 05-1). -/
def execCpop (d a : Reg) (st : BitVec 2) (s : State) : Result := alu1 4 .alu cpop64 d a st s

/-- `sextb` (05 Table 05-1). -/
def execSextb (d a : Reg) (st : BitVec 2) (s : State) : Result := alu1 4 .alu (fun x => (x.setWidth 8).signExtend 64) d a st s

/-- `sexth` (05 Table 05-1). -/
def execSexth (d a : Reg) (st : BitVec 2) (s : State) : Result := alu1 4 .alu (fun x => (x.setWidth 16).signExtend 64) d a st s

/-- `sextw` (05 Table 05-1). -/
def execSextw (d a : Reg) (st : BitVec 2) (s : State) : Result := alu1 4 .alu (fun x => (x.setWidth 32).signExtend 64) d a st s

/-- `bswap` (05 Table 05-1). -/
def execBswap (d a : Reg) (st : BitVec 2) (s : State) : Result := alu1 4 .alu bswap64 d a st s

/-- `csel`: the old gd is a source (05 Table 05-1). -/
def execCsel (d a b : Reg) (st : BitVec 2) (s : State) : Result :=
  .next (scalarG 4 [a, b, d] st d .alu
    (fun s => if opVal s 2 d != 0 then opVal s 0 a else opVal s 1 b) s)

/-- `slli` (05 R117). -/
def execSlli (d a : Reg) (h : BitVec 6) (st : BitVec 2) (s : State) : Result :=
  alu1 4 .alu (fun x => x <<< h.toNat) d a st s

/-- `srli` (05 R117). -/
def execSrli (d a : Reg) (h : BitVec 6) (st : BitVec 2) (s : State) : Result :=
  alu1 4 .alu (fun x => x >>> h.toNat) d a st s

/-- `srai` (05 R117). -/
def execSrai (d a : Reg) (h : BitVec 6) (st : BitVec 2) (s : State) : Result :=
  alu1 4 .alu (fun x => x.sshiftRight h.toNat) d a st s

/-- `rori` (05 R117). -/
def execRori (d a : Reg) (h : BitVec 6) (st : BitVec 2) (s : State) : Result :=
  alu1 4 .alu (fun x => x.rotateRight h.toNat) d a st s

/-- `c.add` (02 Table 02-7). -/
def execCAdd (a b : Reg) (s : State) : Result :=
  unlessReserved (a == 0) (alu2 2 .alu (· + ·) a a b 0) s

/-- `c.sub` (02 Table 02-7). -/
def execCSub (a b : Reg) (s : State) : Result :=
  unlessReserved (a == 0) (alu2 2 .alu (· - ·) a a b 0) s

/-- `c.and` (02 Table 02-7). -/
def execCAnd (a b : Reg) (s : State) : Result :=
  unlessReserved (a == 0) (alu2 2 .alu (· &&& ·) a a b 0) s

/-- `c.or` (02 Table 02-7). -/
def execCOr (a b : Reg) (s : State) : Result :=
  unlessReserved (a == 0) (alu2 2 .alu (· ||| ·) a a b 0) s

/-- `c.xor` (02 Table 02-7). -/
def execCXor (a b : Reg) (s : State) : Result :=
  unlessReserved (a == 0) (alu2 2 .alu (· ^^^ ·) a a b 0) s

/-- `c.mv`: add of g0 and gB (02 Table 02-7). -/
def execCMv (a b : Reg) (s : State) : Result :=
  unlessReserved (a == 0) (alu2 2 .alu (· + ·) a 0 b 0) s

/-- `c.addi` (02 Table 02-7). -/
def execCAddi (a i : Reg) (s : State) : Result :=
  unlessReserved (a == 0) (alu1 2 .alu (fun x => x + i.signExtend 64) a a 0) s

/-- `c.li`: addi of g0 (02 Table 02-7). -/
def execCLi (a i : Reg) (s : State) : Result :=
  unlessReserved (a == 0) (alu1 2 .alu (fun x => x + i.signExtend 64) a 0 0) s

/-- `c.slli` (02 Table 02-7). -/
def execCSlli (a h : Reg) (s : State) : Result :=
  unlessReserved (a == 0) (alu1 2 .alu (fun x => x <<< h.toNat) a a 0) s

/-- `c.srli` (02 Table 02-7). -/
def execCSrli (a h : Reg) (s : State) : Result :=
  unlessReserved (a == 0) (alu1 2 .alu (fun x => x >>> h.toNat) a a 0) s

/-- `c.nop` (02 Table 02-7). -/
def execCNop (s : State) : Result := .next (scalar [] s (retire 0 2))

end Sys2Proof.Machine
end

