-- ==== Sys2Proof/Machine/ScalarImm.lean ====
section
/-! DEFINITION. Immediate arithmetic, branches and jumps (05 R118 to R122, Tables 05-2 and 05-3; 02 R47, R50). -/

namespace Sys2Proof.Machine

/-- A 12-bit immediate extended (02 R47). -/
def sext12 (i : BitVec 12) : Word := i.signExtend 64


/-- `addi` (05 Table 05-2). -/
def execAddi (d a : Reg) (i : BitVec 12) (st : BitVec 2) (s : State) : Result :=
  alu1 4 .alu (fun x => x + sext12 i) d a st s

/-- `andi` (05 Table 05-2). -/
def execAndi (d a : Reg) (i : BitVec 12) (st : BitVec 2) (s : State) : Result :=
  alu1 4 .alu (fun x => x &&& sext12 i) d a st s

/-- `ori` (05 Table 05-2). -/
def execOri (d a : Reg) (i : BitVec 12) (st : BitVec 2) (s : State) : Result :=
  alu1 4 .alu (fun x => x ||| sext12 i) d a st s

/-- `xori` (05 Table 05-2). -/
def execXori (d a : Reg) (i : BitVec 12) (st : BitVec 2) (s : State) : Result :=
  alu1 4 .alu (fun x => x ^^^ sext12 i) d a st s

/-- `slti` (05 Table 05-2). -/
def execSlti (d a : Reg) (i : BitVec 12) (st : BitVec 2) (s : State) : Result :=
  alu1 4 .alu (fun x => ofBool64 (x.slt (sext12 i))) d a st s

/-- `sltin` (05 Table 05-2). -/
def execSltin (d a : Reg) (i : BitVec 12) (st : BitVec 2) (s : State) : Result :=
  alu1 4 .alu (fun x => ofBool64 (x.ult (sext12 i))) d a st s

/-- A 17-bit immediate times 4,096 (02 Table 02-3). -/
def upper17 (i : BitVec 17) : Word := i.signExtend 64 <<< 12

/-- `movhi` (05 Table 05-2). -/
def execMovhi (d : Reg) (i : BitVec 17) (st : BitVec 2) (s : State) : Result :=
  .next (scalarG 4 [] st d .alu (fun _ => upper17 i) s)

/-- `pgrel`: relative to the 4 KiB block of the instruction (05 Table 05-2). -/
def execPgrel (d : Reg) (i : BitVec 17) (st : BitVec 2) (s : State) : Result :=
  .next (scalarG 4 [] st d .alu (fun s => (s.core.th.pc &&& 0xFFFFFFFFFFFFF000) + upper17 i) s)

/-- `ldi` (02 R50). -/
def execLdi (d : Reg) (imm : BitVec 43) (st : BitVec 2) (s : State) : Result :=
  .next (scalarG 8 [] st d .alu (fun _ => imm.signExtend 64) s)

/-- `ldih`: the high 21 bits; gd is a source (02 R50). -/
def execLdih (d : Reg) (imm : BitVec 21) (st : BitVec 2) (s : State) : Result :=
  .next (scalarG 8 [d] st d .alu (fun s => imm ++ (opVal s 0 d).extractLsb' 0 43) s)

/-- A conditional branch of n bytes; `off` is in bytes (05 R119). -/
def branch (n : Nat) (cond : Word → Word → Bool) (a b : Reg) (off : Word) (st : BitVec 2) (s : State) : Result :=
  .next (scalar [a, b] s (fun s =>
    if cond (opVal s 0 a) (opVal s 1 b) then retireTo st (s.core.th.pc + off) s else retire st n s))

/-- The byte offset of a B-format immediate (02 Table 02-3). -/
def off12 (i : BitVec 12) : Word := i.signExtend 64 <<< 1

/-- `beq` (05 Table 05-3). -/
def execBeq (a b : Reg) (i : BitVec 12) (st : BitVec 2) (s : State) : Result :=
  branch 4 (fun x y => x == y) a b (off12 i) st s

/-- `bne` (05 Table 05-3). -/
def execBne (a b : Reg) (i : BitVec 12) (st : BitVec 2) (s : State) : Result :=
  branch 4 (fun x y => x != y) a b (off12 i) st s

/-- `blt` (05 Table 05-3). -/
def execBlt (a b : Reg) (i : BitVec 12) (st : BitVec 2) (s : State) : Result :=
  branch 4 (fun x y => x.slt y) a b (off12 i) st s

/-- `bge` (05 Table 05-3). -/
def execBge (a b : Reg) (i : BitVec 12) (st : BitVec 2) (s : State) : Result :=
  branch 4 (fun x y => y.sle x) a b (off12 i) st s

/-- `bltn` (05 Table 05-3). -/
def execBltn (a b : Reg) (i : BitVec 12) (st : BitVec 2) (s : State) : Result :=
  branch 4 (fun x y => x.ult y) a b (off12 i) st s

/-- `bgen` (05 Table 05-3). -/
def execBgen (a b : Reg) (i : BitVec 12) (st : BitVec 2) (s : State) : Result :=
  branch 4 (fun x y => y.ule x) a b (off12 i) st s

/-- `sbnz`: the counter is lowered and tested (05 R120). -/
def execSbnz (a b : Reg) (i : BitVec 12) (st : BitVec 2) (s : State) : Result :=
  .next (scalar [a, b] s (fun s =>
    let diff := opVal s 0 a - opVal s 1 b
    let t := writeLat s a .alu diff
    if diff != 0 then retireTo st (s.core.th.pc + off12 i) t else retire st 4 t))

/-- A jump of n bytes that links (05 R121). -/
def jump (n : Nat) (d : Reg) (target : Word) (st : BitVec 2) (s : State) : State :=
  retireTo st target (writeLat s d .alu (s.core.th.pc + BitVec.ofNat 64 n))

/-- `jal` (05 R121). -/
def execJal (d : Reg) (i : BitVec 17) (st : BitVec 2) (s : State) : Result :=
  .next (scalar [] s (fun s => jump 4 d (s.core.th.pc + i.signExtend 64 <<< 1) st s))

/-- A jump to a register: an odd target raises ALIGN (05 R121, 02 R43). -/
def jumpReg (n : Nat) (d a : Reg) (i : Word) (st : BitVec 2) (s : State) : Result :=
  .next (scalar [a] s (fun s =>
    let t := opVal s 0 a + i
    if t.getLsbD 0 then trap .align t s else jump n d t st s))

/-- `jalr` (05 R121). -/
def execJalr (d a : Reg) (i : BitVec 12) (st : BitVec 2) (s : State) : Result :=
  jumpReg 4 d a (sext12 i) st s

/-- `c.beqz` (02 Table 02-7). -/
def execCBeqz (a i : Reg) (s : State) : Result := branch 2 (fun x y => x == y) a 0 (i.signExtend 64 <<< 1) 0 s

/-- `c.bnez` (02 Table 02-7). -/
def execCBnez (a i : Reg) (s : State) : Result := branch 2 (fun x y => x != y) a 0 (i.signExtend 64 <<< 1) 0 s

/-- `c.j` (02 Table 02-7). -/
def execCJ (i : BitVec 10) (s : State) : Result :=
  .next (scalar [] s (fun s => jump 2 0 (s.core.th.pc + i.signExtend 64 <<< 1) 0 s))

/-- `c.jr` (02 Table 02-7, R54). -/
def execCJr (a : Reg) (s : State) : Result := unlessReserved (a == 0) (jumpReg 2 0 a 0 0) s

/-- Whether a transfer is taken; one to a register always is (05 R119 to R121; 02 Table 02-7; 12 Table 12-4). -/
def branchTaken (i : Instr) (s : State) : Bool :=
  match i with
  | .beq a b _ _ => opVal s 0 a == opVal s 1 b
  | .bne a b _ _ => opVal s 0 a != opVal s 1 b
  | .blt a b _ _ => (opVal s 0 a).slt (opVal s 1 b)
  | .bge a b _ _ => (opVal s 1 b).sle (opVal s 0 a)
  | .bltn a b _ _ => (opVal s 0 a).ult (opVal s 1 b)
  | .bgen a b _ _ => (opVal s 1 b).ule (opVal s 0 a)
  | .sbnz a b _ _ => opVal s 0 a - opVal s 1 b != 0
  | .cBeqz a _ => opVal s 0 a == opVal s 1 0
  | .cBnez a _ => opVal s 0 a != opVal s 1 0
  | _ => true

end Sys2Proof.Machine
end

