-- ==== Sys2Proof/Machine/Cache.lean ====
section
/-! DEFINITION. Caches that no value depends on: the lines of the tile buffers and their coalescing buffers, the L2 slices and
the loans between them (17 R385, R388 to R391, R402; 18 R407). Which of them an access of each agent uses, where the spec names
none, is log 56. -/

namespace Sys2Proof.Machine

/-! ### The tile buffer (17 R385) -/

/-- The ways of the running thread's tile buffer that hold register storage: neither cache nor scratch (10 R284). -/
def reservedWays (s : State) : BitVec 16 :=
  if s.core.th.vlfix && decide (s.dev.vlen < 16384) then
    let n := (6 * (16384 - s.dev.vlen) + 32767) / 32768
    BitVec.ofNat 16 ((2 ^ n - 1) * 2 ^ (16 - n))
  else 0

/-- The cache ways of the running core's tile buffer, in ascending order. -/
def cacheWays (s : State) : List Nat :=
  (List.range 16).filter (fun w => !(s.csr.tbcfg ||| reservedWays s).getLsbD w)

/-- Whether a die slice holds a line. -/
def tbHas (l : List TbLine) (die line : Nat) : Bool := l.any (fun x => x.die == die && x.line == line)

/-- A line put into its set of a die slice, 32 sets by PA[11:7]: into a free way, or the way used least recently. -/
def tbPut (ways : List Nat) (die line : Nat) (l : List TbLine) : List TbLine :=
  match l.find? (fun x => x.die == die && x.line == line) with
  | some x => x :: l.filter (· != x)
  | none =>
    let set := l.filter (fun x => x.die == die && x.line % 32 == line % 32)
    match ways.find? (fun w => !set.any (·.way == w)) with
    | some w => ⟨die, w, line⟩ :: l
    | none =>
      match set.getLast? with
      | some o => if ways.isEmpty then l else ⟨die, o.way, line⟩ :: l.filter (· != o)
      | none => l

/-- A line put into the coalescing buffer of a die slice, which holds 32: the oldest drains where it is full. -/
def coPut (die line now : Nat) (l : List CoLine) : List CoLine :=
  if l.any (fun x => x.die == die && x.line == line) then l
  else
    let mine := l.filter (·.die == die)
    (if mine.length < 32 then l else l.filter (fun x => some x != mine.head?)) ++ [⟨die, line, now⟩]

/-! ### L2 slices (17 R388, R389) -/

/-- The home die of a line. -/
def lineHome (line : Nat) : Nat := homeDie (128 * line)

/-- The set of its slice that a line falls into: of 1,024 (log 56). -/
def l2Set (line : Nat) : Nat := line / 2 ^ 7 % 1024

/-- Whether two lines held by dies contend for one set of one slice. -/
def l2Meets (a b : L2Line) : Bool :=
  a.die == b.die && homeSlice (128 * a.line) == homeSlice (128 * b.line) && l2Set a.line == l2Set b.line

/-- A helper gives its copy of a line back: first its notes go, then the copy (17 R391). -/
def returnLoan (die line : Nat) (f : Fabric) : Fabric :=
  { f with
    l2 := f.l2.filter (fun x => !(x.die == die && x.line == line && lineHome line != die))
    loans := (f.loans.map (fun n => if n.line = line then
        { n with notes := n.notes.filter (fun p => p.2 != die), helpers := n.helpers.filter (fun p => p.1 != die) } else n)).filter
      (fun n => !n.helpers.isEmpty) }

/-- A line put into its set of a die's slice, of 16 ways; what is evicted goes back to its stack or port, or to its home where
it was lent (17 R389, R391). -/
def l2Put (die line : Nat) (dirty : Bool) (f : Fabric) : Fabric :=
  let mine := fun (x : L2Line) => x.die == die && x.line == line
  let n : L2Line := ⟨die, line, dirty || f.l2.any (fun x => mine x && x.dirty)⟩
  let rest := f.l2.filter (fun x => !mine x)
  let set := rest.filter (l2Meets n)
  let f := { f with l2 := rest }
  let f := if set.length < 16 then f else
    match set.getLast? with
    | some o => returnLoan o.die o.line { f with l2 := f.l2.filter (· != o) }
    | none => f
  { f with l2 := n :: f.l2 }

/-- The requesting die of what the SQD reads: the scalar units, the walks, the walker and the host (17 R390). -/
def sqdDie : Nat := 8

/-- The helper that a die's loan note sends its reads of a line to. -/
def noteFor (f : Fabric) (req line : Nat) : Option Nat :=
  ((f.loans.find? (fun n => n.line == line)).map (fun n => assocGet n.notes req)).join

/-- A read of a line counted at the helper that serves it. -/
def countHelped (line die : Nat) (n : Loan) : Loan :=
  if n.line = line then
    { n with helpers := n.helpers.map (fun p => if p.1 = die then (p.1, (p.2.headD 0 + 1) :: p.2.drop 1) else p) }
  else n

/-- A read of a clean line counted at its home. -/
def countRead (line req : Nat) (l : List LineReads) : List LineReads :=
  let r := (l.find? (fun x => x.line == line)).getD ⟨line, Vector.replicate 9 0⟩
  { r with by_ := r.by_.setIfInBounds req (r.by_.getD req 0 + 1) } :: l.filter (fun x => x.line != line)

/-- A read of a line by a die: a helper serves it where a loan note says so, else its home, which fetches it on a miss
(17 R389, R390). -/
def l2Read (req line : Nat) (f : Fabric) : Fabric :=
  match noteFor f req line with
  | some h => l2Put h line false { f with loans := f.loans.map (countHelped line h) }
  | none =>
    let dirty := f.l2.any (fun x => x.die == lineHome line && x.line == line && x.dirty)
    let f := l2Put (lineHome line) line false f
    if dirty then f else { f with reads := countRead line req f.reads }

/-- A write of a line at its home (17 R389). -/
def l2Write (line : Nat) (f : Fabric) : Fabric :=
  l2Put (lineHome line) line true { f with reads := f.reads.filter (fun x => x.line != line) }

/-- Whether a physical address is memory of the device or behind its ports (17 Table 17-2). -/
def isMapped (pa : Nat) : Bool := isHbm pa || isTier pa

/-- An access of a location that the address map leaves out is logged (17 R388). -/
def logUnmapped (loc : Nat) (d : Dev) : Dev :=
  if isSram loc || isMapped loc then d else logError (loc / 128 * 128) 128 7 none d

/-- The acknowledged atomics on a line that an access of it passes can no longer be lost (18 R415). -/
def passAcked (line : Nat) (d : Dev) : Dev :=
  { d with fabric := { d.fabric with acked := d.fabric.acked.filter (fun a => a.loc / 128 != line) } }

/-- The port that a line of second-tier memory goes to (17 R400). -/
def tierPort (pa : Nat) : Nat := pa / 4096 % 4

/-- What a read of the line of a location by a die leaves in the L2; an unmapped address is logged (17 R388, R389). -/
def readLine (req loc : Nat) (d : Dev) : Dev :=
  let d := passAcked (loc / 128) d
  if isSram loc || !locPresent d loc then logUnmapped loc d else { d with fabric := l2Read req (loc / 128) d.fabric }

/-- What a write of n bytes leaves in the L2. -/
def writeLines (loc n : Nat) (d : Dev) : Dev :=
  let d := passAcked (loc / 128) d
  if isSram loc || !locPresent d loc then d
  else
    let ls := if loc / 128 = (loc + n - 1) / 128 then [loc / 128] else [loc / 128, (loc + n - 1) / 128]
    { d with fabric := ls.foldl (fun f l => l2Write l f) d.fabric }

/-! ### Loans (17 R390, R391) -/

/-- Links between two dies that are not one: one for neighbours in a row and between a lane die and the SQD, else two
(17 R396). -/
def dieHops (a b : Nat) : Nat :=
  if a = 8 ∨ b = 8 then 1
  else if a / 4 = b / 4 ∧ (a + 1 = b ∨ b + 1 = a) then 1 else 2

/-- The first of some dies with the greatest value. -/
def firstMost (v : Nat → Nat) (l : List Nat) : Option Nat :=
  l.foldl (fun (m : Option Nat) d => match m with
    | some x => if v x < v d then some d else some x
    | none => some d) none

/-- Up to n dies with the greatest values, ties to the lowest. -/
def topDies (v : Nat → Nat) : Nat → List Nat → List Nat
  | 0, _ => []
  | n + 1, l =>
    match firstMost v l with
    | some d => d :: topDies v n (l.filter (· != d))
    | none => []

/-- The loan of a line that was hot in the frame before: 64 reads from at least three dies beside its home's; up to three
helpers, and a note for every die that read it (17 R390). -/
def loanOf (r : LineReads) : Option Loan :=
  let n := fun d => r.by_.getD d 0
  let dies := (List.range 9).filter (fun d => d != lineHome r.line && n d != 0)
  if ((List.range 9).map n).foldl (· + ·) 0 < 64 ∨ dies.length < 3 then none
  else
    let hs := topDies n 3 (dies.filter (· < 8))
    let near := fun d => ((hs.find? (· == d)).or (firstMost (fun h => 2 - dieHops d h) ((List.range 8).filter hs.contains))).getD 0
    some ⟨r.line, hs.map (fun h => (h, [0])), dies.map (fun d => (d, near d))⟩

/-- Whether a loan finds room: 256 notes at an interface, 512 lent lines in a slice (17 R390). -/
def loanRoom (f : Fabric) (n : Loan) : Bool :=
  n.notes.all (fun p => decide ((f.loans.filter (fun m => m.notes.any (fun q => q.1 == p.1))).length < 256)) &&
    n.helpers.all (fun p => decide ((f.loans.filter (fun m => homeSlice (128 * m.line) == homeSlice (128 * n.line) &&
      m.helpers.any (fun q => q.1 == p.1))).length < 512))

/-- A loan made, where it finds room and the line is not lent already. -/
def lend (n : Loan) (f : Fabric) : Fabric :=
  if f.loans.any (fun m => m.line == n.line) || !loanRoom f n then f
  else n.helpers.foldl (fun f p => l2Put p.1 n.line false f) { f with loans := f.loans ++ [n] }

/-- Helpers whose line drew fewer than 8 reads in 16 frames give it back (17 R391). -/
def returnIdle (f : Fabric) : Fabric :=
  (f.loans.flatMap (fun n => (n.helpers.filter (fun p => p.2.length == 16 && decide (p.2.foldl (· + ·) 0 < 8))).map
    (fun p => (p.1, n.line)))).foldl (fun f p => returnLoan p.1 p.2 f) f

/-- A loan one frame older: its helpers count anew, the last 16 frames kept. -/
def Loan.older (n : Loan) : Loan := { n with helpers := n.helpers.map (fun p => (p.1, (0 :: p.2).take 16)) }

/-- The start of a frame: idle loans go back, hot lines are lent, the counts start anew (17 R390, R391). -/
def frameLoans (f : Fabric) : Fabric :=
  let f := returnIdle f
  let f := { f with loans := f.loans.map Loan.older }
  let f := (f.reads.filterMap loanOf).foldl (fun f n => lend n f) f
  { f with reads := [] }

/-- The lines behind n bytes are recalled from every helper: copies, notes and loans go (17 R391). -/
def recallLoans (loc n : Nat) (d : Dev) : Dev :=
  let hit := fun (line : Nat) => decide (128 * line < loc + n) && decide (loc < 128 * line + 128)
  { d with fabric := { d.fabric with
      l2 := d.fabric.l2.filter (fun x => !(hit x.line && x.die != lineHome x.line))
      loans := d.fabric.loans.filter (fun l => !hit l.line) } }

/-- An uncorrectable error at a location: its unit is marked poisoned (20 R439). -/
def strikeAt (loc : Nat) (d : Dev) : Dev :=
  let u := errorUnit (d.fabric.l2.any (fun x => x.line == loc / 128)) loc
  { d with mem := markPoison d.mem u (loc / u * u) }

/-- A die's memory domain is gone: its slices, and the loans and notes that involve it (17 R402). -/
def dropDie (die : Nat) (f : Fabric) : Fabric :=
  let f := f.loans.foldl (fun f n => returnLoan die n.line f) f
  { f with
    l2 := f.l2.filter (fun x => x.die != die && lineHome x.line != die)
    reads := f.reads.filter (fun r => lineHome r.line != die)
    loans := (f.loans.filter (fun n => lineHome n.line != die)).map (fun n =>
      { n with notes := n.notes.filter (fun p => p.1 != die) }) }

end Sys2Proof.Machine
end

