-- ==== Sys2Proof/Machine/Translate.lean ====
section
/-! DEFINITION. Windows, page tables, TLBs and the accesses every agent makes through them
(17 R381 to R384; 20 R434 to R440; 07 R190, R195; 22 R461). -/

namespace Sys2Proof.Machine

/-- Kinds of access as the checks of R125 and R174 tell them apart. -/
inductive Acc where
  | read | write | rw | exec
  deriving DecidableEq, Repr

/-- The cause of an access without a valid mapping or beyond a bound (05 R125). -/
def Acc.missing : Acc → Cause
  | .read => .xlateR
  | .write => .xlateW
  | .rw => .xlateW
  | .exec => .xlateX

/-- Whether a kind of access writes. -/
def Acc.writes : Acc → Bool
  | .write => true
  | .rw => true
  | _ => false

/-- Where an address leads: its location, the key of its bytes, whether lines of it may fill cache ways, and
the entry whose A or D bit the access sets (20 R436). -/
structure Place where
  loc : Nat
  key : Nat
  cacheable : Bool
  ad : Option (Nat × Nat)
  deriving DecidableEq, Repr

/-- The number of one bits of a scratch-way mask. -/
def wayCount (m : BitVec 16) : Nat := ((List.range 16).filter (m.getLsbD ·)).length

/-- The k-th scratch way in ascending way number (17 R385). -/
def nthWay (m : BitVec 16) (k : Nat) : Option Nat := ((List.range 16).filter (m.getLsbD ·))[k]?

/-- The window an address belongs to (17 R381): 1 scratch, 2 CSM, 3 DSP. -/
def windowOf (va : Nat) : Option Nat :=
  if scratchBase ≤ va ∧ va < scratchBase + 2 ^ 40 then some 1
  else if csmBase ≤ va ∧ va < csmBase + 2 ^ 40 then some 2
  else if dspBase ≤ va ∧ va < dspBase + 2 ^ 40 then some 3
  else none

/-- The location of a byte of a core's scratch ways (17 R382, R385). -/
def scratchLocOf (core way o : Nat) : Nat :=
  scratchLoc + core * 2 ^ 19 + (o / 256 % 8) * 2 ^ 16 + way * 2 ^ 12 + (o / 2048 * 256 + o % 256) % 4096

/-- The core and the TBCFG under which a context reaches its scratch ways: those of the thread it belongs to, on its core or
set aside from it (17 R385, R386; 22 R464, R466). -/
def ctxWays (s : State) (ctx : Ctx) : Nat × BitVec 16 :=
  let is := fun (t : Thread) => t.nest * 2 ^ 32 + t.ord == ctx.age && t.tid == ctx.tid
  let on := fun (n : Nat) => (n, (s.coreAt n).th.csr.tbcfg)
  if is (s.coreAt ctx.core).th && !(s.coreAt ctx.core).out then on ctx.core
  else
    match s.knownCores.find? (fun n => is (s.coreAt n).th && (s.coreAt n).run != .idle && !(s.coreAt n).out), s.dev.walker.aside.find? (fun a => is a.th) with
    | some n, _ => on n
    | none, some a => (a.core, a.th.csr.tbcfg)
    | none, none => on ctx.core

/-- Where the device has saved a way of the thread that a context belongs to (22 R466). -/
def savedAt (d : Dev) (ctx : Ctx) (w : Nat) : Option Nat :=
  (d.savedWays.find? (fun p => p.owner.age == ctx.age && p.owner.tid == ctx.tid && p.way == w)).map (·.base)

/-- The scratch way an offset selects under a mask (17 R385). -/
def scratchWay (m : BitVec 16) (o : Nat) : Option Nat := nthWay m ((o / 2048 * 256 + o % 256) / 4096)

/-- The location of a window address for a context, or the cause of the failure (17 R381, R383, R470): a scratch way that
is saved is reached where it is saved, so that an engine that comes before the restore finds its poster's data (22 R466). -/
def windowLoc (s : State) (ctx : Ctx) (acc : Acc) (win va : Nat) : Except Cause Nat :=
  if acc = .exec then .error .perm
  else if win = 3 then
    let o := va - dspBase
    if 0x4000000 ≤ o then .error acc.missing
    else if ctx.level = .user ∧ s.dev.dspsup.toNat * 65536 ≤ o ∧ o < 0x03FFF000 then .error .perm
    else .ok (dspLoc + o)
  else if 256 ≤ ctx.core then .error acc.missing
  else if win = 2 then
    let o := va - csmBase
    if 0x400000 ≤ o then .error acc.missing else .ok (csmLoc + ctx.core / 8 * 0x400000 + o)
  else
    let o := va - scratchBase
    let home := ctxWays s ctx
    match scratchWay home.2 o with
    | some w =>
      (match savedAt s.dev ctx w with
       | some a => .ok (a + o / 256 % 8 * 4096 + (o / 2048 * 256 + o % 256) % 4096)
       | none => .ok (scratchLocOf home.1 w o))
    | none => .error acc.missing

/-! ### Page tables (20 R434, R435) -/

/-- Eight bytes of a page table as they stand in memory. -/
def pteRead (d : Dev) (pa : Nat) : Word :=
  BitVec.ofNat 64 ((List.range 8).foldr (fun i acc => (cellGet d.mem.cells (pa + i)).toNat + 256 * acc) 0)

/-- The page number field of an entry, as a physical address. -/
def ptePage (p : Word) : Nat := p.toNat / 2 ^ 16 % 2 ^ 36 * 2 ^ 16

/-- Whether an entry points to the next table: R = W = X = 0. -/
def pteIsTable (p : Word) : Bool := p.toNat / 2 % 8 == 0

/-- Reserved bits of an entry (20 Table 20-3). -/
def pteReserved (p : Word) : Bool := p.toNat / 2 ^ 52 != 0 || p.toNat / 2 ^ 11 % 32 != 0

/-- Whether a leaf at a level is well formed: aligned to what it maps, W only with R, TIER as its address says. -/
def pteLeafOk (p : Word) (shift : Nat) : Bool :=
  !(p.getLsbD 2 && !p.getLsbD 1) && ptePage p % 2 ^ shift == 0 && p.getLsbD 9 == isTier (ptePage p)

/-- What a walk finds: a leaf with its level's shift and its own address, or nothing, and then whether a
poisoned entry was met. -/
inductive Walk where
  | leaf (pte : Word) (shift pteAt : Nat)
  | missing (poisonAt : Option Nat)
  deriving DecidableEq, Repr

/-- The walk from a table down the levels that are left. -/
def walk (d : Dev) (va : Nat) : Nat → List Nat → Walk
  | _, [] => .missing none
  | tbl, sh :: rest =>
    let pa := tbl + 8 * (va / 2 ^ sh % 8192)
    if anyPoisoned d 8 pa then .missing (some pa)
    else
      let p := pteRead d pa
      if !p.getLsbD 0 || pteReserved p then .missing none
      else if pteIsTable p then walk d va (ptePage p) rest
      else if pteLeafOk p sh then .leaf p sh pa
      else .missing none

/-- The entries that a walk reads, from a table down. -/
def walkPath (d : Dev) (va : Nat) : Nat → List Nat → List Nat
  | _, [] => []
  | tbl, sh :: rest =>
    let pa := tbl + 8 * (va / 2 ^ sh % 8192)
    let p := pteRead d pa
    pa :: (if p.getLsbD 0 && pteIsTable p then walkPath d va (ptePage p) rest else [])

/-- The three levels: 4 TiB, 512 MiB, 64 KiB. -/
def walkLevels : List Nat := [42, 29, 16]

/-- Whether bits 63:55 of an address equal bit 54 (20 R434). -/
def canonicalVa (va : Nat) : Bool := va / 2 ^ 54 == 0 || va / 2 ^ 54 == 2 ^ 10 - 1

/-! ### TLBs (20 R437, R438) -/

/-- Entries of each TLB (20 Table 20-4). -/
def TlbId.size : TlbId → Nat
  | .itlb _ => 32
  | .dtlb _ => 64
  | .block _ _ => 256
  | .die _ => 8192
  | .sqd => 4096

/-- Where the misses of a TLB go (20 Table 20-4). -/
def TlbId.next : TlbId → Option TlbId
  | .itlb _ => some .sqd
  | .dtlb _ => some .sqd
  | .block _ d => some (.die d)
  | _ => none

/-- Whether an entry of a TLB matches an address under an ASID. -/
def TlbEntry.hits (e : TlbEntry) (id : TlbId) (asid : BitVec 16) (va : Nat) : Bool :=
  e.tlb == id && (e.asid == asid || e.pte.getLsbD 7) && va / 2 ^ e.level == e.vpn

/-- The entry of a TLB, or of the one behind it, that matches. -/
def tlbFind (d : Dev) (id : TlbId) (asid : BitVec 16) (va : Nat) : Option TlbEntry :=
  match d.tlbs.find? (·.hits id asid va) with
  | some e => some e
  | none =>
    match id.next with
    | some n => d.tlbs.find? (·.hits n asid va)
    | none => none

/-- An entry put first in a TLB, which keeps no more than its size. -/
def tlbPut (d : Dev) (e : TlbEntry) : Dev :=
  let rest := d.tlbs.filter (fun x => !(x.tlb == e.tlb && x.vpn == e.vpn && x.level == e.level && x.asid == e.asid))
  let own := rest.filter (fun x => x.tlb == e.tlb)
  let rest := if own.length < e.tlb.size then rest
    else match own.getLast? with
      | some l => rest.filter (· != l)
      | none => rest
  { d with tlbs := e :: rest }

/-- A leaf put into a TLB and the one behind it (20 R437). -/
def tlbFill (d : Dev) (id : TlbId) (asid : BitVec 16) (va : Nat) (p : Word) (sh pa : Nat) : Dev :=
  let e : TlbEntry := ⟨id, asid, sh, va / 2 ^ sh, p, pa⟩
  match id.next with
  | some n => tlbPut (tlbPut d { e with tlb := n }) e
  | none => tlbPut d e

/-- The leaf an address goes through: from a TLB, or by a walk that fills it (20 R434, R437). -/
def leafOf (d : Dev) (ctx : Ctx) (id : TlbId) (va : Nat) : Dev × Option (Word × Nat × Nat) :=
  match tlbFind d id ctx.asid va with
  | some e => (if e.tlb == id then d else tlbPut d { e with tlb := id }, some (e.pte, e.level, e.pteAt))
  | none =>
    let root := ctx.ptbase.toNat / 2 ^ 16 % 2 ^ 36 * 2 ^ 16
    let d := (walkPath d va root walkLevels).foldl (fun d pa => readLine sqdDie pa d) d
    match walk d va root walkLevels with
    | .leaf p sh pa => (tlbFill d id ctx.asid va p sh pa, some (p, sh, pa))
    | .missing (some pa) => (logError pa 8 1 none d, none)
    | .missing none => (d, none)

/-- The permission an access needs of a leaf (05 R125, 07 R174, 19 R418). -/
def permitted (p : Word) (acc : Acc) (l : Level) : Bool :=
  (match acc with
   | .read => p.getLsbD 1
   | .write => p.getLsbD 2
   | .rw => p.getLsbD 1 && p.getLsbD 2
   | .exec => p.getLsbD 3) && (l != .user || p.getLsbD 4)

/-- The A and D bits an access needs and a leaf lacks (20 R436). -/
def missingAD (p : Word) (acc : Acc) : Nat :=
  (if p.getLsbD 5 then 0 else 32) + (if acc.writes && !p.getLsbD 6 then 64 else 0)

/-- The place a leaf gives an address. -/
def placeOf (p : Word) (sh pa va : Nat) (ctx : Ctx) (ad : Nat) : Place :=
  { loc := ptePage p + va % 2 ^ sh
    key := if p.getLsbD 10 then 4096 else ctx.asid.toNat % 4096
    cacheable := p.getLsbD 8
    ad := if ad = 0 then none else some (pa, ad) }

/-- Translation of an address for a context through a TLB (05 R125 rows 2 and 3; 17 R381; 20 R434 to R436).
A leaf whose entry in memory has changed under missing A or D bits is walked for again. -/
def translate (s : State) (ctx : Ctx) (id : TlbId) (acc : Acc) (va : Word) : State × Except Cause Place :=
  match windowOf va.toNat with
  | some w =>
    match windowLoc s ctx acc w va.toNat with
    | .ok loc => (s, .ok ⟨loc, if isSram loc then 0 else ctx.asid.toNat % 4096, false, none⟩)
    | .error c => (s, .error c)
  | none =>
    if !canonicalVa va.toNat then (s, .error acc.missing)
    else
      match leafOf s.dev ctx id va.toNat with
      | (d, none) => ({ s with dev := d }, .error acc.missing)
      | (d, some (p, sh, pa)) =>
        if !permitted p acc ctx.level then ({ s with dev := d }, .error .perm)
        else if missingAD p acc = 0 then ({ s with dev := d }, .ok (placeOf p sh pa va.toNat ctx 0))
        else
          let now := pteRead d pa
          if !anyPoisoned d 8 pa && now.getLsbD 0 && ptePage now == ptePage p then
            ({ s with dev := d }, .ok (placeOf p sh pa va.toNat ctx (missingAD now acc)))
          else
            match walk d va.toNat (ctx.ptbase.toNat / 2 ^ 16 % 2 ^ 36 * 2 ^ 16) walkLevels with
            | .leaf p2 sh2 pa2 =>
              let d := tlbFill d id ctx.asid va.toNat p2 sh2 pa2
              if permitted p2 acc ctx.level then
                ({ s with dev := d }, .ok (placeOf p2 sh2 pa2 va.toNat ctx (missingAD p2 acc)))
              else ({ s with dev := d }, .error .perm)
            | .missing (some bad) => ({ s with dev := logError bad 8 1 none d }, .error acc.missing)
            | .missing none => ({ s with dev := d }, .error acc.missing)

/-- A place whose access sets no D bit (20 R436). -/
def Place.readOnly (p : Place) : Place :=
  { p with ad := match p.ad with
      | some (pa, b) => if b / 32 % 2 = 1 then some (pa, 32) else none
      | none => none }

/-- The write of PTBASE: entries of the writer's ASID leave every TLB, global ones too under ASID 0 (20 R438). -/
def tlbInvalidate (asid : BitVec 16) (d : Dev) : Dev :=
  { d with tlbs := d.tlbs.filter (fun e =>
      if e.pte.getLsbD 7 then asid != 0 else e.asid != asid) }

/-! ### Contexts -/

/-- The translation context of the running thread. -/
def State.ctx (s : State) : Ctx :=
  ⟨s.core.sup.ptbase, s.core.sup.asid, s.core.level, s.at_, s.core.th.nest * 2 ^ 32 + s.core.th.ord, s.core.th.tid⟩

/-- The scalar DTLB of the running core. -/
def State.dtlb (s : State) : TlbId := .dtlb s.at_

/-- The cluster block that translates for a die of the running core's cluster. -/
def State.vtlb (s : State) (die : Nat) : TlbId := .block (s.at_ / 8) die

/-- The context in which the walker, the Registrar and the host act: no core's windows (17 R470). -/
def alienCore : Nat := 256

/-! ### What a write does beside its bytes -/

/-- The A and D bits an access sets: an atomic OR on its entry at the home, which breaks reservations as any write does; the TLB
copies learn of it (20 R436; 07 R190). -/
def setAD (p : Place) (s : State) : State :=
  match p.ad with
  | none => s
  | some (pa, bits) =>
    if !locPresent s.dev pa then s.mapDev (logAbsent none pa 1)
    else
    let s := breakResv pa 1 false s
    s.mapDev (fun d =>
      let d := writeLines pa 1 (recallLoans pa 1 d)
      { d with
        mem := { d.mem with cells := cellSet d.mem.cells pa (cellGet d.mem.cells pa ||| BitVec.ofNat 8 bits) }
        tlbs := d.tlbs.map (fun e =>
          if e.pteAt = pa then { e with pte := e.pte ||| BitVec.ofNat 64 bits } else e) })

/-- The offset of the pre-emption request words (22 R461). -/
def reqOff : Nat := 0x03FFE000

/-- A core's pre-emption request raised: ignored for a core without a live thread (22 R461). -/
def raisePreempt (n : Nat) (stop : Bool) (s : State) : State :=
  match (if (s.coreAt n).out then .idle else (s.coreAt n).run) with
  | .live | .napping =>
    let s := s.mapCoreAt n (fun c => { c with preempt := true, preemptStop := c.preemptStop || stop })
    dspWrite s (reqOff + 8 * n) 8 (2 + (if (s.coreAt n).preemptStop then 1 else 0))
  | _ => s

/-- A write into the page of request words (22 R461): a whole word with reserved bits zero and REQ set raises PREEMPT; the rest is
ignored, and logged where the rule says so. -/
def requestWrite (who : Option Nat) (off n v : Nat) (s : State) : State :=
  if 0x03FFE800 ≤ off then s
  else if n ≠ 8 ∨ 4 ≤ v then s.mapDev (fun d =>
    logError (dspLoc + off) n 9 who { d with host := { d.host with preemptLog := d.host.preemptLog + 1 } })
  else if v / 2 % 2 = 1 then raisePreempt ((off - reqOff) / 8) (v % 2 = 1) s
  else s

/-- n bytes written at a location by an agent, a core or none: bytes, poison, reservations, loans (17 R389, R391; 20 R440, R441). A
request word's write with REQ set releases what its writer has written (22 R461). -/
def storeBy (who : Option Nat) (s : State) (key loc n v : Nat) (keepV : Bool) : State :=
  if dspLoc + reqOff ≤ loc ∧ loc < dspLoc + 0x03FFF000 then
    requestWrite who (loc - dspLoc) n v (if who.isSome && v / 2 % 2 == 1 then s.release else s)
  else
    let s := breakResv loc n keepV s
    s.mapDev (fun d =>
      let d := if touchesPoison d.mem loc n then logError loc (poisonUnit loc) 2 who d else d
      let d := recallLoans loc n d
      let d := logAbsent who loc n d
      let d := writeLines loc n d
      writeNat key n { d with
        mem := clearCovered d.mem loc n
        joins := d.joins.filter (fun j => !(decide (loc < j.loc + 8) && decide (j.loc < loc + n))) } loc v)

/-- n bytes written at a location by the core whose turn it is. -/
def storeLoc (s : State) (key loc n v : Nat) (keepV : Bool) : State := storeBy (some s.at_) s key loc n v keepV

/-- The write of a read-modify-write of an agent: it breaks no chain of them, so what a read synchronises with stays (18 R410). -/
def rmwBy (who : Option Nat) (s : State) (key loc n v : Nat) (keepV : Bool) : State :=
  (storeBy who s key loc n v keepV).mapDev (fun d => { d with joins := s.dev.joins })

/-- The write of a read-modify-write of the core whose turn it is. -/
def storeRmw (s : State) (key loc n v : Nat) (keepV : Bool) : State := rmwBy (some s.at_) s key loc n v keepV

/-- The Catalogue's load entries that a write of this thread invalidates (10 R279). -/
def catWrite (va : Word) (n : Nat) (s : State) : State :=
  s.mapCore (fun c => { c with cat := { c.cat with entries := c.cat.entries.filter (fun e =>
    match e.load with
    | some (_, gs) => !(gs.contains (va.toNat / 65536) || gs.contains ((va.toNat + n - 1) / 65536))
    | none => true) } })

/-- The Catalogue's load entries of the classes of a mask invalidated (10 R279). -/
def catFence (mask : BitVec 16) (s : State) : State :=
  s.mapCore (fun c => { c with cat := { c.cat with entries := c.cat.entries.filter (fun e =>
    match e.load with
    | some (cl, _) => !mask.getLsbD cl.toNat
    | none => true) } })

/-- Every load entry of the Catalogue invalidated. -/
def catLoads (s : State) : State := catFence 0xFFFF s

/-- An acquire of one class at a scope: TIME is floored, and at cluster scope or wider cache lines go (07 R177, 18 R413); it
invalidates Catalogue load entries of the class (10 R279). -/
def acquireAt (scope : BitVec 2) (mask : BitVec 16) (s : State) : State :=
  let s := catFence mask s
  if scope = 0 then s.raiseFloor 0 else s.acquire

/-- Whether a completion object is one that an engine operation of the running thread has added to. -/
def Join.isOf (j : Join) (t : Thread) : Bool := j.nest == t.nest && j.ord == t.ord && j.tid == t.tid

/-- An acquire that reads a location: at thread scope it invalidates cache lines as well where it reads what an engine
operation of the thread has added there (18 R412). -/
def acquireOf (loc : Nat) (scope : BitVec 2) (mask : BitVec 16) (s : State) : State :=
  acquireAt (if s.dev.joins.any (fun j => j.loc == loc && j.isOf s.core.th) then 1 else scope) mask s

/-- The class mask of one class. -/
def clsMask (c : BitVec 4) : BitVec 16 := 1#16 <<< c.toNat

/-- What a plain load leaves in the caches, through a die slice of the tile buffer: a hit, or a read of its line at the L2 by a
die; a line of a cacheable page is kept (17 R385, R389). -/
def noteLoadOn (die req : Nat) (p : Place) (s : State) : State :=
  let line := p.loc / 128
  let c := p.cacheable && !(cacheWays s).isEmpty
  let s2 := if c && tbHas s.core.tblines die line then s.mapDev (passAcked line) else s.mapDev (readLine req p.loc)
  if c && !isSram p.loc && locPresent s.dev p.loc then
    s2.mapCore (fun k => { k with tblines := tbPut (cacheWays s) die line k.tblines })
  else s2

/-- A load of the scalar unit (log 56). -/
def noteLoad (p : Place) (s : State) : State := noteLoadOn (homeDie p.loc) sqdDie p s

/-- A line a plain store puts into a die slice's coalescing buffer until it drains (17 R385, 18 R407). -/
def noteStoreOn (die : Nat) (p : Place) (s : State) : State :=
  if p.cacheable && !(cacheWays s).isEmpty then
    s.mapCore (fun c => { c with coalesce := coPut die (p.loc / 128) s.dev.clk c.coalesce })
  else s

/-- A store of the scalar unit (log 56). -/
def noteStore (p : Place) (s : State) : State := noteStoreOn (homeDie p.loc) p s

/-! ### The accesses of a thread's scalar unit -/

/-- The scalar unit has read a location (18 R410: a load that read it, with a later `fenceacq`). -/
def seeJoin (loc : Nat) (s : State) : State :=
  s.mapDev (fun d => { d with joins := d.joins.map (fun j =>
    if j.loc == loc && j.isOf s.core.th then { j with seen := true } else j) })

/-- A read of n bytes: the value, or the cause of the trap (05 R124, R125). -/
def loadScalar (s : State) (acc : Acc) (va : Word) (n : Nat) : State × Except Cause (Place × Nat) :=
  if va.toNat % n != 0 then (s, .error .align)
  else
    match translate s s.ctx s.dtlb acc va with
    | (s, .error c) => (s, .error c)
    | (s, .ok p) =>
      if anyPoisoned s.dev n p.loc then (s.mapDev (logUnmapped p.loc), .error .poison)
      else
        let s := seeJoin p.loc (noteLoad p (setAD p s))
        (s, .ok (p, readNat s.dev.mem p.key n p.loc))

/-- A write of n bytes: the state after it, or the cause of the trap (05 R124, R125). -/
def storeScalar (s : State) (va : Word) (n v : Nat) : State × Option Cause :=
  if va.toNat % n != 0 then (s, some .align)
  else
    match translate s s.ctx s.dtlb .write va with
    | (s, .error c) => (s, some c)
    | (s, .ok p) =>
      let s := noteStore p (setAD p s)
      (catWrite va n (storeLoc s p.key p.loc n v false), none)

end Sys2Proof.Machine
end

