-- ==== Sys2Proof/Machine/Lease.lean ====
section
/-! DEFINITION. Lane columns: targets, grants and the adjustments of LEASE (01 R30; 14 R338). -/

namespace Sys2Proof.Machine

/-- Whether a core holds a thread that is dispatched and has not passed kend (14 R334). -/
def Core.occupied (c : Core) : Bool := c.run != .idle

/-- Whether a core holds a live thread: one set aside by a pre-emption is not live while its handler runs (14 R334, R336). -/
def Core.lives (c : Core) : Bool := c.occupied && !c.out

/-- Whether a core can take a thread: it holds none, or its trap handler has saved one that a pre-emption set aside and has gone to
sleep (14 R334, R336; log 54). -/
def Core.vacant (c : Core) : Bool := !c.occupied || (c.out && c.run == .napping)

/-- Whether a core's trap handler is between a switch-out and the `tret` that switches in (21 R451). -/
def Core.switching (c : Core) : Bool := c.out || (c.level != .user && c.sup.sstatus.getLsbD 9)

/-- The cluster numbered c. -/
def State.cluster (s : State) (c : Nat) : Cluster := s.dev.clusters[c % 32]'(Nat.mod_lt _ (by decide))

/-- The cluster numbered c changed. -/
def State.mapCluster (s : State) (c : Nat) (f : Cluster → Cluster) : State :=
  s.mapDev (fun d =>
    let k : Fin 32 := ⟨c % 32, Nat.mod_lt _ (by decide)⟩
    { d with clusters := d.clusters.set k (f d.clusters[k]) })

/-- The cores of a cluster that hold a live thread, in ascending order, numbered within it. -/
def State.occupants (s : State) (c : Nat) : List Nat :=
  (List.range 8).filter (fun k => (s.coreAt (8 * c + k)).lives)

/-- Columns dealt one at a time in rotation from `next` on to threads below PREF (14 R338). -/
def dealCols (pref : Nat → Nat) (order : List Nat) : Nat → Nat → (Nat → Nat) → (Nat → Nat)
  | 0, _, t => t
  | fuel + 1, spare, t =>
    if spare = 0 then t
    else
      let (t2, left) := order.foldl (fun (acc : (Nat → Nat) × Nat) k =>
        if acc.2 ≠ 0 ∧ acc.1 k < pref k then (fun j => if j = k then acc.1 k + 1 else acc.1 j, acc.2 - 1) else acc) (t, spare)
      if left = spare then t else dealCols pref order fuel left t2

/-- The targets of a cluster computed anew: one deal (14 R338). -/
def retarget (c : Nat) (s : State) : State :=
  let live := s.occupants c
  let csr := fun k => (s.coreAt (8 * c + k)).th.csr
  let cl := s.cluster c
  let mins := live.foldl (fun n k => n + (csr k).leaseMin.toNat) 0
  let order := ((List.range 8).map (fun i => (cl.deal + 1 + i) % 8)).filter (live.contains ·)
  let below := order.filter (fun k => decide ((csr k).leaseMin.toNat < (csr k).leasePref.toNat))
  let t := dealCols (fun k => (csr k).leasePref.toNat) order 33 (cl.cols - mins) (fun k => (csr k).leaseMin.toNat)
  s.mapCluster c (fun cl =>
    { cl with
      deal := if mins < cl.cols then below.headD cl.deal else cl.deal
      targets := Vector.ofFn (fun (i : Fin 8) => if live.contains i.val then t i.val else 0) })

/-- The grant the arbiter offers the running thread now (14 R338). -/
def leaseOffer (s : State) : BitVec 8 :=
  let c := s.at_ / 8
  let cl := s.cluster c
  let others := (s.occupants c).foldl (fun n k =>
    if 8 * c + k = s.at_ then n else n + (s.coreAt (8 * c + k)).th.csr.leaseGranted.toNat) 0
  let t := cl.targets[s.at_ % 8]'(Nat.mod_lt _ (by decide))
  BitVec.ofNat 8 (max s.csr.leaseMin.toNat (min t (cl.cols - others)))

/-- MIN and PREF as they are stored (01 R30). -/
def adjustLease (cols mn pf : Nat) : Nat × Nat :=
  let mn := min (max mn 1) cols
  (mn, min (max pf mn) cols)

/-- LEASE.MIN and LEASE.PREF set with the adjustments of R30 (08 R251). -/
def setLease (mn pf : Nat) (s : State) : State :=
  let (a, b) := adjustLease (s.cluster (s.at_ / 8)).cols mn pf
  s.mapCsr (fun c => { c with leaseMin := BitVec.ofNat 8 a, leasePref := BitVec.ofNat 8 b })

end Sys2Proof.Machine
end

