-- ==== Sys2Proof/Machine/Operands.lean ====
section
/-! DEFINITION. Vector operands: tags, VTYPE, placement of elements, groups, masks and the elements an
instruction is active on (01 R17 to R32; 02 R47). -/

namespace Sys2Proof.Machine

/-! ### Tags (01 Table 01-2) -/

/-- The width of a tag's elements in bits. -/
def Tag.width : Tag → Nat
  | .i32 => 32 | .i16 => 16 | .i64 => 64 | .bf16 => 16 | .f32 => 32 | .f64 => 64

/-- Whether a tag is an integer tag. -/
def Tag.isInt : Tag → Bool
  | .i32 => true | .i16 => true | .i64 => true | _ => false

/-- The integer tag of a width in bytes (07 R180). -/
def Tag.intOf : Nat → Tag
  | 2 => .i16 | 4 => .i32 | _ => .i64

/-! ### VTYPE (01 Table 01-3, R22, R23) -/

/-- Bit 63, VILL. -/
def vtIll (v : Word) : Bool := v.getLsbD 63
/-- The group size; 1 while VILL is set (06 R154). -/
def vtGrp (v : Word) : Nat := if vtIll v then 1 else 2 ^ (v.toNat % 4)
/-- SLICES. -/
def vtSlices (v : Word) : Nat := v.toNat / 8 % 8
/-- REP. -/
def vtRep (v : Word) : Bool := v.getLsbD 6
/-- FMTX. -/
def vtFmtx (v : Word) : Bool := v.getLsbD 7
/-- The die mask. -/
def vtDm (v : Word) : BitVec 8 := v.extractLsb' 8 8
/-- The die stride. -/
def vtDs (v : Word) : BitVec 3 := v.extractLsb' 16 3
/-- The working tag. -/
def vtWtag (v : Word) : Tag := (Tag.ofCode (v.toNat / 2 ^ 19 % 16)).getD .i32

/-- Whether a value may be written to VTYPE (01 R22). -/
def vtValid (v : Word) : Bool :=
  decide (v.toNat % 8 ≤ 3) && (vtSlices v == 2 || vtSlices v == 3) &&
    (Tag.ofCode (v.toNat / 2 ^ 19 % 16)).isSome && vtDm v != 0 && v.toNat / 2 ^ 23 == 0

/-- VLMAX of a VTYPE at a register length (01 R23). -/
def vlmaxOf (vlen : Nat) (v : Word) : Nat :=
  if vtIll v then 0 else min (vlen / (vtWtag v).width * vtGrp v) 16384

/-- The register length a thread computes with (01 R23, 10 R284). -/
def vlenOf (d : Dev) (t : Thread) : Nat := if t.vlfix then 16384 else d.vlen

/-- The register length of the running thread. -/
def State.vlen (s : State) : Nat := vlenOf s.dev s.core.th

/-- VLMAX of the running thread. -/
def State.vlmax (s : State) : Nat := vlmaxOf s.vlen s.csr.vtype

/-- A value written to VTYPE, with its effect on vl (01 R22, R24). -/
def writeVtype (v : Word) (s : State) : State :=
  if vtValid v then
    s.mapCsr (fun c => { c with
      vtype := v, vl := BitVec.ofNat 15 (min c.vl.toNat (vlmaxOf s.vlen v)) })
  else s.mapCsr (fun c => { c with vtype := 0x8000000000000000, vl := 0 })

/-- A request for vl: the least of it and VLMAX, and the grant the arbiter offers (01 R24; 06 R152). -/
def writeVl (req : Nat) (s : State) : State :=
  let g := leaseOffer s
  s.mapCsr (fun c => { c with vl := BitVec.ofNat 15 (min req s.vlmax), leaseGranted := g })

/-! ### Placement (01 R26, R27, R29) -/

/-- Elements of width w per register. -/
def perReg (vlen w : Nat) : Nat := vlen / w

/-- The die of element i at width w (01 R26). -/
def dieOf (vlen w i : Nat) : Nat := i % perReg vlen w / (perReg vlen w / 8)

/-- The die-local index of element i (01 R29). -/
def dieIndex (vlen w i : Nat) : Nat :=
  let e := perReg vlen w
  i / e * (e / 8) + i % e % (e / 8)

/-- How many elements of width w a group of n registers holds (01 R20). -/
def capacity (vlen w n : Nat) : Nat := perReg vlen w * n

/-! ### Elements -/

/-- The register numbered n, beyond the file a zero register. -/
def vreg (t : Thread) (n : Nat) : VReg := t.v.getD n VReg.zero

/-- Element i of width w of the group based at `base`. -/
def el (t : Thread) (vlen base w i : Nat) : Nat :=
  ((vreg t (base + i / perReg vlen w)).bits.toNat >>> (i % perReg vlen w * w)) % 2 ^ w

/-- Whether element i of width w carries a poison mark (07 R176). -/
def elPoison (t : Thread) (vlen base w i : Nat) : Bool :=
  (List.range (w / 16)).any (fun k =>
    (vreg t (base + i / perReg vlen w)).poison.getLsbD (i % perReg vlen w * (w / 16) + k))

/-- The register an element lies in. -/
def elReg (vlen base w i : Nat) : Nat := base + i / perReg vlen w

/-- A register whose first cnt slots of width w are given by f (value and poison mark), none keeping the old
bits; the tag is set. -/
def setSlots (w cnt : Nat) (tag : Tag) (f : Nat → Option (Nat × Bool)) (r : VReg) : VReg :=
  let old := r.bits.toNat
  let vals := (List.range cnt).map (fun k =>
    match f k with
    | some (x, _) => x
    | none => (old >>> (k * w)) % 2 ^ w)
  let u := w / 16
  let marks := (List.range (cnt * u)).map (fun k =>
    match f (k / u) with
    | some (_, p) => if p then 1 else 0
    | none => (r.poison.toNat >>> k) % 2)
  { bits := BitVec.ofNat 16384 (packEls w vals + (old >>> (cnt * w)) * 2 ^ (cnt * w))
    tag := tag
    poison := BitVec.ofNat 1024 (packEls 1 marks + (r.poison.toNat >>> (cnt * u)) * 2 ^ (cnt * u)) }

/-- A group of n registers at `base` whose elements below cnt are given by f; every register takes the tag. -/
def setEls (t : Thread) (vlen base n w cnt : Nat) (tag : Tag) (f : Nat → Option (Nat × Bool)) : Thread :=
  let e := perReg vlen w
  { t with v := Vector.ofFn (fun (r : Fin 32) =>
      if base ≤ r.val ∧ r.val < base + n then
        let j := r.val - base
        setSlots w (min e (cnt - j * e)) tag (fun k => f (j * e + k)) t.v[r]
      else t.v[r]) }

/-- The registers of a group as bits of VDIRTY, VLOADED or VFESTATE. -/
def groupBits (base n : Nat) : BitVec 32 := BitVec.ofNat 32 ((2 ^ n - 1) * 2 ^ base)

/-- A group's VDIRTY bits set (01 Table 01-6). -/
def markDirty (base n : Nat) (t : Thread) : Thread :=
  { t with csr := { t.csr with vdirty := t.csr.vdirty ||| groupBits base n } }

/-- A group's VDIRTY bits set, and the full bits of its gated registers, since the write has completed (07 R199). -/
def markWritten (base n : Nat) (t : Thread) : Thread :=
  { t with csr := { t.csr with
      vdirty := t.csr.vdirty ||| groupBits base n
      vfestate := t.csr.vfestate ||| (t.csr.vfemask &&& groupBits base n) } }

/-- The lowest register of a group whose bit in a mask is 0, if any. -/
def lowestClear (m : BitVec 32) (base n : Nat) : Option Nat :=
  ((List.range n).map (base + ·)).find? (fun r => !m.getLsbD r)

/-! ### Masks (01 R31) -/

/-- Mask registers per mask group at a VLMAX. -/
def maskGroup (vlmax : Nat) : Nat := max 1 (vlmax / 1024)

/-- Bit i of the mask group based at k. -/
def maskBit (t : Thread) (k i : Nat) : Bool := (t.m.getD (k + i / 1024) 0).getLsbD (i % 1024)

/-- Bits below cnt of the mask group at k set by f, none keeping the old bit. -/
def setMaskBits (t : Thread) (k n cnt : Nat) (f : Nat → Option Bool) : Thread :=
  { t with m := Vector.ofFn (fun (r : Fin 16) =>
      if k ≤ r.val ∧ r.val < k + n then
        let j := r.val - k
        let c := min 1024 (cnt - j * 1024)
        let old := (t.m[r]).toNat
        BitVec.ofNat 1024 (packEls 1 ((List.range c).map (fun b =>
          match f (j * 1024 + b) with
          | some x => if x then 1 else 0
          | none => (old >>> b) % 2)) + (old >>> c) * 2 ^ c)
      else t.m[r]) }

/-- Whether a lock name is well formed (08 R211). -/
def nameOk (n : Word) : Bool := !(n.toNat / 2 ^ 16 % 2 ^ 24 == 0xFFFFFF && n.toNat % 2 ^ 16 != 0xFFFF)

end Sys2Proof.Machine
end

