-- ==== Sys2Proof/Machine/Flags.lean ====
section
/-! DEFINITION. The floating-point flags and how they accumulate in FFLAGS (04 R91, 01 Table 01-6). -/

namespace Sys2Proof.Machine

/-- The flags of FFLAGS (01 Table 01-6). -/
abbrev Flags := BitVec 5
/-- Invalid. -/
def fNV : Flags := 1
/-- Divide by zero. -/
def fDZ : Flags := 2
/-- Overflow. -/
def fOF : Flags := 4
/-- Underflow. -/
def fUF : Flags := 8
/-- Inexact. -/
def fNX : Flags := 16

/-- The union of the flags of many elements (04 R91). -/
def flagsUnion : List Flags → Flags
  | [] => 0
  | x :: xs => x ||| flagsUnion xs

/-- Flags raised by the running thread: bits of FFLAGS are sticky (04 R91). -/
def raise (f : Flags) (s : State) : State := s.mapCsr (fun c => { c with fflags := c.fflags ||| f })

end Sys2Proof.Machine
end

