-- ==== Sys2Proof/Machine/Fp.lean ====
section
/-! DEFINITION. Floating-point arithmetic on bit patterns: formats, unpacking, the one rounding and the
operations built on it (04 R86 to R96, Table 04-1 to Table 04-4). -/

namespace Sys2Proof.Machine

/-- A binary format: the widths of its exponent and fraction fields (04 Table 04-1). -/
structure Fmt where
  eb : Nat
  fb : Nat
  deriving DecidableEq, Repr

/-- FP64. -/
def f64 : Fmt := ⟨11, 52⟩
/-- FP32. -/
def f32 : Fmt := ⟨8, 23⟩
/-- BF16. -/
def bf16 : Fmt := ⟨8, 7⟩
/-- FP16. -/
def fp16 : Fmt := ⟨5, 10⟩

/-- The format of a floating-point tag. -/
def Tag.fmt : Tag → Fmt
  | .bf16 => Sys2Proof.Machine.bf16
  | .f32 => Sys2Proof.Machine.f32
  | _ => Sys2Proof.Machine.f64

/-- The exponent bias. -/
def Fmt.bias (f : Fmt) : Nat := 2 ^ (f.eb - 1) - 1
/-- The width in bits. -/
def Fmt.width (f : Fmt) : Nat := 1 + f.eb + f.fb
/-- The exponent of the least normal value. -/
def Fmt.emin (f : Fmt) : Int := 1 - (f.bias : Int)
/-- The pattern of +infinity. -/
def Fmt.infBits (f : Fmt) : Nat := (2 ^ f.eb - 1) * 2 ^ f.fb
/-- The default quiet NaN (04 R86). -/
def Fmt.qnan (f : Fmt) : Nat := f.infBits + 2 ^ (f.fb - 1)
/-- The pattern of the largest finite value. -/
def Fmt.maxFin (f : Fmt) : Nat := f.infBits - 1
/-- The sign bit of a format put on a pattern. -/
def Fmt.signed (f : Fmt) (s : Bool) (x : Nat) : Nat := x + (if s then 2 ^ (f.eb + f.fb) else 0)

/-- A floating-point value: a NaN with its fraction at the top of 52 bits, an infinity, or ±m × 2^e. -/
inductive Fv where
  | nan (s : Bool) (quiet : Bool) (frac : Nat)
  | inf (s : Bool)
  | num (s : Bool) (m : Nat) (e : Int)
  deriving DecidableEq, Repr

/-- The value of a pattern; with FTZ a subnormal reads as zero (04 R86, R90). -/
def unpack (f : Fmt) (ftz : Bool) (x : Nat) : Fv :=
  let s := x.testBit (f.eb + f.fb)
  let ex := x / 2 ^ f.fb % 2 ^ f.eb
  let fr := x % 2 ^ f.fb
  if ex = 2 ^ f.eb - 1 then
    if fr = 0 then .inf s else .nan s (fr.testBit (f.fb - 1)) (fr * 2 ^ (52 - f.fb))
  else if ex = 0 then .num s (if ftz then 0 else fr) (f.emin - (f.fb : Int))
  else .num s (2 ^ f.fb + fr) ((ex : Int) - (f.bias : Int) - (f.fb : Int))

/-- The rounding modes of FRM (04 R87). -/
inductive Rm where
  | rne | rtz | rdn | rup | rmm
  deriving DecidableEq, Repr

/-- The mode an FRM value names. -/
def Rm.of (x : BitVec 3) : Rm :=
  match x.toNat with
  | 0 => .rne
  | 1 => .rtz
  | 2 => .rdn
  | 3 => .rup
  | _ => .rmm

/-- m / 2^k rounded in a mode, and whether it is exact; s is the sign of the value (04 R87). -/
def roundShift (rm : Rm) (s : Bool) (m : Nat) (k : Int) : Nat × Bool :=
  if k ≤ 0 then (m * 2 ^ (-k).toNat, true)
  else
    let d := 2 ^ k.toNat
    let q := m / d
    let r := m % d
    let up := match rm with
      | .rne => decide (d < 2 * r) || (decide (2 * r = d) && q % 2 == 1)
      | .rtz => false
      | .rdn => s && r != 0
      | .rup => !s && r != 0
      | .rmm => decide (d ≤ 2 * r)
    (if up then q + 1 else q, r == 0)

/-- The number of bits of a natural number. -/
def bitLen (m : Nat) : Nat := if m = 0 then 0 else Nat.log2 m + 1

/-- An overflowed result (04 Table 04-2). -/
def overflowed (f : Fmt) (rm : Rm) (s : Bool) : Nat :=
  f.signed s (match rm, s with
    | .rtz, _ => f.maxFin
    | .rdn, false => f.maxFin
    | .rup, true => f.maxFin
    | _, _ => f.infBits)

/-- The value ±m × 2^e rounded once to a format, with the flags of R88 to R91. -/
def roundTo (f : Fmt) (rm : Rm) (ftz : Bool) (s : Bool) (m : Nat) (e : Int) : Nat × Flags :=
  if m = 0 then (f.signed s 0, 0)
  else
    let k : Int := (bitLen m : Int) - (f.fb + 1 : Int)
    let (r, exact) := roundShift rm s m k
    let top : Int := e + k + ((bitLen r : Int) - 1)
    if (f.bias : Int) < top then (overflowed f rm s, fOF ||| fNX)
    else if top < f.emin then
      if ftz then (f.signed s 0, fUF ||| fNX)
      else
        let (r2, exact2) := roundShift rm s m (f.emin - (f.fb : Int) - e)
        (f.signed s r2, if exact2 then 0 else fUF ||| fNX)
    else
      let r := if bitLen r = f.fb + 2 then r / 2 else r
      (f.signed s ((top + (f.bias : Int)).toNat * 2 ^ f.fb + r - 2 ^ f.fb), if exact then 0 else fNX)

/-- A NaN in a format: made quiet, its sign and the high fraction bits kept (04 R92, R95). -/
def packNan (f : Fmt) (s : Bool) (frac : Nat) : Nat :=
  let fr := frac / 2 ^ (52 - f.fb) % 2 ^ f.fb
  f.signed s (f.infBits + (if fr.testBit (f.fb - 1) then fr else fr + 2 ^ (f.fb - 1)))

/-- Whether a value is a signalling NaN. -/
def Fv.snan : Fv → Bool
  | .nan _ q _ => !q
  | _ => false

/-- Whether a value is a NaN. -/
def Fv.isNan : Fv → Bool
  | .nan _ _ _ => true
  | _ => false

/-- Whether a value is a zero. -/
def Fv.isZero : Fv → Bool
  | .num _ 0 _ => true
  | _ => false

/-- The sign of a value. -/
def Fv.sign : Fv → Bool
  | .nan s _ _ => s
  | .inf s => s
  | .num s _ _ => s

/-- A value with its sign changed; a NaN keeps its own (05 R129). -/
def Fv.neg : Fv → Fv
  | .nan s q fr => .nan s q fr
  | .inf s => .inf (!s)
  | .num s m e => .num (!s) m e

/-- The result when an operand is a NaN: the first one, made quiet (04 R92). -/
def nanResult (f : Fmt) (ops : List Fv) : Option (Nat × Flags) :=
  (ops.find? Fv.isNan).map (fun v =>
    match v with
    | .nan s _ fr => (packNan f s fr, if ops.any Fv.snan then fNV else 0)
    | _ => (f.qnan, 0))

/-- The default NaN of an invalid operation (04 R92). -/
def invalid (f : Fmt) : Nat × Flags := (f.qnan, fNV)

/-- A signed magnitude as an integer. -/
def signedInt (s : Bool) (m : Nat) : Int := if s then -(m : Int) else (m : Int)

/-- The exact sum of two finite values as a sign, a magnitude and an exponent; an exact zero takes the sign of
R87. -/
def exactSum (rm : Rm) (s1 : Bool) (m1 : Nat) (e1 : Int) (s2 : Bool) (m2 : Nat) (e2 : Int) : Bool × Nat × Int :=
  let e := min e1 e2
  let v := signedInt s1 (m1 * 2 ^ (e1 - e).toNat) + signedInt s2 (m2 * 2 ^ (e2 - e).toNat)
  if v = 0 then (if s1 = s2 then s1 else rm == .rdn, 0, e)
  else (decide (v < 0), v.natAbs, e)

/-- Addition of values (04 R87, Table 04-3). -/
def fvAdd (f : Fmt) (rm : Rm) (ftz : Bool) (a b : Fv) : Nat × Flags :=
  match nanResult f [a, b] with
  | some r => r
  | none =>
    match a, b with
    | .inf s, .inf t => if s = t then (f.signed s f.infBits, 0) else invalid f
    | .inf s, _ => (f.signed s f.infBits, 0)
    | _, .inf t => (f.signed t f.infBits, 0)
    | .num s1 m1 e1, .num s2 m2 e2 =>
      let (s, m, e) := exactSum rm s1 m1 e1 s2 m2 e2
      roundTo f rm ftz s m e
    | _, _ => invalid f

/-- Multiplication of values. -/
def fvMul (f : Fmt) (rm : Rm) (ftz : Bool) (a b : Fv) : Nat × Flags :=
  match nanResult f [a, b] with
  | some r => r
  | none =>
    match a, b with
    | .num s1 m1 e1, .num s2 m2 e2 => roundTo f rm ftz (s1 != s2) (m1 * m2) (e1 + e2)
    | x, y => if x.isZero || y.isZero then invalid f else (f.signed (x.sign != y.sign) f.infBits, 0)

/-- The quotient of two magnitudes with at least n bits; its last bit is sticky. -/
def stickyDiv (n m1 m2 : Nat) : Nat × Int :=
  let k := n + bitLen m2 - bitLen m1
  let q := m1 * 2 ^ k / m2
  (2 * q + (if m1 * 2 ^ k % m2 = 0 then 0 else 1), -(k : Int) - 1)

/-- Division of values (04 Table 04-3). -/
def fvDiv (f : Fmt) (rm : Rm) (ftz : Bool) (a b : Fv) : Nat × Flags :=
  match nanResult f [a, b] with
  | some r => r
  | none =>
    match a, b with
    | .inf _, .inf _ => invalid f
    | .inf s, y => (f.signed (s != y.sign) f.infBits, 0)
    | x, .inf t => (f.signed (x.sign != t) 0, 0)
    | .num s1 m1 e1, .num s2 m2 e2 =>
      if m2 = 0 then
        if m1 = 0 then invalid f else (f.signed (s1 != s2) f.infBits, fDZ)
      else if m1 = 0 then (f.signed (s1 != s2) 0, 0)
      else
        let (q, k) := stickyDiv (f.fb + 4) m1 m2
        roundTo f rm ftz (s1 != s2) q (e1 - e2 + k)
    | _, _ => invalid f

/-- The integer square root, decided bit by bit from bit n down. -/
def isqrtBits (x : Nat) : Nat → Nat → Nat
  | 0, r => if (r + 1) * (r + 1) ≤ x then r + 1 else r
  | n + 1, r =>
    let t := r + 2 ^ (n + 1)
    isqrtBits x n (if t * t ≤ x then t else r)

/-- The integer square root. -/
def isqrt (x : Nat) : Nat := isqrtBits x (bitLen x / 2 + 1) 0

/-- The square root of m × 2^e with at least n bits, its last bit sticky. -/
def stickySqrt (n m : Nat) (e : Int) : Nat × Int :=
  let k := 2 * n + (if e % 2 = 0 then 0 else 1)
  let x := m * 2 ^ k
  let r := isqrt x
  (2 * r + (if r * r = x then 0 else 1), (e - (k : Int)) / 2 - 1)

/-- Square root (04 Table 04-3). -/
def fvSqrt (f : Fmt) (rm : Rm) (ftz : Bool) (a : Fv) : Nat × Flags :=
  match a with
  | .nan s q fr => (packNan f s fr, if q then 0 else fNV)
  | .inf s => if s then invalid f else (f.infBits, 0)
  | .num s m e =>
    if m = 0 then (f.signed s 0, 0)
    else if s then invalid f
    else
      let (r, k) := stickySqrt (f.fb + 4) m e
      roundTo f rm ftz false r k

/-- a × b + c rounded once (04 R87, R92, Table 04-3). -/
def fvFma (f : Fmt) (rm : Rm) (ftz : Bool) (a b c : Fv) : Nat × Flags :=
  let zi := (a.isZero && (match b with
      | .inf _ => true
      | _ => false)) || (b.isZero && (match a with
      | .inf _ => true
      | _ => false))
  match nanResult f [a, b, c] with
  | some (r, fl) => (r, if zi then fl ||| fNV else fl)
  | none =>
    if zi then invalid f
    else
      match a, b with
      | .num s1 m1 e1, .num s2 m2 e2 =>
        match c with
        | .num s3 m3 e3 =>
          let (s, m, e) := exactSum rm (s1 != s2) (m1 * m2) (e1 + e2) s3 m3 e3
          roundTo f rm ftz s m e
        | x => (f.signed x.sign f.infBits, 0)
      | x, y =>
        let s := x.sign != y.sign
        match c with
        | .inf t => if s = t then (f.signed s f.infBits, 0) else invalid f
        | _ => (f.signed s f.infBits, 0)

/-- The order of two values that are no NaNs; the zeros are equal. -/
def fvCmp (a b : Fv) : Ordering :=
  match a, b with
  | .inf s, .inf t => compare (!s) (!t)
  | .inf s, _ => if s then .lt else .gt
  | _, .inf t => if t then .gt else .lt
  | .num s1 m1 e1, .num s2 m2 e2 =>
    let e := min e1 e2
    compare (signedInt s1 (m1 * 2 ^ (e1 - e).toNat)) (signedInt s2 (m2 * 2 ^ (e2 - e).toNat))
  | _, _ => .eq

/-- Whether a comes before b where -0 lies below +0 (04 R93). -/
def fvBelow (a b : Fv) : Bool :=
  match fvCmp a b with
  | .lt => true
  | .gt => false
  | .eq => a.sign && !b.sign

/-- The pattern of a value that came from the format itself. -/
def repack (f : Fmt) (v : Fv) : Nat :=
  match v with
  | .nan s _ fr => packNan f s fr
  | .inf s => f.signed s f.infBits
  | .num s m e => (roundTo f .rne false s m e).1

/-- Minimum or maximum (04 R93). -/
def fvMinMax (f : Fmt) (isMax : Bool) (a b : Fv) : Nat × Flags :=
  match nanResult f [a, b] with
  | some r => r
  | none => (repack f (if isMax then (if fvBelow a b then b else a) else (if fvBelow b a then b else a)), 0)

/-- Equality, less and less or equal with the flag of R94. -/
def fvEq (a b : Fv) : Bool × Flags :=
  if a.isNan || b.isNan then (false, if a.snan || b.snan then fNV else 0) else (fvCmp a b == .eq, 0)
/-- Less than (04 R94). -/
def fvLt (a b : Fv) : Bool × Flags :=
  if a.isNan || b.isNan then (false, fNV) else (fvCmp a b == .lt, 0)
/-- Less than or equal (04 R94). -/
def fvLe (a b : Fv) : Bool × Flags :=
  if a.isNan || b.isNan then (false, fNV) else (fvCmp a b != .gt, 0)

/-- A value converted to a format (04 R95). -/
def fvTo (f : Fmt) (rm : Rm) (ftz : Bool) (a : Fv) : Nat × Flags :=
  match a with
  | .nan s q fr => (packNan f s fr, if q then 0 else fNV)
  | .inf s => (f.signed s f.infBits, 0)
  | .num s m e => roundTo f rm ftz s m e

/-- A value converted to an integer of width w (04 Table 04-4). -/
def fvToInt (rm : Rm) (signed : Bool) (w : Nat) (a : Fv) : Nat × Flags :=
  let hi : Int := if signed then 2 ^ (w - 1) - 1 else 2 ^ w - 1
  let lo : Int := if signed then -(2 ^ (w - 1)) else 0
  let wrap := fun (i : Int) => (i % (2 ^ w : Int)).toNat
  match a with
  | .nan _ _ _ => (wrap hi, fNV)
  | .inf s => (wrap (if s then lo else hi), fNV)
  | .num s m e =>
    let (r, exact) := roundShift rm s m (-e)
    let v := signedInt s r
    if v < lo then (wrap lo, fNV)
    else if hi < v then (wrap hi, fNV)
    else (wrap v, if exact then 0 else fNX)

/-- An integer of width w converted to a format (04 Table 04-4). -/
def intToFv (signed : Bool) (w x : Nat) : Fv :=
  if signed && x.testBit (w - 1) then .num true (2 ^ w - x) 0 else .num false x 0

/-- The class mask of a pattern (05 Table 05-6). -/
def fclassOf (f : Fmt) (x : Nat) : Nat :=
  let s := x.testBit (f.eb + f.fb)
  let fr := x % 2 ^ f.fb
  let k := match unpack f false x with
    | .nan _ q _ => if q then 4 else 5
    | .inf _ => 3
    | .num _ m _ => if m = 0 then 0 else if x / 2 ^ f.fb % 2 ^ f.eb = 0 ∧ fr ≠ 0 then 1 else 2
  2 ^ k + (if s then 256 else 0)

/-- Sign injection: the bits of a under a new sign. -/
def withSign (f : Fmt) (s : Bool) (x : Nat) : Nat := f.signed s (x % 2 ^ (f.eb + f.fb))

/-- The sign bit of a pattern. -/
def signBit (f : Fmt) (x : Nat) : Bool := x.testBit (f.eb + f.fb)

/-- A pattern rounded to an integral value of its own format (06 R160). -/
def fvRound (f : Fmt) (rm : Rm) (a : Fv) : Nat × Flags :=
  match a with
  | .num s m e =>
    if 0 ≤ e then (repack f a, 0)
    else
      let (r, exact) := roundShift rm s m (-e)
      ((roundTo f .rne false s r 0).1, if exact then 0 else fNX)
  | v => fvTo f rm false v

end Sys2Proof.Machine
end

