-- ==== Sys2Proof/Machine/Bfp.lean ====
section
/-! DEFINITION. Block-floating-point accumulator rows and planar operand blocks as numbers
(04 R105 to R113; 08 R227, R229). -/

namespace Sys2Proof.Machine

/-- The greatest mantissa (04 R108). -/
def mantMax : Int := 2 ^ 47 - 1

/-- Flags of a scale word (04 Table 04-9). -/
def tTRUNC : BitVec 5 := 1
/-- RENORM. -/
def tRENORM : BitVec 5 := 2
/-- SAT. -/
def tSAT : BitVec 5 := 4
/-- NANV. -/
def tNANV : BitVec 5 := 8
/-- EOVF. -/
def tEOVF : BitVec 5 := 16

/-- A row of zeros as `tzero` writes it (04 Table 04-9). -/
def TileRow.zero : TileRow := ⟨List.replicate 64 0, -2048, 0⟩

/-- The bit length of a mantissa (04 R110). -/
def mantLen (m : Int) : Nat := if 0 ≤ m then bitLen m.toNat else bitLen (-m - 1).toNat

/-- Headroom (04 R110). -/
def headroom (ms : List Int) : Nat := 47 - (ms.map mantLen).foldl max 0

/-- m / 2^n rounded to nearest, ties to even. -/
def rneShift (m : Int) (n : Nat) : Int :=
  let q := m / 2 ^ n
  let r := m % 2 ^ n
  if (2 ^ n : Int) < 2 * r ∨ (2 * r = 2 ^ n ∧ q % 2 = 1) then q + 1 else q

/-- P × 2^d, toward −∞ where bits drop, and whether any did (04 R111). -/
def alignTo (p : Int) (d : Int) : Int × Bool :=
  if 0 ≤ d then (p * 2 ^ d.toNat, false)
  else (p / 2 ^ (-d).toNat, p % 2 ^ (-d).toNat != 0)

/-- Whether sums fit a row. -/
def allFit (l : List Int) : Bool := l.all (fun v => decide (-mantMax ≤ v) && decide (v ≤ mantMax))

/-- A sum clamped, and whether it was. -/
def clampMant (v : Int) : Int × Bool :=
  if mantMax < v then (mantMax, true) else if v < -mantMax then (-mantMax, true) else (v, false)

/-- The least number from lo on, at most hi, that has a property. -/
def leastFrom (lo : Int) (fuel : Nat) (ok : Int → Bool) : Option Int :=
  ((List.range fuel).map (fun (k : Nat) => lo + (k : Int))).find? ok

/-- Two rows added column by column: mantissas M at exponent E, and terms that `term E` aligns to an exponent
(04 R111, R112): renormalisation, exponent overflow and the result. -/
def addAligned (ms : List Int) (e : Int) (fl : BitVec 5) (term : Int → List (Int × Bool)) : TileRow :=
  let sums := fun (n : Nat) => List.zipWith (fun m a => (if n = 0 then m else rneShift m n) + a.1) ms (term (e + n))
  let trunc := fun (n : Nat) => if (term (e + n)).any (·.2) then tTRUNC else 0
  if allFit (sums 0) then ⟨sums 0, e, fl ||| trunc 0⟩
  else
    match leastFrom 1 (2047 - e).toNat (fun n => allFit (sums n.toNat)) with
    | some n => ⟨sums n.toNat, e + n, fl ||| trunc n.toNat ||| tRENORM⟩
    | none =>
      let n := (2047 - e).toNat
      let cs := (sums n).map clampMant
      ⟨cs.map (·.1), e + n, fl ||| trunc n ||| tEOVF ||| (if n = 0 then 0 else tRENORM)
        ||| (if cs.any (·.2) then tSAT else 0)⟩

/-- Terms P with exponents, aligned to an exponent. -/
def termsAt (ps xs : List Int) (e : Int) : List (Int × Bool) := List.zipWith (fun p x => alignTo p (x - e)) ps xs

/-- The adoption of an exponent by a row of zeros (04 R111). -/
def adopt (ps xs : List Int) (fl : BitVec 5) : TileRow :=
  let used := (List.zip ps xs).filter (fun p => p.1 != 0)
  let lo := (used.map (·.2)).foldl min 1000000
  let lo := if lo < -2048 then -2048 else if 2047 < lo then 2047 else lo
  let fin := fun (e : Int) => termsAt ps xs e
  let trunc := fun (e : Int) => if (fin e).any (·.2) then tTRUNC else 0
  match leastFrom lo (2048 - lo).toNat (fun e => allFit ((fin e).map (·.1))) with
  | some e => ⟨(fin e).map (·.1), e, fl ||| trunc e⟩
  | none =>
    let cs := (fin 2047).map (fun q => clampMant q.1)
    ⟨cs.map (·.1), 2047, fl ||| trunc 2047 ||| tEOVF ||| (if cs.any (·.2) then tSAT else 0)⟩

/-- One step: the sums P_c with exponents ea + eb(c) added into a row (04 R111). -/
def rowStep (r : TileRow) (ps xs : List Int) : TileRow :=
  if r.m.all (· == 0) && ps.any (· != 0) then adopt ps xs r.flags
  else addAligned r.m r.e r.flags (termsAt ps xs)

/-- A private row merged into a memory row (04 R112). -/
def rowMerge (r p : TileRow) : TileRow :=
  let fl := r.flags ||| p.flags
  if r.m.all (· == 0) then ⟨p.m, p.e, fl⟩
  else
    let e := max r.e p.e
    let ms := r.m.map (fun m => alignTo m (r.e - e))
    let fl := fl ||| (if ms.any (·.2) then tTRUNC else 0)
    addAligned (ms.map (·.1)) e fl (fun x => p.m.map (fun m => alignTo m (p.e - x)))

/-- A row given a headroom of at least t (08 R227). -/
def rowRenorm (t : Nat) (r : TileRow) : TileRow :=
  if t ≤ headroom r.m then r
  else
    let at_ := fun (n : Nat) => r.m.map (fun m => rneShift m n)
    let n := (((List.range 60).map (· + 1)).find? (fun n => decide (t ≤ headroom (at_ n)))).getD 60
    if 2047 < r.e + n then
      let n := (2047 - r.e).toNat
      ⟨if n = 0 then r.m else at_ n, 2047, r.flags ||| tEOVF ||| (if n = 0 then 0 else tRENORM)⟩
    else ⟨at_ n, r.e + n, r.flags ||| tRENORM⟩

/-- The scale word of a row (04 Table 04-9). -/
def scaleWord (r : TileRow) : Nat :=
  (r.e % 4096).toNat * 2 ^ 12 + headroom r.m * 2 ^ 6 + r.flags.toNat

/-- A row from its 64 stored mantissas and its scale word (04 R108, R109). -/
def rowOf (ms : List Nat) (scale : Nat) : TileRow :=
  let vs := ms.map (fun v => (BitVec.ofNat 48 v).toInt)
  let e := (BitVec.ofNat 12 (scale / 2 ^ 12)).toInt
  let fl := BitVec.ofNat 5 scale
  if vs.any (· == -(2 ^ 47)) then
    ⟨vs.map (fun v => if v = -(2 ^ 47) then -mantMax else v), e, fl ||| tSAT⟩
  else ⟨vs, e, fl⟩

/-- The stored form of a mantissa. -/
def mantBits (m : Int) : Nat := (m % 2 ^ 48).toNat

/-- An element of a row exported (04 R113). -/
def exportEl (f : Fmt) (r : TileRow) (c : Nat) : Nat × Flags :=
  if r.flags &&& tNANV != 0 then (f.qnan, 0)
  else
    let m := r.m.getD c 0
    roundTo f .rne false (decide (m < 0)) m.natAbs r.e

/-- The summary `tstat` returns of 64 scale words (08 R229). -/
def tileSummary (ws : List Nat) : Word :=
  let fl := ws.foldl (fun a w => a ||| w % 32) 0
  let h := (ws.map (fun w => w / 2 ^ 6 % 64)).foldl min 63
  let e := (ws.map (fun w => (BitVec.ofNat 12 (w / 2 ^ 12)).toInt)).foldl max (-2048)
  BitVec.ofNat 64 (fl + h * 2 ^ 6 + (e % 4096).toNat * 2 ^ 12)

/-! ### Planar blocks (04 R105 to R107) -/

/-- A header from its 256 bytes; none where R105 refuses it. -/
def hdrOf (bs : List Nat) : Option PlanarHdr :=
  let b := fun i => bs.getD i 0
  let p := b 0x80
  let k := b 0x82 + 256 * b 0x83
  if 1 ≤ p ∧ p ≤ 25 ∧ b 0x81 ≤ 1 ∧ 1 ≤ k ∧ k ≤ 64 ∧ b 0x84 ≤ 1 ∧ (bs.drop 0x85).all (· == 0) then
    some { e := (List.range 64).map (fun i => (BitVec.ofNat 16 (b (2 * i) + 256 * b (2 * i + 1))).toInt)
           p := p
           role := b 0x81
           k := k
           nanv := b 0x84 == 1 }
  else none

/-- The exponent of a vector of values (04 R107). -/
def planarExp (p : Nat) (vs : List Fv) : Int :=
  let tops := vs.filterMap (fun v => match v with
    | .num _ m e => if m = 0 then none else some (e + (bitLen m : Int) - 1)
    | _ => none)
  match tops with
  | [] => -1024
  | t :: ts => ts.foldl max t - ((p : Int) - 2)

/-- The mantissa of a value at an exponent (04 R107). -/
def planarMant (p : Nat) (e : Int) (v : Fv) : Int :=
  match v with
  | .num s m x =>
    let r := signedInt s (roundShift .rne false m (e - x)).1
    max (-(2 ^ (p - 1))) (min (2 ^ (p - 1) - 1) r)
  | _ => 0

/-- Whether a value is a NaN or an infinity. -/
def Fv.notFinite : Fv → Bool
  | .num _ _ _ => false
  | _ => true

/-- Bit j of a mantissa in two's complement of p bits. -/
def mantBit (m : Int) (j : Nat) : Bool := (m / 2 ^ j) % 2 == 1

end Sys2Proof.Machine
end

