-- ==== Sys2Proof/Machine/Cat.lean ====
section
/-! DEFINITION. The physical registers behind v0 to v31 and m0 to m15, their content hashes, and the entries of the Catalogue
that go when a physical register is reclaimed or needed (10 R270, R271, R275). -/

namespace Sys2Proof.Machine

/-! ### Content hashes (10 R271) -/

/-- One step of the reflected CRC-32C (10 R271). -/
def crcBit (c : Nat) : Nat := if c % 2 = 1 then c / 2 ^^^ 0x82F63B78 else c / 2

/-- CRC-32C of some bytes (10 R271, 17 R397). -/
def crc32c (bs : List Nat) : Nat :=
  (bs.foldl (fun c b => crcBit (crcBit (crcBit (crcBit (crcBit (crcBit (crcBit (crcBit (c ^^^ b)))))))) ) 0xFFFFFFFF) ^^^ 0xFFFFFFFF

/-- The bytes of die block d of a register. -/
def blockBytes (vlen : Nat) (r : VReg) (d : Nat) : List Nat :=
  (List.range (vlen / 64)).map (fun k => r.bits.toNat >>> (8 * (d * (vlen / 64) + k)) % 256)

/-- The content hash a physical register carries: the CRC-32C of its eight die blocks in die order (10 R271). -/
def vregHash (vlen : Nat) (r : VReg) : Nat := crc32c ((List.range 8).flatMap (blockBytes vlen r))

/-! ### Names in use (10 R270) -/

/-- The vector names, or the mask names, behind the architectural registers. -/
def Catalogue.mapped (k : Catalogue) (isMask : Bool) : List Nat := if isMask then k.mname.toList else k.vname.toList

/-- The physical registers of a kind that are not free: behind an architectural register or in an entry's value. -/
def namesLive (k : Catalogue) (isMask : Bool) : List Nat :=
  k.mapped isMask ++ (k.entries.filter (·.isMask == isMask)).flatMap (·.names)

/-- How many physical registers of a kind are in use. -/
def namesUsed (k : Catalogue) (isMask : Bool) : Nat := (namesLive k isMask).eraseDups.length

/-- How many physical registers of a kind there are. -/
def namesAll (isMask : Bool) : Nat := if isMask then 24 else 48

/-- Whether every register an entry's key names is still in use. -/
def keyLive (k : Catalogue) (e : CatEntry) : Bool :=
  e.key.srcNames.all ((namesLive k false).contains ·) && e.key.maskNames.all ((namesLive k true).contains ·) &&
    e.key.dstNames.all ((namesLive k e.isMask).contains ·)

/-- The entries whose key names a reclaimed register dropped; each drop may free a register that another key names, hence
the fuel (10 R270, R275). -/
def catReclaim : Nat → Catalogue → Catalogue
  | 0, k => k
  | n + 1, k =>
    if k.entries.all (keyLive k) then k else catReclaim n { k with entries := k.entries.filter (keyLive k) }

/-- Entries evicted, least recently used first, until n physical registers of a kind are free (10 R270). -/
def catRoom (isMask : Bool) (n : Nat) : Nat → Catalogue → Catalogue
  | 0, k => k
  | f + 1, k =>
    if namesAll isMask < namesUsed k isMask + n then catRoom isMask n f { k with entries := k.entries.dropLast } else k

/-- Fresh names behind some registers of a kind. -/
def catFresh (isMask : Bool) (rs : List Nat) (k : Catalogue) : Catalogue :=
  rs.foldl (fun (k : Catalogue) r =>
    { k with
      vname := if isMask then k.vname else k.vname.setIfInBounds r k.fresh
      mname := if isMask then k.mname.setIfInBounds r k.fresh else k.mname
      fresh := k.fresh + 1 }) k

/-- A write of some registers of a kind: entries make room, the registers take fresh names, and what that reclaims ends the
entries whose keys name it (10 R270). -/
def catWrites (isMask : Bool) (rs : List Nat) (k : Catalogue) : Catalogue :=
  if rs.isEmpty then k else catReclaim 64 (catFresh isMask rs (catRoom isMask rs.length 64 k))

/-- New physical names for vector registers that are written (10 R270). -/
def renameV (rs : List Nat) (c : Core) : Core := { c with cat := catWrites false rs c.cat }

/-- New physical names for mask registers that are written (10 R270). -/
def renameM (rs : List Nat) (c : Core) : Core := { c with cat := catWrites true rs c.cat }

end Sys2Proof.Machine
end

