-- ==== Sys2Proof/Machine/Csr.lean ====
section
/-! DEFINITION. Control and status registers: which exist, what they read as, and what a write to each does
(01 R21 to R25, R30, R34 to R39; 16 R373, R374; 17 R383, R386; 19 R420; 20 R433, R438; 21 R452, R453; 22 R466). -/

namespace Sys2Proof.Machine

/-- The level an assigned CSR number needs; none for a number Table 01-6 does not list (01 R34). -/
def csrLevel (n : Nat) : Option Level :=
  if [0x001, 0x002, 0x003, 0x010, 0x011, 0x012, 0x013, 0x014, 0x015, 0x016, 0x017, 0x018, 0x019, 0x01A,
      0x01B, 0x01C, 0x01D, 0x020, 0x030, 0x031, 0x032, 0x033, 0x038, 0x040, 0x041, 0x042, 0x043, 0x050,
      0x060, 0x061, 0x062, 0x063, 0x064, 0x065, 0x066, 0x070, 0x080, 0x081, 0x082, 0x083,
      0xC00, 0xC01].contains n then some .user
  else if [0x100, 0x101, 0x102, 0x103, 0x104, 0x105, 0x106, 0x107, 0x108, 0x109, 0x120, 0x121].contains n
    then some .supervisor
  else if [0x310, 0x311, 0x312, 0x313, 0x314, 0x315].contains n then some .firmware
  else none

/-- The synchronising CSRs (01 R36). -/
def syncCsrs : List Nat :=
  [0x001, 0x012, 0x015, 0x016, 0x017, 0x018, 0x019, 0x01A, 0x01B, 0x01C, 0x01D, 0x032, 0x033, 0xC01]

/-- Whether a CSR is a synchronising one. -/
def csrSync (n : Nat) : Bool := syncCsrs.contains n

/-- Whether entries of the queue are still to run: those a user-level handler holds stopped do not count
(07 R199). -/
def vecBusy (s : State) : Bool := decide (s.core.th.held < s.core.th.viq.length)

/-- VTAGS0 (hi = false) or VTAGS1: nibble n holds the tag of register 16 × hi + n (01 R35). -/
def vtagsRead (t : Thread) (hi : Bool) : Word :=
  BitVec.ofNat 64 (packEls 4 ((List.range 16).map (fun n => (vreg t ((if hi then 16 else 0) + n)).tag.code)))

/-- VCP: the oldest entry not retired, or the next instruction to issue, or 0 (10 R261); after a vector
trap the value it left (21 R451). -/
def vcpRead (s : State) : Word :=
  if s.core.level != .user && s.core.sup.sstatus.getLsbD 9 then s.csr.vcp
  else
    match s.core.th.viq with
    | e :: _ => e.pc
    | [] => if s.core.th.vecSeen then s.core.th.pc + 4 else 0

/-- UTSTAT (01 Table 01-7). -/
def utstat (t : Thread) : Word :=
  let c := match utFirst t with
    | some u => u.cause.code * 256 + 2
    | none => 0
  BitVec.ofNat 64 (c + (if t.csr.utActive then 1 else 0))

/-- PAIRSTAT (01 Table 01-7, 12 R312). -/
def pairstat (c : Core) : Word :=
  if c.th.csr.pairctl.getLsbD 0 then
    match c.lead with
    | some l => BitVec.ofNat 64 (min l.buf.length 256 + (if l.syw then 512 else 0)
        + (if l.fstop then 1024 else 0) + (if l.copyUntil.isNone then 2048 else 0))
    | none => 0
  else 0

/-- The value a CSR reads as (01 Table 01-6). -/
def csrRead (s : State) (n : Nat) : Word :=
  let c := s.csr
  let u := s.core.sup
  match n with
  | 0x001 => c.fflags.setWidth 64
  | 0x002 => c.frm.setWidth 64
  | 0x003 => boolW c.ftz
  | 0x010 => c.vl.setWidth 64
  | 0x011 => c.vtype
  | 0x012 => c.vstart.setWidth 64
  | 0x013 => BitVec.ofNat 64 s.vlmax
  | 0x014 => BitVec.ofNat 64 s.vlen
  | 0x015 => vtagsRead s.core.th false
  | 0x016 => vtagsRead s.core.th true
  | 0x017 => c.vdirty.setWidth 64
  | 0x018 => c.vloaded.setWidth 64
  | 0x019 => c.vfemask.setWidth 64
  | 0x01A => c.vfestate.setWidth 64
  | 0x01B => vcpRead s
  | 0x01C => c.vqpos.setWidth 64
  | 0x01D => c.vfpc
  | 0x020 => (c.leasePref ++ c.leaseMin ++ c.leaseGranted).setWidth 64
  | 0x030 => c.catctl.setWidth 64
  | 0x031 => c.catcls.setWidth 64
  | 0x032 => c.cathit
  | 0x033 => c.catmiss
  | 0x038 => boolW c.schk
  | 0x040 => c.pairctl.setWidth 64
  | 0x041 => c.kslice.setWidth 64
  | 0x042 => pairstat s.core
  | 0x043 => c.reforks
  | 0x050 => s.time
  | 0x060 => c.utvec
  | 0x061 => c.utcause.setWidth 64
  | 0x062 => c.utpc
  | 0x063 => c.utval
  | 0x064 => utstat s.core.th
  | 0x065 => c.emptyspin.setWidth 64
  | 0x066 => c.utmask.setWidth 64
  | 0x070 => c.tbcfg.setWidth 64
  | 0x080 => c.threadid.setWidth 64
  | 0x081 => c.nestid
  | 0x082 => c.gangrank.setWidth 64
  | 0x083 => Config.features
  | 0x100 => u.stvec
  | 0x101 => u.scause.setWidth 64
  | 0x102 => u.sepc
  | 0x103 => u.stval
  | 0x104 => u.sstatus
  | 0x105 => u.sctx
  | 0x106 => u.ptbase
  | 0x107 => u.asid.setWidth 64
  | 0x108 => u.sscratch
  | 0x109 => u.fustat
  | 0x120 => s.dev.cur.cmp
  | 0x121 => s.dev.cur.grace.setWidth 64
  | 0x310 => c.gpass
  | 0x311 => s.dev.dspsup.setWidth 64
  | 0x312 => c.ifmiss
  | 0x313 => c.ipdrop
  | 0x314 => u.timecmp
  | 0x315 => u.tbsbase
  | 0xC00 => c.cycle + BitVec.ofNat 64 (s.dev.clk - s.core.th.cycleFrom)
  | 0xC01 => c.instret
  | _ => 0

/-! ### Scratch ways (17 R385, R386; 22 R466) -/

/-- Whether a location lies in one of a core's ways. -/
def inWays (core : Nat) (m : BitVec 16) (loc : Nat) : Bool :=
  decide (scratchLoc + core * 2 ^ 19 ≤ loc) && decide (loc < scratchLoc + (core + 1) * 2 ^ 19)
    && m.getLsbD (loc / 2 ^ 12 % 16)

/-- A core's ways emptied: they read as zero until written (17 R386). -/
def clearWays (core : Nat) (m : BitVec 16) (d : Dev) : Dev :=
  { d with mem := { d.mem with
      cells := d.mem.cells.filter (fun c => !inWays core m c.1)
      poison := d.mem.poison.filter (fun a => !inWays core m a) } }

/-- The address at which a context's way is saved (22 R466). -/
def waySaveAddr (tbs sctx : Word) (w : Nat) : Nat :=
  tbs.toNat + 0x80000 * ((sctx.toNat - dspBase) / 0x12000) + 0x8000 * w

/-- The poison of n bytes moved with them, that of a die that is down too: what stood at the new place is replaced (17 R402; 20 R440,
R449). -/
def movePoison (src dst n : Nat) (d : Dev) : Dev :=
  let from_ := (List.range (n / 8)).filter (fun k => locPoisoned d (src + 8 * k))
  let kept := d.mem.poison.filter (fun a => decide (a < dst) || decide (dst + n ≤ a))
  { d with mem := { d.mem with poison := from_.foldl (fun l k => setAdd l (unitOf (dst + 8 * k))) kept } }

/-- The location of a die slice of a core's way. -/
def waySlice (core w die : Nat) : Nat := scratchLoc + core * 2 ^ 19 + die * 2 ^ 16 + w * 2 ^ 12

/-- One way moved out to its owner's save address, encrypted under its key, and then empty (22 R466, 20 R446). -/
def saveWay (core : Nat) (tbs : Word) (o : WayOwner) (w : Nat) (d : Dev) : Dev :=
  let a := waySaveAddr tbs o.sctx w
  let d2 := (List.range 8).foldl (fun d die => (List.range 4096).foldl (fun d k =>
    writeByte d o.key (a + die * 4096 + k) (cellGet d.mem.cells (waySlice core w die + k))) d) d
  let d3 := (List.range 8).foldl (fun d die => movePoison (waySlice core w die) (a + die * 4096) 4096 d) d2
  logAbsent none a 0x8000 (clearWays core (1#16 <<< w) d3)

/-- One way read back from the address it was saved to (22 R466). -/
def restoreWay (core : Nat) (p : SavedWay) (d : Dev) : Dev :=
  (List.range 8).foldl (fun d die =>
    let d := (List.range 4096).foldl (fun d k =>
      writeByte d 0 (waySlice core p.way die + k) (readByte d.mem p.owner.key (p.base + die * 4096 + k))) d
    logAbsent none (waySlice core p.way die) 4096 (movePoison (p.base + die * 4096) (waySlice core p.way die) 4096 d)) d

/-- The running thread as the owner of its ways. -/
def wayMe (s : State) : WayOwner :=
  let t := s.core.th
  ⟨s.core.sup.sctx, s.core.sup.asid.toNat % 4096, t.nest * 2 ^ 32 + t.ord, t.tid⟩

/-- Whether two owners are one thread. -/
def WayOwner.is (a b : WayOwner) : Bool := a.age == b.age && a.tid == b.tid

/-- The numbers of the ways of a mask. -/
def waysOf (m : BitVec 16) : List Nat := (List.range 16).filter (m.getLsbD ·)

/-- A way of a core without an owner. -/
def disownWay (w : Nat) (c : Core) : Core := { c with scratchOwner := c.scratchOwner.filter (fun p => p.1 != w) }

/-- The ways of a mask claimed by the thread on the core: another's data there is saved first, its own stays (22 R466). -/
def claimWays (m : BitVec 16) (s : State) : State :=
  (waysOf m).foldl (fun s w =>
    match assocGet s.core.scratchOwner w with
    | some o =>
      if o.is (wayMe s) then s.mapCore (disownWay w)
      else
        let a := waySaveAddr s.core.sup.tbsbase o.sctx w
        ((breakResv a 0x8000 false s).mapDev (fun d =>
          let d := recallLoans a 0x8000 (saveWay s.at_ s.core.sup.tbsbase o w d)
          { d with savedWays := ⟨o, w, a⟩ :: d.savedWays })).mapCore (disownWay w)
    | none => s) s

/-- The ways the outgoing thread leaves behind are marked as its own (22 R466). -/
def leaveWays (s : State) : State :=
  s.mapCore (fun c => { c with
    scratchOwner := (waysOf c.th.csr.tbcfg).foldl
      (fun l w => if (assocGet l w).isSome then l else assocSet l w (wayMe s)) c.scratchOwner })

/-- The ways of a mask that hold data of the running thread, left or saved. -/
def ownWays (s : State) : BitVec 16 :=
  (List.range 16).foldl (fun (m : BitVec 16) w =>
    if ((assocGet s.core.scratchOwner w).map (·.is (wayMe s))).getD false then m ||| (1#16 <<< w) else m) 0

/-- The width of field f of a segment split. -/
def fieldWidth (r : BitVec 512) (f : Nat) : Nat := recN r 0x24 32 / 16 ^ f % 16

/-- The ranges of addresses that a copy command writes (08 R216). -/
def copyDests (r : BitVec 512) : List (Nat × Nat) :=
  let rows := recN r 4 32
  let rb := recN r 0x18 32
  let at_ := fun (o : Nat) => (recW r 0x10 + BitVec.ofNat 64 o).toNat
  let ds := match recN r 0 8 with
    | 0 | 1 => [(at_ 0, rb)]
    | 3 => (List.range (recN r 3 8)).map (fun f => (at_ (f * recN r 0x20 32), rows * fieldWidth r f))
    | _ => (List.range rows).map (fun j => (at_ (j * recN r 0x20 32), rb))
  if rows = 0 ∨ rb = 0 then [] else ds

/-- The range of addresses that an EXPORT task writes (08 R221). -/
def exportDests (r : BitVec 512) : List (Nat × Nat) := [((recW r 0x10).toNat, 4096 * (recN r 4 8 / 8))]

/-- The scratch ways, counted in ascending order, that a range of addresses reaches in the scratch window: each covers 32 KiB of
the window (17 R385). -/
def wayOrders (d : Nat × Nat) : List Nat :=
  let lo := max d.1 scratchBase - scratchBase
  let hi := min (d.1 + d.2) (scratchBase + 2 ^ 40) - scratchBase
  if hi ≤ lo then [] else (List.range ((hi - 1) / 32768 + 1 - lo / 32768)).map (· + lo / 32768)

/-- Whether some ranges of addresses reach into a way of a mask under a TBCFG. -/
def reachesWay (cfg m : BitVec 16) (ds : List (Nat × Nat)) : Bool :=
  (ds.flatMap wayOrders).any (fun k => ((nthWay cfg k).map m.getLsbD).getD false)

/-- Whether some ranges of addresses reach beyond the scratch bound under a TBCFG, in a way no longer scratch (17 R386). -/
def scratchLost (cfg : BitVec 16) (ds : List (Nat × Nat)) : Bool :=
  (ds.flatMap wayOrders).any (fun k => decide (wayCount cfg ≤ k))

/-- Whether a started copy or export of the running thread still writes into the ways of a mask (17 R386). -/
def asyncInto (s : State) (m : BitVec 16) : Bool :=
  let mine := fun (c : Ctx) (tid nest : Nat) =>
    c.core == s.at_ && tid == s.core.th.tid && nest == s.core.th.nest
  s.dev.copies.any (fun c => c.state == .running && mine c.ctx c.tid c.nest
      && reachesWay s.csr.tbcfg m (copyDests c.record)) ||
    s.dev.tasks.any (fun t => t.record.extractLsb' 0 8 == 5 && (t.state == .running || t.state == .finishing)
      && mine t.ctx t.tid t.nest && reachesWay s.csr.tbcfg m (exportDests t.record))

/-- Whether a write of TBCFG must still wait (17 R386 step 1). -/
def tbcfgWaits (v : Word) (s : State) : Bool :=
  let new := v.setWidth 16 &&& ~~~(reservedWays s)
  vecBusy s || asyncInto s (s.csr.tbcfg &&& ~~~new)

/-- The write of TBCFG itself (17 R386 step 2). -/
def writeTbcfg (v : Word) (s : State) : State :=
  let new := v.setWidth 16 &&& ~~~(reservedWays s)
  let s := claimWays (new &&& ~~~s.csr.tbcfg) s
  let s := s.mapDev (clearWays s.at_ (new ^^^ s.csr.tbcfg))
  let s := s.mapDev (fun d => { d with
    savedWays := d.savedWays.filter (fun p => !(p.owner.is (wayMe s) && (new ^^^ s.csr.tbcfg).getLsbD p.way)) })
  (s.mapCsr (fun c => { c with tbcfg := new })).mapCore (fun c => { c with
    tblines := c.tblines.filter (fun x => !new.getLsbD x.way) })

/-! ### Writes with an effect of their own -/

/-- The registers a VTAGS write sets, with their tags (01 R35). -/
def vtagsTargets (hi : Bool) (v : Word) : List (Nat × Tag) :=
  (List.range 16).filterMap (fun n =>
    (Tag.ofCode (v.toNat / 2 ^ (4 * n) % 16)).map (fun t => ((if hi then 16 else 0) + n, t)))

/-- The lowest unloaded register of a VTAGS write, which raises FIRSTUSE at user level (21 R453). -/
def vtagsUnloaded (hi : Bool) (v : Word) (s : State) : Option Nat :=
  ((vtagsTargets hi v).map (·.1)).find? (fun r => !s.csr.vloaded.getLsbD r)

/-- A write of VTAGS0 or VTAGS1 (01 R35, 21 R453, 10 R270). -/
def writeVtags (hi : Bool) (v : Word) (s : State) : State :=
  let ts := vtagsTargets hi v
  let s := s.mapTh (fun t =>
    { t with
      v := ts.foldl (fun vs p => vs.setIfInBounds p.1 { (vs.getD p.1 VReg.zero) with tag := p.2 }) t.v
      csr := { t.csr with vdirty := ts.foldl (fun m p => m ||| BitVec.ofNat 32 (2 ^ p.1)) t.csr.vdirty } })
  s.mapCore (renameV (ts.map (·.1)))

/-- A write of VSTART: above VLMAX it stores VLMAX (01 R25); the whole written value counts (05 R130). -/
def writeVstart (v : Word) (s : State) : State :=
  s.mapCsr (fun c => { c with vstart := BitVec.ofNat 15 (min v.toNat s.vlmax) })

/-- PAIRCTL as written: SLIP at least 64, the reserved bits zero (01 R38). -/
def pairctlValue (v : Word) : BitVec 32 :=
  BitVec.ofNat 32 (max (v.toNat / 2 ^ 16 % 2 ^ 16) 64 * 2 ^ 16 + v.toNat % 2)

/-- A write of PAIRCTL that leaves MODE at SOLO squashes the lead (01 R38). -/
def writePairSolo (v : Word) (s : State) : State :=
  (squashLead (s.mapCsr (fun c => { c with pairctl := pairctlValue v &&& 0xFFFFFFFE }))).mapCore
    (fun c => { c with refork := false })

/-- A write of PAIRCTL that sets MODE to PAIR forks the lead at the next boundary (01 R38). -/
def writePairPair (v : Word) (s : State) : State :=
  let was := s.csr.pairctl.getLsbD 0
  let s := s.mapCsr (fun c => { c with pairctl := pairctlValue v ||| 1 })
  if was then s else wantFork s

/-- A write of PAIRCTL. -/
def writePairctl (v : Word) (s : State) : State :=
  if v.getLsbD 0 then writePairPair v s else writePairSolo v s

/-- A write of KSLICE forks the lead at the next boundary (12 R301, R303). -/
def writeKslice (v : Word) (s : State) : State :=
  wantFork (s.mapCsr (fun c => { c with kslice := v.setWidth 32 }))

/-- A write of CATCTL; clearing EN invalidates every entry (10 R280). -/
def writeCatctl (v : Word) (s : State) : State :=
  let s := s.mapCsr (fun c => { c with catctl := v.setWidth 2 })
  if v.getLsbD 0 then s
  else s.mapCore (fun c => { c with cat := { c.cat with entries := [] } })

/-- A write of the Curator's compatibility matrix (16 R373). -/
def writeCurcmp (v : Word) (s : State) : State :=
  s.mapDev (fun d => { d with cur := { d.cur with cmp := v &&& 0xFFFFFFFFF } })

/-- A write of PTBASE: every TLB of the device drops the writer's ASID (20 R438). -/
def writePtbase (v : Word) (s : State) : State :=
  let s := s.mapSup (fun u => { u with ptbase := v &&& 0x000FFFFFFFFF0000 })
  s.mapDev (tlbInvalidate s.core.sup.asid)

/-- A write of SCTX switches contexts: the Catalogue is cleared, FUSTAT is 0, reservations break
(21 R452, 22 R462). -/
def writeSctx (v : Word) (s : State) : State :=
  let s := leaveWays s
  let s := s.mapSup (fun u => { u with sctx := v &&& 0xFFFFFFFFFFFFF000, fustat := 0 })
  (s.mapCore (fun c => { c with cat := { c.cat with entries := [] } })).mapTh
    (fun t => { t with resv := none, vresv := [] })

/-- A write of DSPSUP: a value above 0x3FF stores 0x3FF (17 R383). -/
def writeDspsup (v : Word) (s : State) : State :=
  s.mapDev (fun d => { d with dspsup := BitVec.ofNat 10 (min v.toNat 0x3FF) })

/-- SSTATUS after a supervisor write: SPIE and SIE, and PPL unless 3 is written (20 Table 20-2). -/
def sstatusValue (old v : Word) : Word :=
  (old &&& 0x300) ||| (v &&& 0xC) ||| (if v.toNat % 4 = 3 then old &&& 3 else v &&& 3)

/-- A write to a CSR without behaviour of its own, field by field under its access codes (05 R130); one of GPASS
stores the value (log 52). -/
def writePlain (n : Nat) (v : Word) (s : State) : State :=
  let user := s.core.level == .user
  match n with
  | 0x001 => s.mapCsr (fun c => { c with fflags := v.setWidth 5 })
  | 0x002 => if v.toNat % 8 ≤ 4 then s.mapCsr (fun c => { c with frm := v.setWidth 3 }) else s
  | 0x003 => s.mapCsr (fun c => { c with ftz := v.getLsbD 0 })
  | 0x017 => if user then s else s.mapCsr (fun c => { c with vdirty := v.setWidth 32 })
  | 0x018 => if user then s else s.mapCsr (fun c => { c with vloaded := v.setWidth 32 })
  | 0x019 => s.mapCsr (fun c => { c with vfemask := v.setWidth 32 })
  | 0x01A => s.mapCsr (fun c => { c with vfestate := v.setWidth 32 })
  | 0x020 => if user then s else setLease ((v.toNat / 2 ^ 8) % 256) ((v.toNat / 2 ^ 16) % 256) s
  | 0x031 => s.mapCsr (fun c => { c with catcls := v.setWidth 16 })
  | 0x032 => s.mapCsr (fun c => { c with cathit := v })
  | 0x033 => s.mapCsr (fun c => { c with catmiss := v })
  | 0x038 => s.mapCsr (fun c => { c with schk := v.getLsbD 0 })
  | 0x043 => s.mapCsr (fun c => { c with reforks := v })
  | 0x060 => s.mapCsr (fun c => { c with utvec := v &&& 0xFFFFFFFFFFFFFFFE })
  | 0x062 => s.mapCsr (fun c => { c with utpc := v })
  | 0x065 => s.mapCsr (fun c => { c with emptyspin := BitVec.ofNat 32 (max (v.toNat % 2 ^ 32) 64) })
  | 0x066 => s.mapCsr (fun c => { c with utmask := v.setWidth 5 &&& 0x18 })
  | 0x100 => s.mapSup (fun u => { u with stvec := v &&& 0xFFFFFFFFFFFFFFFE })
  | 0x101 => s.mapSup (fun u => { u with scause := v.setWidth 8 })
  | 0x102 => s.mapSup (fun u => { u with sepc := v &&& 0xFFFFFFFFFFFFFFFE })
  | 0x103 => s.mapSup (fun u => { u with stval := v })
  | 0x104 => s.mapSup (fun u => { u with sstatus := sstatusValue u.sstatus v })
  | 0x107 => s.mapSup (fun u => { u with asid := v.setWidth 16 })
  | 0x108 => s.mapSup (fun u => { u with sscratch := v })
  | 0x109 => s.mapSup (fun u => { u with fustat := (v &&& 0xFFFFFFFF00000000) ||| (u.fustat &&& 0xFFFFFFFF) })
  | 0x121 => s.mapDev (fun d => { d with cur := { d.cur with
      grace := BitVec.ofNat 32 (max (v.toNat % 2 ^ 32) 256) } })
  | 0x310 => s.mapCsr (fun c => { c with gpass := v })
  | 0x314 => s.mapSup (fun u => { u with timecmp := v })
  | 0x315 => s.mapSup (fun u => { u with tbsbase := v &&& 0x000FFFFFE0000000 })
  | _ => s

/-- What a write to a CSR does (01 R35, R38; 05 R130). -/
def csrWrite (n : Nat) (v : Word) (s : State) : State :=
  match n with
  | 0x010 => writeVl v.toNat s
  | 0x011 => writeVtype v s
  | 0x012 => writeVstart v s
  | 0x015 => writeVtags false v s
  | 0x016 => writeVtags true v s
  | 0x030 => writeCatctl v s
  | 0x040 => writePairctl v s
  | 0x041 => writeKslice v s
  | 0x070 => writeTbcfg v s
  | 0x105 => writeSctx v s
  | 0x106 => writePtbase v s
  | 0x120 => writeCurcmp v s
  | 0x311 => writeDspsup v s
  | _ => writePlain n v s

end Sys2Proof.Machine
end

