-- ==== Sys2Proof/Machine/FpFn.lean ====
section
/-! DEFINITION. Estimates, exponentials and the logarithm (04 R100, R101, Table 04-5). The exponential and the
logarithm are formed with 320 fraction bits, far more than separates any result from a rounding boundary (log 9). -/

namespace Sys2Proof.Machine

/-! ### Estimates (04 R101) -/

/-- A magnitude truncated to n significant bits. -/
def truncSig (n m : Nat) (e : Int) : Nat × Int :=
  if bitLen m ≤ n then (m, e) else (m / 2 ^ (bitLen m - n), e + ((bitLen m - n : Nat) : Int))

/-- A truncated value put in a format without flags but OF; FTZ as R101 lays down. -/
def packEstimate (f : Fmt) (ftz : Bool) (s : Bool) (m : Nat) (e : Int) : Nat × Flags :=
  let top : Int := e + (bitLen m : Int) - 1
  if (f.bias : Int) < top then (f.signed s f.infBits, fOF)
  else if ftz && decide (top < f.emin) then (f.signed s 0, fUF ||| fNX)
  else ((roundTo f .rtz false s m e).1, 0)

/-- An estimate in a format: in BF16 it is formed in F32 and rounded to nearest (04 R101). -/
def estimate (f : Fmt) (ftz : Bool) (s : Bool) (m : Nat) (e : Int) : Nat × Flags :=
  let (m, e) := truncSig 12 m e
  if f = bf16 then
    let (x, fl) := packEstimate f32 false s m e
    if fl != 0 then (bf16.signed s bf16.infBits, fOF)
    else
      match unpack f32 false x with
      | .num s m e =>
        let (r, fl) := roundTo bf16 .rne ftz s m e
        (r, if fl &&& fOF != 0 then fOF else if ftz && fl &&& fUF != 0 then fUF ||| fNX else 0)
      | _ => (bf16.signed s bf16.infBits, fOF)
  else packEstimate f ftz s m e

/-- The estimate of 1/x (04 Table 04-5). -/
def fvRece (f : Fmt) (ftz : Bool) (a : Fv) : Nat × Flags :=
  match a with
  | .nan s q fr => (packNan f s fr, if q then 0 else fNV)
  | .inf s => (f.signed s 0, 0)
  | .num s m e =>
    if m = 0 then (f.signed s f.infBits, fDZ)
    else
      let k := bitLen m + 14
      estimate f ftz s (2 ^ k / m) (-e - (k : Int))

/-- The estimate of 1/sqrt x (04 Table 04-5). -/
def fvRsqe (f : Fmt) (ftz : Bool) (a : Fv) : Nat × Flags :=
  match a with
  | .nan s q fr => (packNan f s fr, if q then 0 else fNV)
  | .inf s => if s then invalid f else (0, 0)
  | .num s m e =>
    if m = 0 then (f.signed s f.infBits, fDZ)
    else if s then invalid f
    else
      let (m, e) := if e % 2 = 0 then (m, e) else (2 * m, e - 1)
      let k := bitLen m + 32 + bitLen m % 2
      estimate f ftz false (isqrt (2 ^ (2 * k) / m)) (-(e / 2) - (k : Int))

/-! ### Fixed point with 320 fraction bits -/

/-- Fraction bits. -/
def fixBits : Nat := 320

/-- The series x + x^3/3 + x^5/5 + …, for x below 1/2; `t` is the present power. -/
def atanhSeries (x2 : Nat) : Nat → Nat → Nat → Nat
  | 0, _, _ => 0
  | n + 1, k, t => t / k + atanhSeries x2 n (k + 2) (t * x2 / 2 ^ fixBits)

/-- The natural logarithm of p/q, for q ≤ p ≤ 2q. -/
def fixLn (p q : Nat) : Nat :=
  let x := (p - q) * 2 ^ fixBits / (p + q)
  2 * atanhSeries (x * x / 2 ^ fixBits) 110 1 x

/-- The natural logarithm of 2. -/
def fixLn2 : Nat := fixLn 2 1

/-- The series 1 + x + x^2/2 + …, for x below 1. -/
def expSeries (x : Nat) : Nat → Nat → Nat → Nat
  | 0, _, _ => 0
  | n + 1, k, t => t + expSeries x n (k + 1) (t * x / 2 ^ fixBits / k)

/-- e^x of a fixed-point x below 1. -/
def fixExp (x : Nat) : Nat := expSeries x 90 1 (2 ^ fixBits)

/-! ### Faithful results (04 R100) -/

/-- An inexact result ±m × 2^e of a special function: BF16 to nearest, the others one of the two
neighbours, `up` choosing the one away from zero; flags as R88 to R91 give for RNE. -/
def faithful (f : Fmt) (ftz : Bool) (up : Bool) (s : Bool) (m : Nat) (e : Int) : Nat × Flags :=
  let (r, fl) := roundTo f .rne ftz s m e
  if f = bf16 || fl &&& fOF != 0 || (ftz && fl &&& fUF != 0) then (r, fl ||| fNX)
  else
    ((roundTo f (if up then (if s then .rdn else .rup) else .rtz) false s m e).1, fl ||| fNX)

/-- The result 2^n × 2^x for a fixed-point x with 0 ≤ x < ln 2 in natural units. -/
def expTo (f : Fmt) (ftz up : Bool) (n : Int) (x : Nat) : Nat × Flags :=
  faithful f ftz up false (fixExp x) (n - (fixBits : Int))

/-- A result just above or just below 1, for an argument too small to show in 320 bits. -/
def nearOne (f : Fmt) (ftz up below : Bool) : Nat × Flags :=
  faithful f ftz up false (if below then 2 ^ 320 - 1 else 2 ^ 320 + 1) (-320)

/-- 2^n: exact where a format has it, else as any other result. -/
def powTwo (f : Fmt) (ftz up : Bool) (n : Int) : Nat × Flags :=
  let r := roundTo f .rne ftz false 1 n
  if r.2 &&& fNX != 0 then faithful f ftz up false 1 n else r

/-- The exponential of m × 2^e to base e, or to base 2 (04 R100). -/
def fvExp (f : Fmt) (base2 ftz up : Bool) (a : Fv) : Nat × Flags :=
  match a with
  | .nan s q fr => (packNan f s fr, if q then 0 else fNV)
  | .inf s => (if s then 0 else f.infBits, 0)
  | .num s m e =>
    let top : Int := e + (bitLen m : Int)
    if m = 0 then ((roundTo f .rne false false 1 0).1, 0)
    else if 14 < top then faithful f ftz up false 1 (if s then -40000 else 40000)
    else if base2 && decide (0 ≤ e) then
      powTwo f ftz up (signedInt s (m * 2 ^ e.toNat))
    else if base2 && m % 2 ^ (-e).toNat == 0 then
      powTwo f ftz up (signedInt s (m / 2 ^ (-e).toNat))
    else if top < -80 then nearOne f ftz up s
    else
      let k : Int := (fixBits : Int) + e
      let v := signedInt s (if 0 ≤ k then m * 2 ^ k.toNat else m / 2 ^ (-k).toNat)
      if base2 then
        let n := v / (2 ^ fixBits : Int)
        expTo f ftz up n ((v - n * 2 ^ fixBits).toNat * fixLn2 / 2 ^ fixBits)
      else
        let n := v / (fixLn2 : Int)
        expTo f ftz up n ((v - n * (fixLn2 : Int)).toNat)

/-- The logarithm to base 2 (04 R100, Table 04-5). -/
def fvLog2 (f : Fmt) (ftz up : Bool) (a : Fv) : Nat × Flags :=
  match a with
  | .nan s q fr => (packNan f s fr, if q then 0 else fNV)
  | .inf s => if s then invalid f else (f.infBits, 0)
  | .num s m e =>
    if m = 0 then (f.signed true f.infBits, fDZ)
    else if s then invalid f
    else
      let n : Int := e + (bitLen m : Int) - 1
      let p := 2 ^ (bitLen m - 1)
      if m = p then roundTo f .rne false (decide (n < 0)) n.natAbs 0
      else
        let v : Int := n * 2 ^ fixBits + ((fixLn m p * 2 ^ fixBits / fixLn2 : Nat) : Int)
        faithful f ftz up (decide (v < 0)) v.natAbs (-(fixBits : Int))

end Sys2Proof.Machine
end

