-- ==== Sys2Proof/Machine/VecCore.lean ====
section
/-! DEFINITION. What every vector instruction shares: the entry being executed, its active elements, the reading
of operands at the operation type, and the writing of destinations (06 R144 to R149; 01 R20, R25 to R32; 04 R96). -/

namespace Sys2Proof.Machine

/-- An entry of the queue in execution, from element `start`; `part` says that only the elements below its vl are performed
now and the rest on replay (06 R149). -/
structure VX where
  s : State
  e : VEntry
  start : Nat
  part : Bool := false

/-- What executing an entry ends in: done with the flags raised and the g results, a trap at an element,
or a wait whose condition does not hold yet. -/
inductive VOut where
  | done (s : State) (fl : Flags) (res : List (Reg × Word))
  | fault (s : State) (fl : Flags) (c : Cause) (val : Word) (at_ : Nat)
  | wait (s : State) (val : Word)

namespace VX

/-- The thread. -/
def t (x : VX) : Thread := x.s.core.th
/-- The operation's fields. -/
def d (x : VX) : VDesc := x.e.desc
/-- The register length. -/
def vlen (x : VX) : Nat := x.s.vlen
/-- The captured vl. -/
def vl (x : VX) : Nat := x.e.vl.toNat
/-- The captured group size. -/
def grp (x : VX) : Nat := vtGrp x.e.vtype
/-- VLMAX of the captured VTYPE. -/
def vlmax (x : VX) : Nat := vlmaxOf x.vlen x.e.vtype
/-- Mask registers per mask group. -/
def ms (x : VX) : Nat := maskGroup x.vlmax
/-- The effective die mask (01 R27). -/
def dm (x : VX) : BitVec 8 := x.e.desc.dm.getD (vtDm x.e.vtype)
/-- The effective die stride (01 R28). -/
def ds (x : VX) : Nat := (x.e.desc.ds.getD (vtDs x.e.vtype)).toNat
/-- The working tag. -/
def wtag (x : VX) : Tag := vtWtag x.e.vtype
/-- The captured rounding mode. -/
def rm (x : VX) : Rm := Rm.of x.e.frm
/-- The captured FTZ. -/
def ftz (x : VX) : Bool := x.e.ftz
/-- The tag of the group based at a register as the instruction reads it: on replay that of its own destination is the one
before it stopped (06 R149). -/
def tag (x : VX) (r : Reg) : Tag :=
  match x.e.otag with
  | some t => if r = x.e.desc.vd then t else (vreg x.t r.toNat).tag
  | none => (vreg x.t r.toNat).tag
/-- The first vector source. -/
def va (x : VX) : Nat := x.e.desc.va.toNat
/-- The destination. -/
def vd (x : VX) : Nat := x.e.desc.vd.toNat
/-- The vs3 operand. -/
def vc (x : VX) : Nat := x.e.desc.vc.toNat
/-- The second vector source, 0 where there is none. -/
def vb (x : VX) : Nat :=
  match x.e.desc.b with
  | .vec r => r.toNat
  | _ => 0
/-- The tag of the second vector source. -/
def tagB (x : VX) : Tag := x.tag (BitVec.ofNat 5 x.vb)

/-- Whether the governing mask enables element i (01 R31, R32). -/
def maskOn (x : VX) (i : Nat) : Bool := !x.e.desc.masked || maskBit x.t x.e.desc.mi.toNat i
/-- Whether the die of element i at width w is enabled (01 R27). -/
def dieOn (x : VX) (w i : Nat) : Bool := x.dm.getLsbD (dieOf x.vlen w i)
/-- Whether element i of width w is active (01 R27). -/
def active (x : VX) (w i : Nat) : Bool :=
  decide (x.start ≤ i) && decide (i < x.vl) && x.dieOn w i && x.maskOn i
/-- The active elements in ascending order. -/
def actives (x : VX) (w : Nat) : List Nat := (List.range x.vl).filter (x.active w)

/-- Element i of width w of the group at a base. -/
def el (x : VX) (base w i : Nat) : Nat := Machine.el x.t x.vlen base w i

/-- Whether element i of width w of the group at a base is poisoned. -/
def bad (x : VX) (base w i : Nat) : Bool := elPoison x.t x.vlen base w i

end VX

/-! ### Reading operands at the operation type -/

/-- An element converted between tags (04 R95, 01 R20): `sg` is the opcode's signedness. -/
def cvtEl (rm : Rm) (ftz sg : Bool) (src dst : Tag) (v : Nat) : Nat × Flags :=
  if src = dst then (v, 0)
  else
    match src.isInt, dst.isInt with
    | false, false => fvTo dst.fmt rm ftz (unpack src.fmt ftz v)
    | true, false => fvTo dst.fmt rm ftz (intToFv sg src.width v)
    | false, true => fvToInt rm sg dst.width (unpack src.fmt false v)
    | true, true =>
      if sg then (((BitVec.ofNat src.width v).signExtend dst.width).toNat, 0) else (v % 2 ^ dst.width, 0)

/-- An F32 pattern as BF16 without flags; any NaN is the default NaN (04 R96, 02 R52), and FTZ flushes nothing
(log 52). -/
def f32ToBf16 (v : Nat) : Nat :=
  match unpack f32 false v with
  | .nan _ _ _ => bf16.qnan
  | u => (fvTo bf16 .rne false u).1

/-- A scalar register read by operation type (04 R96). -/
def scalarAt (t : Tag) (v : Word) : Nat :=
  match t with
  | .bf16 => f32ToBf16 (v.toNat % 2 ^ 32)
  | t => v.toNat % 2 ^ t.width

/-- An XVI immediate read by operation type (02 R52). -/
def imm32At (t : Tag) (v : BitVec 32) : Nat :=
  match t with
  | .bf16 => f32ToBf16 v.toNat
  | .f32 => (match unpack f32 false v.toNat with
    | .nan _ _ _ => f32.qnan
    | _ => v.toNat)
  | .f64 => (match unpack f32 false v.toNat with
    | .nan _ _ _ => f64.qnan
    | u => (fvTo f64 .rne false u).1)
  | t => (v.signExtend 64).toNat % 2 ^ t.width

/-- The second operand of element i at an operation type, with the flags of a conversion (01 R20, 04 R96). -/
def VX.bAt (x : VX) (sg : Bool) (ty : Tag) (i : Nat) : Nat × Flags :=
  match x.e.desc.b with
  | .none => (0, 0)
  | .vec r => cvtEl x.rm x.ftz sg (x.tag r) ty (x.el r.toNat (x.tag r).width i)
  | .gpr => (scalarAt ty x.e.x1, 0)
  | .imm5 k => ((k.signExtend 64).toNat % 2 ^ ty.width, 0)
  | .imm32 k => (imm32At ty k, 0)

/-- The old destination element read at its own tag and converted (06 R146, R161). -/
def VX.cAt (x : VX) (sg : Bool) (ty : Tag) (i : Nat) : Nat × Flags :=
  let tg := x.tag x.e.desc.vd
  cvtEl x.rm x.ftz sg tg ty (x.el x.vd tg.width i)

/-! ### Poison (06 R173) -/

/-- The lowest of some elements whose sources, given as bases and widths, carry poison, and its register. -/
def VX.firstBad (x : VX) (srcs : List (Nat × Nat)) (is : List Nat) : Option (Nat × Nat) :=
  is.findSome? (fun i =>
    (srcs.find? (fun p => x.bad p.1 p.2 i)).map (fun p => (i, elReg x.vlen p.1 p.2 i)))

/-- STVAL of POISON on a register element (20 Table 20-1). -/
def poisonVal (r : Nat) : Word := BitVec.ofNat 64 (2 ^ 63 + r)

/-! ### Writing destinations -/

/-- The thread with elements of a group written: those below `stop` that are active take f; the group takes the tag and is
marked written (06 R145), and full where this ends the instruction (07 R199). Nothing changes where no element from
`start` to `stop` remains. -/
def VX.put (x : VX) (base n w stop : Nat) (tag : Tag) (act : Nat → Bool) (f : Nat → Nat × Bool) : State :=
  if stop ≤ x.start then x.s
  else x.s.mapTh (fun t =>
    (if x.part || decide (stop < x.vl) then markDirty base n else markWritten base n) (setEls t x.vlen base n w stop tag (fun i => if act i then some (f i) else none)))

/-- VSTART after an instruction that completed (01 R25). -/
def doneAt (s : State) : State := s.mapCsr (fun c => { c with vstart := 0 })

/-- An element-wise instruction that writes a vector group: values, flags, and a stop at the first poisoned source
(06 R145, R149, R173). -/
def VX.ewise (x : VX) (w : Nat) (tag : Tag) (srcs : List (Nat × Nat)) (act : Nat → Bool)
    (f : Nat → Nat × Flags) : VOut :=
  let is := (List.range x.vl).filter act
  match x.firstBad srcs is with
  | none =>
    .done (doneAt (x.put x.vd x.grp w x.vl tag act (fun i => ((f i).1, false))))
      (flagsUnion (is.map (fun i => (f i).2))) []
  | some (k, r) =>
    let below := is.filter (fun i => decide (i < k))
    let s := if below.isEmpty then x.s else x.put x.vd x.grp w k tag act (fun i => ((f i).1, false))
    .fault s (flagsUnion (below.map (fun i => (f i).2))) .poison (poisonVal r) k

/-- An element-wise instruction that writes a mask group (06 R156, R171). -/
def VX.ewiseMask (x : VX) (srcs : List (Nat × Nat)) (act : Nat → Bool) (f : Nat → Bool × Flags) : VOut :=
  let is := (List.range x.vl).filter act
  let wr := fun stop => x.s.mapTh (fun t =>
    setMaskBits t x.vd x.ms stop (fun i => if act i then some (f i).1 else none))
  match x.firstBad srcs is with
  | none => .done (doneAt (wr x.vl)) (flagsUnion (is.map (fun i => (f i).2))) []
  | some (k, r) =>
    let below := is.filter (fun i => decide (i < k))
    .fault (wr k) (flagsUnion (below.map (fun i => (f i).2))) .poison (poisonVal r) k

/-- An instruction that is abandoned whole when a source it reads carries poison (06 R149, R173). -/
def VX.whole (x : VX) (srcs : List (Nat × Nat)) (is : List Nat) (k : Unit → VOut) : VOut :=
  match x.firstBad srcs is with
  | some (_, r) => .fault x.s 0 .poison (poisonVal r) 0
  | none => k ()

/-! ### The shape of an instruction: what its decode checks look at (02 R60 to R63, Table 02-10) -/

/-- A vector group read: base, registers, width it is read at, whether vl counts against its capacity, and whether
the destination may equal it. -/
structure VGroup where
  base : Nat
  n : Nat
  w : Nat
  cap : Bool
  eq : Bool
  deriving DecidableEq, Repr

/-- The shape of an instruction. `ill` is the instruction's own part of row 5, `fmt` the tags that must be the
operation type `ty` under FMTX, `rtag` the tag the destination takes, `bitwise` whether a mask destination may overlap masks. -/
structure VShape where
  ill : Bool
  ty : Tag
  rtag : Tag
  srcs : List VGroup
  dst : Option VGroup
  fmt : List Tag
  msrc : List Nat
  mdst : Option Nat
  bitwise : Bool
  vstartOk : Bool
  villOk : Bool
  deriving DecidableEq, Repr

/-- A shape with nothing in it. -/
def VShape.base (ty : Tag) : VShape := ⟨false, ty, ty, [], none, [], [], none, true, true, false⟩

/-- A group of the captured size at a width. -/
def VX.grpAt (x : VX) (base w : Nat) (eq : Bool) : VGroup := ⟨base, x.grp, w, true, eq⟩

/-- The groups of a vector second operand of an element-wise instruction with destination width w. -/
def VX.bGroups (x : VX) (w : Nat) : List VGroup :=
  match x.e.desc.b with
  | .vec r => [x.grpAt r.toNat (x.tag r).width ((x.tag r).width == w)]
  | _ => []

/-- The tags of a vector second operand. -/
def VX.bTags (x : VX) : List Tag :=
  match x.e.desc.b with
  | .vec r => [x.tag r]
  | _ => []

/-- The poison sources of a vector second operand. -/
def VX.bSrcs (x : VX) : List (Nat × Nat) :=
  match x.e.desc.b with
  | .vec r => [(r.toNat, (x.tag r).width)]
  | _ => []

/-- Two register sets meet. -/
def VGroup.meets (a b : VGroup) : Bool := decide (a.base < b.base + b.n) && decide (b.base < a.base + a.n)

/-- Two register sets are the same. -/
def VGroup.same (a b : VGroup) : Bool := a.base == b.base && a.n == b.n

/-- Row 5 for one group: base, end and capacity (02 R60, 01 R20). -/
def VX.groupIll (x : VX) (g : VGroup) : Bool :=
  g.base % x.grp != 0 || decide (32 < g.base + g.n) ||
    (g.cap && decide (capacity x.vlen g.w x.grp < x.vl))

/-- Row 5 for one mask base (01 R31). -/
def VX.maskIll (x : VX) (k : Nat) : Bool := k % x.ms != 0 || decide (16 ≤ k)

/-- The lowest unloaded register of some groups (02 R61). -/
def VX.unloaded (x : VX) (gs : List VGroup) : Option Nat :=
  ((List.range 32).filter (fun r => gs.any (fun g => decide (g.base ≤ r) && decide (r < g.base + g.n)))).find?
    (fun r => !x.t.csr.vloaded.getLsbD r)

/-- Rows 5 to 8 of Table 02-10 for a shape: the cause and its value. `extra` is what row 5 adds for
bound registers (08 R237 to R239). -/
def VX.checks (x : VX) (h : VShape) (extra : Bool) : Option (Cause × Word) :=
  let gs := h.srcs ++ h.dst.toList
  let masks := h.msrc ++ h.mdst.toList ++ (if x.e.desc.masked then [x.e.desc.mi.toNat] else [])
  let ended := match h.dst with
    | none => false
    | some g => h.srcs.any (fun a => g.meets a && !(a.eq && g.same a))
  let mover := match h.mdst with
    | none => false
    | some k => !h.bitwise && (h.msrc.contains k || (x.e.desc.masked && x.e.desc.mi.toNat == k))
  if (vtIll x.e.vtype && !h.villOk) || h.ill || gs.any x.groupIll || masks.any x.maskIll
      || (x.start != 0 && !h.vstartOk) || extra then some (.illegal, 0)
  else if ended || mover then some (.overlap, 0)
  else if vtFmtx x.e.vtype && h.fmt.any (· != h.ty) then some (.fmt, 0)
  else (x.unloaded gs).map (fun r => (.firstuse, BitVec.ofNat 64 r))

end Sys2Proof.Machine
end

