-- ==== Sys2Proof/Machine/VecArith.lean ====
section
/-! DEFINITION. Element-wise vector arithmetic: integers, floating point, fused forms, compares, merges, moves and
conversions (06 R156 to R161, Tables 06-3 to 06-6; 04 R97). -/

namespace Sys2Proof.Machine

/-- The shape of a member that reads a and b and writes vd at width w with operation type ty (02 Table 02-11). -/
def VX.shapeAB (x : VX) (ty : Tag) (hasA : Bool) (ill : Bool) : VShape :=
  { VShape.base ty with
    ill := ill
    srcs := (if hasA then [x.grpAt x.va ty.width true] else []) ++ x.bGroups ty.width
    dst := some (x.grpAt x.vd ty.width true)
    fmt := x.bTags }

/-- The shape of a compare into a mask group. -/
def VX.shapeCmp (x : VX) (ty : Tag) (ill : Bool) : VShape :=
  { VShape.base ty with
    ill := ill
    srcs := x.grpAt x.va ty.width true :: x.bGroups ty.width
    mdst := some x.vd
    fmt := x.bTags }

/-- The old destination as a source of an accumulating member. -/
def VX.cGroup (x : VX) (w : Nat) : VGroup :=
  let tw := (x.tag x.e.desc.vd).width
  x.grpAt x.vd tw (tw == w)

/-- The first operand of element i. -/
def VX.aAt (x : VX) (i : Nat) : Nat := x.el x.va (x.tag x.e.desc.va).width i

/-- The operation type of a member with a vector source (06 R144). -/
def VX.ta (x : VX) : Tag := x.tag x.e.desc.va

/-! ### Integers (06 Table 06-3) -/

/-- Whether a member reads its operands unsigned. -/
def IntOp.signed : IntOp → Bool
  | .mulhn | .minn | .maxn | .divn | .remn => false
  | _ => true

/-- The shape of a VINT member. -/
def shapeInt (x : VX) (o : IntOp) : VShape :=
  let h := x.shapeAB x.ta true (!x.ta.isInt)
  if o = .mac then
    { h with srcs := h.srcs ++ [x.cGroup x.ta.width], fmt := h.fmt ++ [x.tag x.e.desc.vd] }
  else h

/-- A VINT member. -/
def runInt (x : VX) (o : IntOp) : VOut :=
  let ty := x.ta
  let w := ty.width
  let acc := if o = .mac then [(x.vd, (x.tag x.e.desc.vd).width)] else []
  x.ewise w ty ((x.va, w) :: x.bSrcs ++ acc) (x.active w) (fun i =>
    let (b, fb) := x.bAt o.signed ty i
    let (c, fc) := if o = .mac then x.cAt true ty i else (0, 0)
    ((intOp o (BitVec.ofNat w (x.aAt i)) (BitVec.ofNat w b) (BitVec.ofNat w c)).toNat, fb ||| fc))

/-- Whether a compare reads its operands signed. -/
def ICmp.signed : ICmp → Bool
  | .ltn | .len => false
  | _ => true

/-- The shape of an integer compare. -/
def shapeIcmp (x : VX) : VShape := x.shapeCmp x.ta (!x.ta.isInt)

/-- An integer compare. -/
def runIcmp (x : VX) (o : ICmp) : VOut :=
  let ty := x.ta
  let w := ty.width
  x.ewiseMask ((x.va, w) :: x.bSrcs) (x.active w) (fun i =>
    let (b, fb) := x.bAt o.signed ty i
    (icmpOp o (BitVec.ofNat w (x.aAt i)) (BitVec.ofNat w b), fb))

/-! ### Merges and moves (06 R157) -/

/-- The shape of `vmerge` or `vfmerge`: the enable must be set. -/
def shapeMerge (x : VX) (fp : Bool) : VShape := x.shapeAB x.ta true (!x.e.desc.masked || (fp && x.ta.isInt))

/-- `vmerge` or `vfmerge`: the mask selects, every element on an enabled die is written. Each element reads both its
sources (06 R145), so poison in either traps and a converted b counts whatever the mask picks (log 52). -/
def runMerge (x : VX) : VOut :=
  let ty := x.ta
  let w := ty.width
  let act := fun i => decide (x.start ≤ i) && decide (i < x.vl) && x.dieOn w i
  x.ewise w ty ((x.va, w) :: x.bSrcs) act (fun i =>
    let (b, fb) := x.bAt true ty i
    (if maskBit x.t x.e.desc.mi.toNat i then b else x.aAt i, fb))

/-- Whether a `vmv` reads a vector. -/
def VX.mvVec (x : VX) : Bool := x.e.desc.b == .none

/-- The shape of `vmv`. -/
def shapeMv (x : VX) : VShape :=
  if x.mvVec then x.shapeAB x.ta true false else x.shapeAB x.wtag false false

/-- `vmv` (06 R157). -/
def runMv (x : VX) : VOut :=
  if x.mvVec then x.ewise x.ta.width x.ta [(x.va, x.ta.width)] (x.active x.ta.width) (fun i => (x.aAt i, 0))
  else x.ewise x.wtag.width x.wtag [] (x.active x.wtag.width) (fun i => x.bAt true x.wtag i)

/-! ### Floating point (06 Table 06-5) -/

/-- Significand bits 52:17 of an F64 pattern kept (04 R97). -/
def sliceF64 (v : Fv) : Fv :=
  match v with
  | .num s m e => .num s (m / 2 ^ 17 * 2 ^ 17) e
  | u => u

/-- a × b in a type, under SLICES for F64 (04 R97). -/
def mulSlices (ty : Tag) (two : Bool) (rm : Rm) (ftz : Bool) (a b : Fv) : Nat × Flags :=
  if ty = .f64 && two then fvMul f64 .rne ftz (sliceF64 a) (sliceF64 b) else fvMul ty.fmt rm ftz a b

/-- a × b + c in a type, under SLICES for F64 (04 R97). -/
def fmaSlices (ty : Tag) (two : Bool) (rm : Rm) (ftz : Bool) (a b c : Fv) : Nat × Flags :=
  if ty = .f64 && two then fvFma f64 .rne ftz (sliceF64 a) (sliceF64 b) c else fvFma ty.fmt rm ftz a b c

/-- The result tag of a member. -/
def FpOp.tag (o : FpOp) (ty : Tag) : Tag :=
  match o with
  | .cls => Tag.intOf (ty.width / 8)
  | _ => ty

/-- A floating-point member on one element: `n` and `i` name the free choice of a faithful result. -/
def fpOne (o : FpOp) (ty : Tag) (two : Bool) (rm : Rm) (ftz : Bool) (n i a b : Nat) : Nat × Flags :=
  let f := ty.fmt
  let u := unpack f ftz a
  let v := unpack f ftz b
  match o with
  | .add => fvAdd f rm ftz u v
  | .sub => fvAdd f rm ftz u v.neg
  | .mul => mulSlices ty two rm ftz u v
  | .div => fvDiv f rm ftz u v
  | .sqrt => fvSqrt f rm ftz u
  | .rsqe => fvRsqe f ftz u
  | .rece => fvRece f ftz u
  | .exp => fvExp f false ftz (Config.faithfulUp n i) u
  | .exp2 => fvExp f true ftz (Config.faithfulUp n i) u
  | .log2 => fvLog2 f ftz (Config.faithfulUp n i) u
  | .min => fvMinMax f false u v
  | .max => fvMinMax f true u v
  | .sgnj => (withSign f (signBit f b) a, 0)
  | .sgnjn => (withSign f (!signBit f b) a, 0)
  | .sgnjx => (withSign f (signBit f a != signBit f b) a, 0)
  | .cls => (fclassOf f a, 0)
  | .round => fvRound f rm u

/-- The unary members: their .VS form raises ILLEGAL (06 R158). -/
def FpOp.unary : FpOp → Bool
  | .sqrt | .rsqe | .rece | .exp | .exp2 | .log2 | .cls | .round => true
  | _ => false

/-- The shape of a VFP member. -/
def shapeFp (x : VX) (o : FpOp) : VShape :=
  { x.shapeAB x.ta true (x.ta.isInt || (o.unary && x.e.desc.b != .none)) with rtag := o.tag x.ta }

/-- A VFP member; the conversion of a mismatched second source raises its flags in every one (log 52). -/
def runFp (x : VX) (o : FpOp) : VOut :=
  let ty := x.ta
  let w := ty.width
  x.ewise w (o.tag ty) ((x.va, w) :: x.bSrcs) (x.active w) (fun i =>
    let (b, fb) := x.bAt true ty i
    let (r, fl) := fpOne o ty (vtSlices x.e.vtype == 2) x.rm x.ftz x.s.free i (x.aAt i) b
    (r, fb ||| fl))

/-- The shape of a floating-point compare. -/
def shapeFcmp (x : VX) : VShape := x.shapeCmp x.ta x.ta.isInt

/-- A floating-point compare (04 R94). -/
def runFcmp (x : VX) (o : FCmp) : VOut :=
  let ty := x.ta
  let w := ty.width
  x.ewiseMask ((x.va, w) :: x.bSrcs) (x.active w) (fun i =>
    let (b, fb) := x.bAt true ty i
    let u := unpack ty.fmt x.ftz (x.aAt i)
    let v := unpack ty.fmt x.ftz b
    let (r, fl) := match o with
      | .eq => fvEq u v
      | .ne => (!(fvEq u v).1, (fvEq u v).2)
      | .lt => fvLt u v
      | .le => fvLe u v
    (r, fb ||| fl))

/-- The shape of `vfcvt` (06 R159). -/
def shapeFcvt (x : VX) : VShape :=
  { VShape.base x.ta with
    ill := x.e.desc.b != .none
    rtag := x.wtag
    srcs := [x.grpAt x.va x.ta.width (x.ta.width == x.wtag.width)]
    dst := some (x.grpAt x.vd x.wtag.width true) }

/-- `vfcvt` (06 R159). -/
def runFcvt (x : VX) : VOut :=
  let w := x.wtag.width
  x.ewise w x.wtag [(x.va, x.ta.width)] (x.active w) (fun i => cvtEl x.rm x.ftz true x.ta x.wtag (x.aAt i))

/-- The shape of a VFMA member (06 R161). -/
def shapeFma (x : VX) : VShape :=
  let h := x.shapeAB x.ta true x.ta.isInt
  { h with srcs := h.srcs ++ [x.cGroup x.ta.width], fmt := h.fmt ++ [x.tag x.e.desc.vd] }

/-- A fused form on values (06 Table 06-6). -/
def fmaOne (o : FmaOp) (ty : Tag) (two : Bool) (rm : Rm) (ftz : Bool) (a b c : Fv) : Nat × Flags :=
  match o with
  | .macc => fmaSlices ty two rm ftz a b c
  | .nmacc => fmaSlices ty two rm ftz a.neg b c.neg
  | .msac => fmaSlices ty two rm ftz a b c.neg
  | .nmsac => fmaSlices ty two rm ftz a.neg b c

/-- A VFMA member (06 R161). -/
def runFma (x : VX) (o : FmaOp) : VOut :=
  let ty := x.ta
  let w := ty.width
  x.ewise w ty ((x.va, w) :: x.bSrcs ++ [(x.vd, (x.tag x.e.desc.vd).width)]) (x.active w) (fun i =>
    let (b, fb) := x.bAt true ty i
    let (c, fc) := x.cAt true ty i
    let u := fun v => unpack ty.fmt x.ftz v
    let (r, fl) := fmaOne o ty (vtSlices x.e.vtype == 2) x.rm x.ftz (u (x.aAt i)) (u b) (u c)
    (r, fb ||| fc ||| fl))

end Sys2Proof.Machine
end

