-- ==== Sys2Proof/Machine/VecRed.lean ====
section
/-! DEFINITION. Reductions, scans and the softmax step (06 R162 to R167; 04 R98, R99). -/

namespace Sys2Proof.Machine

/-! ### Sums (04 R98, R99) -/

/-- A sum of two patterns of a format. -/
def addPat (f : Fmt) (rm : Rm) (ftz : Bool) (a b : Nat) : Nat × Flags :=
  fvAdd f rm ftz (unpack f ftz a) (unpack f ftz b)

/-- Neighbouring pairs of a list added once. -/
def addPairs (f : Fmt) (ftz : Bool) : List Nat → List Nat × Flags
  | a :: b :: r =>
    let (c, fl) := addPat f .rne ftz a b
    let (cs, fls) := addPairs f ftz r
    (c :: cs, fl ||| fls)
  | l => (l, 0)

/-- Levels of pairwise addition. -/
def addTree (f : Fmt) (ftz : Bool) : Nat → List Nat → List Nat × Flags
  | 0, l => (l, 0)
  | n + 1, l =>
    let (l, a) := addPairs f ftz l
    let (l, b) := addTree f ftz n l
    (l, a ||| b)

/-- The canonical sum of terms in blocks of 32, from an initial value (04 R98). -/
def canonSum (f : Fmt) (ftz : Bool) (init : Nat) (terms : Nat → Nat) (n : Nat) : Nat × Flags :=
  (List.range ((n + 31) / 32)).foldl (fun acc b =>
    let ts := (List.range 32).map (fun k => if 32 * b + k < n then terms (32 * b + k) else f.signed true 0)
    let (l, f1) := addTree f ftz 5 ts
    let (r, f2) := addPat f .rne ftz acc.1 (l.headD 0)
    (r, acc.2 ||| f1 ||| f2)) (init, 0)

/-- A sum in an order and tree shape of the device's choice: two waiting terms are added until one is left
(04 R99). -/
def freeSum (f : Fmt) (rm : Rm) (ftz : Bool) (n : Nat) : Nat → Nat → List Nat → Nat × Flags
  | _, _, [] => (0, 0)
  | _, _, [a] => (a, 0)
  | 0, _, a :: _ => (a, 0)
  | fuel + 1, k, l =>
    let i := Config.sumPick n k % l.length
    let a := l.getD i 0
    let l := l.eraseIdx i
    let j := Config.sumPick n (k + 1) % l.length
    let b := l.getD j 0
    let (c, fl) := addPat f rm ftz a b
    let (r, fls) := freeSum f rm ftz n fuel (k + 2) (c :: l.eraseIdx j)
    (r, fl ||| fls)

/-- An ordered sum associated as the device chooses: two neighbours are added until one term is left (04 R99). -/
def freeAssoc (f : Fmt) (rm : Rm) (ftz : Bool) (n : Nat) : Nat → Nat → List Nat → Nat × Flags
  | _, _, [] => (0, 0)
  | _, _, [a] => (a, 0)
  | 0, _, a :: _ => (a, 0)
  | fuel + 1, k, l =>
    let i := Config.sumPick n k % (l.length - 1)
    let (c, fl) := addPat f rm ftz (l.getD i 0) (l.getD (i + 1) 0)
    let (r, fls) := freeAssoc f rm ftz n fuel (k + 1) (l.take i ++ c :: l.drop (i + 2))
    (r, fl ||| fls)

/-- The one die a mask enables, if it enables exactly one (06 R167). -/
def VX.oneDie (x : VX) : Option Nat :=
  match (List.range 8).filter (x.dm.getLsbD ·) with
  | [d] => some d
  | _ => none

/-- The indices below vl a canonical sum runs over: all of them, or those of the one die in die-local order
(06 R167). -/
def VX.sumIndices (x : VX) (w : Nat) : List Nat :=
  match x.oneDie with
  | some d => (List.range x.vl).filter (fun i => dieOf x.vlen w i == d)
  | none => List.range x.vl

/-- The format a floating-point reduction keeps its result in (06 R164). -/
def redFmt (ty : Tag) : Fmt := if ty = .f64 then f64 else f32

/-- An element at the result format of a reduction, with the flag of widening a NaN. -/
def widen (ty : Tag) (ftz : Bool) (v : Nat) : Nat × Flags :=
  if ty = .bf16 then fvTo f32 .rne ftz (unpack bf16 ftz v) else (v, 0)

/-- The sum of the terms of some active elements under REP (04 R98, R99). `ew` is the width that places elements
on dies. -/
def VX.fsum (x : VX) (f : Fmt) (ew : Nat) (init : Nat) (act : Nat → Bool) (term : Nat → Nat) : Nat × Flags :=
  if vtRep x.e.vtype then
    let ix := x.sumIndices ew
    canonSum f x.ftz init (fun k =>
      let i := ix.getD k 0
      if act i then term i else f.signed true 0) ix.length
  else
    let ts := init :: ((List.range x.vl).filter act).map term
    freeSum f x.rm x.ftz x.s.free ts.length 0 ts

/-! ### Reductions to a g register -/

/-- The shape of a reduction. -/
def shapeRed (x : VX) (o : RedOp) : VShape :=
  let fp := match o with
    | .fsum | .fmin | .fmax => true
    | _ => false
  { VShape.base x.ta with
    ill := fp == x.ta.isInt
    srcs := [x.grpAt x.va x.ta.width true]
    vstartOk := false }

/-- An integer reduction folded over the active elements (06 R163). -/
def redInt (w : Nat) (o : RedOp) (init : BitVec w) (l : List (BitVec w)) : BitVec w :=
  l.foldl (fun a b =>
    match o with
    | .sum => a + b
    | .and => a &&& b
    | .or => a ||| b
    | .xor => a ^^^ b
    | .min => imin a b
    | .max => imax a b
    | .minn => iminn a b
    | _ => imaxn a b) init

/-- A minimum or maximum over a sequence from init on: the first NaN wins, made quiet (04 R99). -/
def redMinMax (f : Fmt) (ftz isMax : Bool) (l : List Nat) : Nat × Flags :=
  match l with
  | [] => (0, 0)
  | a :: r =>
    let us := (a :: r).map (unpack f ftz)
    match nanResult f us with
    | some z => z
    | none =>
      (repack f (r.foldl (fun acc b =>
        let v := unpack f ftz b
        if isMax then (if fvBelow acc v then v else acc) else (if fvBelow v acc then v else acc)) (unpack f ftz a)), 0)

/-- A reduction to a g register (06 R162 to R164). -/
def runRed (x : VX) (o : RedOp) : VOut :=
  let ty := x.ta
  let w := ty.width
  let is := x.actives w
  x.whole [(x.va, w)] is (fun _ =>
    let gd := x.e.desc.gd
    match o with
    | .fsum | .fmin | .fmax =>
      let f := redFmt ty
      let init := x.e.x2.toNat % 2 ^ f.width
      let wide := fun i => widen ty x.ftz (x.aAt i)
      let fl0 := flagsUnion (is.map (fun i => (wide i).2))
      let (r, fl) :=
        if is.isEmpty then (init, 0)
        else if o = .fsum then x.fsum f w init (x.active w) (fun i => (wide i).1)
        else redMinMax f x.ftz (o == .fmax) (init :: is.map (fun i => (wide i).1))
      .done (doneAt x.s) (fl0 ||| fl) [(gd, BitVec.ofNat 64 r)]
    | _ =>
      let r := redInt w o (BitVec.ofNat w x.e.x2.toNat) (is.map (fun i => BitVec.ofNat w (x.aAt i)))
      let v : Word := if o = .minn || o = .maxn then r.setWidth 64 else r.signExtend 64
      .done (doneAt x.s) 0 [(gd, v)])

/-! ### Scans (06 R165) -/

/-- The shape of a scan. -/
def shapeScan (x : VX) (fp : Bool) : VShape :=
  { VShape.base x.ta with
    ill := fp == x.ta.isInt
    srcs := [x.grpAt x.va x.ta.width false]
    dst := some (x.grpAt x.vd x.ta.width false)
    vstartOk := false }

/-- `vscan`: wrapping prefix sums of the active elements. -/
def runScan (x : VX) : VOut :=
  let w := x.ta.width
  x.whole [(x.va, w)] (x.actives w) (fun _ =>
    x.ewise w x.ta [] (x.active w) (fun i =>
      (((x.actives w).filter (fun j => decide (j ≤ i))).foldl (fun a j => (a + x.aAt j) % 2 ^ w) 0, 0)))

/-- One element of `vfscan`: the sum of the active terms up to it and its rounding to T. -/
def VX.fscanAt (x : VX) (i : Nat) : Nat × Flags :=
  let ty := x.ta
  let f := redFmt ty
  let rep := vtRep x.e.vtype
  let ts := ((x.actives ty.width).filter (fun j => decide (j ≤ i))).map (fun j => widen ty x.ftz (x.aAt j))
  let fl0 := flagsUnion (ts.map (·.2))
  let vals := ts.map (·.1)
  let (r, fl) :=
    if rep then
      match vals with
      | [] => (0, 0)
      | a :: l => l.foldl (fun acc b =>
          let (c, g) := addPat f .rne x.ftz acc.1 b
          (c, acc.2 ||| g)) (a, 0)
    else freeAssoc f x.rm x.ftz x.s.free vals.length (32768 * i) vals
  let (q, g) := fvTo ty.fmt (if rep then .rne else x.rm) x.ftz (unpack f x.ftz r)
  (q, fl0 ||| fl ||| g)

/-- `vfscan`. -/
def runFscan (x : VX) : VOut :=
  let w := x.ta.width
  x.whole [(x.va, w)] (x.actives w) (fun _ => x.ewise w x.ta [] (x.active w) x.fscanAt)

/-! ### The softmax step (06 R166) -/

/-- The shape of `vsmx`. -/
def shapeSmx (x : VX) : VShape :=
  { VShape.base x.ta with
    rtag := .f32
    ill := (x.ta != .bf16 && x.ta != .f32) || decide (29 < x.e.desc.gd.toNat)
    srcs := [x.grpAt x.va x.ta.width false]
    dst := some (x.grpAt x.vd 32 false)
    vstartOk := false }

/-- exp of a difference of two F32 patterns, the difference taken exactly (06 R166). -/
def expDiff (ftz up : Bool) (a b : Nat) : Nat × Flags :=
  match unpack f32 ftz a, unpack f32 ftz b with
  | .num s1 m1 e1, .num s2 m2 e2 =>
    let (s, m, e) := exactSum .rne s1 m1 e1 (!s2) m2 e2
    fvExp f32 false ftz up (.num s m e)
  | u, v =>
    let (r, fl) := fvAdd f32 .rne ftz u v.neg
    let (q, g) := fvExp f32 false ftz up (unpack f32 ftz r)
    (q, fl ||| g)

/-- `vsmx`. -/
def runSmx (x : VX) : VOut :=
  let ty := x.ta
  let ga := x.e.desc.gd
  let is := x.actives 32
  let m := x.e.x2.toNat % 2 ^ 32
  let s0 := x.e.x3.toNat % 2 ^ 32
  let one := 0x3F800000
  let w32 := fun (v : Nat) => BitVec.ofNat 64 v
  x.whole [(x.va, ty.width)] is (fun _ =>
    if is.isEmpty then .done (doneAt x.s) 0 [(ga + 2, w32 one)]
    else
      let wide := fun i => widen ty x.ftz (x.aAt i)
      let fl0 := flagsUnion (is.map (fun i => (wide i).2))
      let (m1, fl1) := redMinMax f32 x.ftz true (m :: is.map (fun i => (wide i).1))
      let act := x.active 32
      let wr := fun (f : Nat → Nat × Bool) => doneAt (x.put x.vd x.grp 32 x.vl .f32 act f)
      match unpack f32 x.ftz m1 with
      | .nan _ _ _ =>
        .done (wr (fun _ => (m1, false))) (fl0 ||| fl1) [(ga, w32 m1), (ga + 1, w32 m1), (ga + 2, w32 m1)]
      | .inf true =>
        .done (wr (fun _ => (0, false))) (fl0 ||| fl1) [(ga, w32 m1), (ga + 2, w32 one)]
      | _ =>
        let up := fun k => Config.faithfulUp x.s.free k
        let (cf, fl2) := expDiff x.ftz (up 16384) m m1
        let ev := fun i => expDiff x.ftz (up i) (wide i).1 m1
        let fl3 := flagsUnion (is.map (fun i => (ev i).2))
        let sum := x.fsum f32 32 0 act (fun i => (ev i).1)
        let (p, fl4) := fvMul f32 .rne x.ftz (unpack f32 x.ftz s0) (unpack f32 x.ftz cf)
        let (s1, fl5) := addPat f32 .rne x.ftz p sum.1
        .done (wr (fun i => ((ev i).1, false))) (fl0 ||| fl1 ||| fl2 ||| fl3 ||| fl4 ||| fl5 ||| sum.2)
          [(ga, w32 m1), (ga + 1, w32 s1), (ga + 2, w32 cf)])

end Sys2Proof.Machine
end

