-- ==== Sys2Proof/Machine/VecPerm.lean ====
section
/-! DEFINITION. Permutes and mask operations (06 R168 to R171, Tables 06-8 and 06-9; 01 R28), and `vsetty`
(06 R154). -/

namespace Sys2Proof.Machine

/-! ### Permutes -/

/-- The capacity C of a source group at a width (06 R168). -/
def VX.capOf (x : VX) (w : Nat) : Nat := capacity x.vlen w x.grp

/-- A source element placed at width w; at or beyond the capacity it reads as 0 (06 R146, R168). -/
def VX.srcAt (x : VX) (base sw w i : Nat) : Nat :=
  if i < x.capOf sw then x.el base sw i % 2 ^ w else 0

/-- Whether a source element carries poison. -/
def VX.srcBad (x : VX) (base sw i : Nat) : Bool := decide (i < x.capOf sw) && x.bad base sw i

/-- The element of `vdrot`: the same register and slot in die block (d + DS) mod 8 (01 R28). -/
def VX.rotIndex (x : VX) (w i : Nat) : Nat :=
  let e := perReg x.vlen w
  let p := e / 8
  i / e * e + ((i % e / p + x.ds) % 8) * p + i % p

/-- The operation type of a permute (06 Table 06-8). -/
def permTy (x : VX) (o : PermOp) : Tag :=
  match o with
  | .splat | .vid => x.wtag
  | .ins => x.tag x.e.desc.vd
  | _ => x.ta

/-- The shape of a permute into a vector. -/
def shapePerm (x : VX) (o : PermOp) : VShape :=
  let ty := permTy x o
  let h := { VShape.base ty with dst := some (x.grpAt x.vd ty.width true) }
  let a := x.grpAt x.va x.ta.width false
  match o with
  | .splat => h
  | .vid => { h with ill := !ty.isInt }
  | .ins => { h with srcs := [x.grpAt x.vd ty.width true] }
  | .rgath => { h with ill := !x.tagB.isInt, srcs := [a, x.grpAt x.vb x.tagB.width false] }
  | .zip => { h with srcs := [a, x.grpAt x.vb x.tagB.width false] }
  | .compress | .expand => { h with srcs := [a], vstartOk := false }
  | _ => { h with srcs := [a] }

/-- The selected source elements of `vcompress` and the destinations of `vexpand` (06 R169). -/
def VX.selected (x : VX) (w : Nat) : List Nat :=
  (List.range x.vl).filter (fun i => x.dieOn w i && x.maskOn i)

/-- The enabled positions (06 R169). -/
def VX.positions (x : VX) (w : Nat) : List Nat := (List.range x.vl).filter (x.dieOn w)

/-- Where a destination element of a permute comes from. -/
inductive PFrom where
  | keep
  | val (v : Nat)
  | src (base sw i : Nat)
  deriving DecidableEq, Repr

/-- The source of destination element i (06 Table 06-8). -/
def permFrom (x : VX) (o : PermOp) (i : Nat) : PFrom :=
  let ty := permTy x o
  let w := ty.width
  let a := fun k => PFrom.src x.va x.ta.width k
  let n := x.e.x2.toNat
  match o with
  | .slideup => if i < n then .keep else a (i - n)
  | .slidedn => if i + n < x.vl then a (i + n) else .val 0
  | .slide1up => if i = 0 then .val (scalarAt ty x.e.x2) else a (i - 1)
  | .slide1dn => if i + 1 = x.vl then .val (scalarAt ty x.e.x2) else a (i + 1)
  | .rgath => a (x.el x.vb x.tagB.width i)
  | .compress =>
    match (x.positions w).findIdx? (· == i) with
    | some k =>
      match (x.selected w)[k]? with
      | some j => a j
      | none => .keep
    | none => .keep
  | .expand =>
    match (x.selected w).findIdx? (· == i) with
    | some k => a k
    | none => .keep
  | .zip => if i % 2 = 0 then a (i / 2) else .src x.vb x.tagB.width ((i - 1) / 2)
  | .unzipe => a (2 * i)
  | .unzipo => a (2 * i + 1)
  | .drot => a (x.rotIndex w i)
  | .splat => .val (scalarAt ty x.e.x1)
  | .vid => .val (i % 2 ^ w)
  | .ins => if i = n then .val (scalarAt ty x.e.x1) else .keep

/-- The elements a permute may write: `vcompress` ignores the mask, its positions do (06 R169). -/
def permActive (x : VX) (o : PermOp) (w i : Nat) : Bool :=
  (match o with
   | .compress => decide (i < x.vl) && x.dieOn w i
   | _ => x.active w i) && permFrom x o i != .keep

/-- The register of a poisoned source of element i, if it has one; the index of `vrgath` counts. -/
def permBad (x : VX) (o : PermOp) (i : Nat) : Option Nat :=
  if o = .rgath && x.bad x.vb x.tagB.width i then some (elReg x.vlen x.vb x.tagB.width i)
  else
    match permFrom x o i with
    | .src b sw k => if x.srcBad b sw k then some (elReg x.vlen b sw k) else none
    | _ => none

/-- A permute into a vector (06 R168, R169). -/
def runPerm (x : VX) (o : PermOp) : VOut :=
  let ty := permTy x o
  let w := ty.width
  let act := permActive x o w
  let is := (List.range x.vl).filter act
  let f := fun i => match permFrom x o i with
    | .val v => (v, false)
    | .src b sw k => (x.srcAt b sw w k, false)
    | .keep => (0, false)
  match is.findSome? (fun i => (permBad x o i).map (fun r => (i, r))) with
  | none =>
    if (o = .ins && is.isEmpty) || (o = .slideup && decide (x.vl ≤ x.e.x2.toNat)) then .done (doneAt x.s) 0 []
    else .done (doneAt (x.put x.vd x.grp w x.vl ty act f)) 0 []
  | some (k, r) =>
    if o = .compress || o = .expand then .fault x.s 0 .poison (poisonVal r) 0
    else
      let s := if (is.filter (fun i => decide (i < k))).isEmpty then x.s else x.put x.vd x.grp w k ty act f
      .fault s 0 .poison (poisonVal r) k

/-- The shape of `vext`: vl, VSTART and masks do not count (06 R170). -/
def shapeExt (x : VX) : VShape :=
  { VShape.base x.ta with srcs := [⟨x.va, x.grp, x.ta.width, false, true⟩] }

/-- `vext` (06 R170). -/
def runExt (x : VX) : VOut :=
  let w := x.ta.width
  let i := x.e.x2.toNat
  if x.srcBad x.va w i then .fault x.s 0 .poison (poisonVal (elReg x.vlen x.va w i)) 0
  else
    let v := x.srcAt x.va w w i
    let r : Word := if x.ta.isInt then (BitVec.ofNat w v).signExtend 64 else BitVec.ofNat 64 v
    .done (doneAt x.s) 0 [(x.e.desc.gd, r)]

/-- The shape of `vsetty` (06 R154). -/
def shapeSetty (x : VX) : VShape :=
  { VShape.base .i32 with dst := some ⟨x.vd, x.grp, 32, false, true⟩, villOk := true }

/-- `vsetty`: the tags of a group, its bits unchanged; VSTART stays (06 R154). -/
def runSetty (x : VX) (code : BitVec 5) : VOut :=
  let tag := (Tag.ofCode code.toNat).getD .i32
  .done (x.s.mapTh (fun t =>
    markWritten x.vd x.grp { t with v := Vector.ofFn (fun (r : Fin 32) =>
      if x.vd ≤ r.val ∧ r.val < x.vd + x.grp then { t.v[r] with tag := tag } else t.v[r]) })) 0 []

/-! ### Masks -/

/-- The width whose element placement decides the die of a mask bit (06 R171). -/
def maskWidth (x : VX) (o : MaskOp) : Nat :=
  match o with
  | .fromv => x.ta.width
  | _ => x.wtag.width

/-- The shape of a mask operation. -/
def shapeMask (x : VX) (o : MaskOp) : VShape :=
  let h := VShape.base x.wtag
  match o with
  | .and | .or | .xor | .andn => { h with msrc := [x.va, x.vb], mdst := some x.vd }
  | .not | .mv => { h with msrc := [x.va], mdst := some x.vd }
  | .set | .clr => { h with mdst := some x.vd }
  | .pop | .first => { h with msrc := [x.va], vstartOk := false }
  | .sbf => { h with msrc := [x.va], mdst := some x.vd, bitwise := false, vstartOk := false }
  | .fromv => { h with srcs := [x.grpAt x.va x.ta.width true], mdst := some x.vd }
  | .tov => { h with ill := !x.wtag.isInt, msrc := [x.va], dst := some (x.grpAt x.vd x.wtag.width true) }

/-- A mask operation (06 Table 06-9). -/
def runMask (x : VX) (o : MaskOp) : VOut :=
  let w := maskWidth x o
  let act := x.active w
  let a := fun i => maskBit x.t x.va i
  let b := fun i => maskBit x.t x.vb i
  let out := fun (f : Nat → Bool) => x.ewiseMask [] act (fun i => (f i, 0))
  let first := (x.actives w).find? a
  match o with
  | .and => out (fun i => a i && b i)
  | .or => out (fun i => a i || b i)
  | .xor => out (fun i => a i != b i)
  | .andn => out (fun i => a i && !b i)
  | .not => out (fun i => !a i)
  | .set => out (fun _ => true)
  | .clr => out (fun _ => false)
  | .mv => out a
  | .pop => .done (doneAt x.s) 0 [(x.e.desc.gd, BitVec.ofNat 64 ((x.actives w).filter a).length)]
  | .first =>
    .done (doneAt x.s) 0 [(x.e.desc.gd,
      match first with
      | some i => BitVec.ofNat 64 i
      | none => 0xFFFFFFFFFFFFFFFF)]
  | .sbf =>
    out (fun i => match first with
      | some k => decide (i < k)
      | none => true)
  | .fromv => x.ewiseMask [(x.va, w)] act (fun i => (x.el x.va w i != 0, 0))
  | .tov => x.ewise w x.wtag [] act (fun i => (if a i then 1 else 0, 0))

end Sys2Proof.Machine
end

