-- ==== Sys2Proof/Machine/VecMem.lean ====
section
/-! DEFINITION. Vector loads and stores, unit, strided, indexed, fault-first, scattered and in segments
(07 R174 to R182, R187). -/

namespace Sys2Proof.Machine

/-! ### Accesses of elements -/

/-- The checks of one element's access of z bytes: alignment, translation or bound, permission (07 R174). -/
def VX.check (x : VX) (s : State) (w : Nat) (acc : Acc) (va : Word) (z i : Nat) : State × Except Cause Place :=
  if va.toNat % z != 0 then (s, .error .align)
  else translate s x.e.ctx (s.vtlb (dieOf x.vlen w i)) acc va

/-- An element read for a die at a checked place: its bytes and whether they are poisoned (07 R176). -/
def readAt (die : Nat) (p : Place) (z : Nat) (s : State) : State × Nat × Bool :=
  let s := noteLoadOn die die p (setAD p s)
  (s, readNat s.dev.mem p.key z p.loc, anyPoisoned s.dev z p.loc)

/-- An element written by an atomic, at the home of its line, poisoned or not (07 R176; 17 R389). -/
def writeHome (p : Place) (va : Word) (z v : Nat) (bad keepV : Bool) (s : State) : State :=
  let s := catWrite va z (storeLoc (setAD p s) p.key p.loc z v keepV)
  if bad then s.mapDev (fun d => { d with mem := markPoison d.mem z p.loc }) else s

/-- An element of a die written at a checked place, poisoned or not (07 R176). -/
def writeAt (die : Nat) (p : Place) (va : Word) (z v : Nat) (bad keepV : Bool) (s : State) : State :=
  writeHome p va z v bad keepV (noteStoreOn die p s)

/-- The die that element i of width w lies on (01 R26). -/
def VX.die (x : VX) (w i : Nat) : Nat := dieOf x.vlen w i

/-- What a loop over elements gathers: the state, the values read with their poison, and the first failure. -/
structure Sweep where
  s : State
  got : List (Nat × Nat × Bool)
  fail : Option (Nat × Cause × Word)

/-- A loop over elements in order that stops at the first failure; `f` gives a value or a failure. -/
def sweep (f : State → Nat → State × Except (Cause × Word) (Nat × Bool)) : List Nat → State → Sweep
  | [], s => ⟨s, [], none⟩
  | i :: is, s =>
    match f s i with
    | (s, .error (c, v)) => ⟨s, [], some (i, c, v)⟩
    | (s, .ok (v, b)) =>
      let r := sweep f is s
      { r with got := (i, v, b) :: r.got }

/-- The thread with gathered elements written to a group, which takes a tag where anything was gathered or nothing
failed. -/
def VX.putGot (x : VX) (s : State) (base n w : Nat) (tag : Tag) (r : Sweep) : State :=
  let x := { x with s := s }
  let stop := match r.fail with
    | some (i, _, _) => i
    | none => x.vl
  if r.fail.isSome && r.got.isEmpty then s
  else x.put base n w stop tag (fun i => (assocGet r.got i).isSome) (fun i => (assocGet r.got i).getD (0, false))

/-- The end of an instruction whose loop is over: done, or the trap of the failing element. -/
def Sweep.out (r : Sweep) (s : State) (fl : Flags) : VOut :=
  match r.fail with
  | none => .done (doneAt s) fl []
  | some (i, c, v) => .fault s fl c v i

/-! ### Addresses (07 R174) -/

/-- The address of element i of size z in a mode. -/
def VX.vaddr (x : VX) (md : VAddr) (z i : Nat) : Word :=
  match md with
  | .unit => x.e.x1 + BitVec.ofNat 64 (i * z)
  | .stride => x.e.x1 + BitVec.ofNat 64 i * x.e.x2
  | .index => x.e.x1 + BitVec.ofNat 64 (x.el x.vb x.tagB.width i)

/-- The element's address as STVAL where its index carries poison (07 R176, Table 07-9). -/
def VX.idxBad (x : VX) (md : VAddr) (z i : Nat) : Option Word :=
  if md = .index && x.bad x.vb x.tagB.width i then some (x.vaddr md z i) else none

/-- The index group of a memory instruction: it may be the destination where its width is the element's. -/
def VX.idxGroups (x : VX) (md : VAddr) (w : Nat) : List VGroup :=
  if md = .index then [x.grpAt x.vb x.tagB.width (x.tagB.width == w)] else []

/-- Whether the index has a floating-point tag. -/
def VX.idxFloat (x : VX) (md : VAddr) : Bool := md == .index && !x.tagB.isInt

/-! ### Gather passes (17 R392, R393) -/

/-- The set port an address's line falls on; in the scratch window, by its die-slice offset (17 R392). -/
def setPort (va : Word) : Nat :=
  if windowOf va.toNat = some 1 then
    let o := va.toNat - scratchBase
    (o / 2048 * 256 + o % 256) / 128 % 32
  else va.toNat / 128 % 32

/-- The passes of a die block's gather: the greatest number of distinct lines on one set port (17 R392). -/
def diePasses (vas : List Word) : Nat :=
  let ls := (vas.map (fun a => (a.toNat / 128, setPort a))).eraseDups
  ((List.range 32).map (fun p => (ls.filter (fun l => l.2 == p)).length)).foldl max 0

/-- The passes of a gather over some elements, counted in GPASS: each die block of each register gathers by itself
(17 R392, R393; 01 R17). -/
def VX.countPasses (x : VX) (w : Nat) (is : List Nat) (s : State) : State :=
  let n := ((List.range x.grp).flatMap (fun r => (List.range 8).map (fun d =>
    diePasses ((is.filter (fun i => i / perReg x.vlen w == r && dieOf x.vlen w i == d)).map
      (x.vaddr .index (w / 8)))))).foldl (· + ·) 0
  s.mapCsr (fun c => { c with gpass := c.gpass + BitVec.ofNat 64 n })

/-! ### Loads (07 R180, R182) -/

/-- The tag a load of size z leaves. -/
def VX.loadTag (x : VX) (z : Nat) : Tag :=
  if (x.tag x.e.desc.vd).width = 8 * z then x.tag x.e.desc.vd else Tag.intOf z

/-- The shape of a load. -/
def shapeLoad (x : VX) (md : VAddr) (z : Nat) : VShape :=
  { VShape.base (Tag.intOf z) with
    rtag := x.loadTag z
    ill := x.idxFloat md
    srcs := x.idxGroups md (8 * z)
    dst := some (x.grpAt x.vd (8 * z) true) }

/-- The reading of one element of a load. -/
def VX.loadOne (x : VX) (md : VAddr) (z : Nat) (s : State) (i : Nat) : State × Except (Cause × Word) (Nat × Bool) :=
  match x.idxBad md z i with
  | some v => (s, .error (.poison, v))
  | none =>
    let va := x.vaddr md z i
    match x.check s (8 * z) .read va z i with
    | (s, .error c) => (s, .error (c, va))
    | (s, .ok p) =>
      let (s, v, b) := readAt (x.die (8 * z) i) p z s
      (s, .ok (v, b))

/-- A vector load. -/
def runLoad (x : VX) (md : VAddr) (z : Nat) : VOut :=
  let r := sweep (x.loadOne md z) (x.actives (8 * z)) x.s
  let s := if md = .index then x.countPasses (8 * z) (r.got.map (·.1)) r.s else r.s
  r.out (x.putGot s x.vd x.grp (8 * z) (x.loadTag z) r) 0

/-- A fault-first load: a failure above the first active element shortens vl (07 R182). -/
def runLoadff (x : VX) (z : Nat) : VOut :=
  let is := x.actives (8 * z)
  let r := sweep (x.loadOne .unit z) is x.s
  let s := x.putGot r.s x.vd x.grp (8 * z) (x.loadTag z) r
  match r.fail with
  | none => .done (doneAt s) 0 []
  | some (i, c, v) =>
    if is.head? = some i then .fault s 0 c v i
    else .done (doneAt ((s.mapTh (markWritten x.vd x.grp)).mapCsr (fun k => { k with vl := BitVec.ofNat 15 i }))) 0 []

/-! ### Stores (07 R181) -/

/-- The shape of a store. -/
def shapeStore (x : VX) (md : VAddr) (z : Nat) : VShape :=
  let tg := x.tag x.e.desc.vc
  { VShape.base tg with
    ill := x.idxFloat md || tg.width != 8 * z
    srcs := x.grpAt x.vc (8 * z) true :: x.idxGroups md (8 * z) }

/-- Whether a unit or strided store writes the whole poison unit that the element at an address lies in, as a scatter, whose
elements are accesses of their own, does not; and then whether one of the elements that make it up carries poison (20 R440). -/
def VX.wholeUnit (x : VX) (md : VAddr) (z loc : Nat) (va : Word) : Option Bool :=
  let is := x.actives (8 * z)
  let parts := (List.range (poisonUnit loc / z)).map (fun k =>
    is.find? (fun j => x.vaddr md z j == va - BitVec.ofNat 64 (loc % poisonUnit loc) + BitVec.ofNat 64 (k * z)))
  if md != .index && parts.all Option.isSome then some (parts.any (fun o => (o.map (x.bad x.vc (8 * z))).getD false)) else none

/-- An element of a store written: into a poisoned unit that the whole store replaces it is no narrow write (20 R440). -/
def VX.storeEl (x : VX) (md : VAddr) (z i : Nat) (va : Word) (p : Place) (s : State) : State :=
  let put := fun (bad : Bool) (s : State) => writeAt (x.die (8 * z) i) p va z (x.el x.vc (8 * z) i) bad false s
  match (if setHas s.dev.mem.poison (unitOf p.loc) then x.wholeUnit md z p.loc va else none) with
  | some bad => put bad (s.mapDev (fun d => { d with mem := clearCovered d.mem (unitOf p.loc) (poisonUnit p.loc) }))
  | none => put (x.bad x.vc (8 * z) i) s

/-- The writing of one element of an ordered store. -/
def VX.storeOne (x : VX) (md : VAddr) (z : Nat) (s : State) (i : Nat) : State × Except (Cause × Word) (Nat × Bool) :=
  match x.idxBad md z i with
  | some v => (s, .error (.poison, v))
  | none =>
    let va := x.vaddr md z i
    match x.check s (8 * z) .write va z i with
    | (s, .error c) => (s, .error (c, va))
    | (s, .ok p) => (x.storeEl md z i va p s, .ok (0, false))

/-- The checks of one element of an unordered scatter. -/
def VX.storeCheck (x : VX) (z : Nat) (s : State) (i : Nat) : State × Except (Cause × Word) (Nat × Bool) :=
  match x.idxBad .index z i with
  | some v => (s, .error (.poison, v))
  | none =>
    let va := x.vaddr .index z i
    match x.check s (8 * z) .write va z i with
    | (s, .error c) => (s, .error (c, va))
    | (s, .ok _) => (s, .ok (0, false))

/-- Elements in an order of the device's choice (07 R181). -/
def pickOrder (n : Nat) : Nat → List Nat → List Nat
  | 0, _ => []
  | fuel + 1, l =>
    if l.isEmpty then []
    else
      let j := Config.scatterPick n fuel % l.length
      l.getD j 0 :: pickOrder n fuel (l.eraseIdx j)

/-- A vector store. The unordered scatter performs the elements below the first failure in any order. -/
def runStore (x : VX) (md : VAddr) (z : Nat) (ordered : Bool) : VOut :=
  let is := x.actives (8 * z)
  if ordered then
    let r := sweep (x.storeOne md z) is x.s
    r.out r.s 0
  else
    let r := sweep (x.storeCheck z) is x.s
    let go := pickOrder x.s.free r.got.length (r.got.map (·.1))
    r.out (go.foldl (fun s i => (x.storeOne .index z s i).1) r.s) 0

/-! ### Segments (07 R187) -/

/-- The tag of a field of w bytes under a register tag: the integer or floating-point one of that width. -/
def segTag (reg : Tag) (w : Nat) : Tag :=
  if reg.isInt then Tag.intOf w else if w = 2 then .bf16 else if w = 4 then .f32 else .f64

/-- Whether fields of w bytes do not fit a register tag. -/
def segIll (reg : Tag) (w : Nat) : Bool := decide (reg.width < 8 * w) || (w == 1 && !reg.isInt)

/-- The shape of `vlseg`. -/
def shapeLdseg (x : VX) (f w : Nat) : VShape :=
  { VShape.base x.wtag with
    ill := segIll x.wtag w
    dst := some ⟨x.vd, f * x.grp, x.wtag.width, true, true⟩ }

/-- The shape of `vsseg`: each field group has its own tag. -/
def shapeStseg (x : VX) (f w : Nat) : VShape :=
  let tagOf := fun k => (vreg x.t (x.vc + k * x.grp)).tag
  { VShape.base x.wtag with
    ill := (List.range f).any (fun k => segIll (tagOf k) w) || decide (32 < x.vc + f * x.grp)
    srcs := (List.range f).map (fun k => x.grpAt (x.vc + k * x.grp) (tagOf k).width true) }

/-- The address of a field of a record. -/
def VX.segAddr (x : VX) (f w i k : Nat) : Word := x.e.x1 + BitVec.ofNat 64 (i * f * w + k * w)

/-- The places of the fields of record i, or the first failure; STVAL is the record's address. -/
def VX.segPlaces (x : VX) (f w ew : Nat) (acc : Acc) (i : Nat) : List Nat → State → State × Except (Cause × Word) (List Place)
  | [], s => (s, .ok [])
  | k :: ks, s =>
    match x.check s ew acc (x.segAddr f w i k) w i with
    | (s, .error c) => (s, .error (c, x.segAddr f w i 0))
    | (s, .ok p) =>
      match x.segPlaces f w ew acc i ks s with
      | (s, .error e) => (s, .error e)
      | (s, .ok ps) => (s, .ok (p :: ps))

/-- A field of w bytes widened to WTAG (07 R187). -/
def segWiden (reg : Tag) (w v : Nat) : Nat × Flags :=
  if reg.isInt then (((BitVec.ofNat (8 * w) v).signExtend reg.width).toNat, 0)
  else cvtEl .rne false true (segTag reg w) reg v

/-- Record by record: values of every field, list by list, with their flags. -/
def VX.segLoad (x : VX) (f w : Nat) : List Nat → State → State × List (Nat × List (Nat × Bool)) × Option (Nat × Cause × Word)
  | [], s => (s, [], none)
  | i :: is, s =>
    match x.segPlaces f w x.wtag.width .read i (List.range f) s with
    | (s, .error (c, v)) => (s, [], some (i, c, v))
    | (s, .ok ps) =>
      let (s, vs) := ps.foldl (fun (acc : State × List (Nat × Bool)) p =>
        let (s, v, b) := readAt (x.die x.wtag.width i) p w acc.1
        (s, acc.2 ++ [(v, b)])) (s, [])
      let (s, rest, fail) := x.segLoad f w is s
      (s, (i, vs) :: rest, fail)

/-- `vlseg`. -/
def runLdseg (x : VX) (f w : Nat) : VOut :=
  let ew := x.wtag.width
  let (s, recs, fail) := x.segLoad f w (x.actives ew) x.s
  let s := (List.range f).foldl (fun s k =>
    let got := recs.map (fun p =>
      let q := p.2.getD k (0, false)
      (p.1, (segWiden x.wtag w q.1).1, q.2))
    x.putGot s (x.vd + k * x.grp) x.grp ew x.wtag ⟨s, got, fail⟩) s
  let fl := flagsUnion (recs.flatMap (fun p => p.2.map (fun q => (segWiden x.wtag w q.1).2)))
  (Sweep.mk s [] fail).out s fl

/-- An element narrowed to a field of w bytes (07 R187). -/
def segNarrow (rm : Rm) (ftz : Bool) (reg : Tag) (w v : Nat) : Nat × Flags :=
  if reg.isInt then (v % 2 ^ (8 * w), 0) else cvtEl rm ftz true reg (segTag reg w) v

/-- `vsseg`. -/
def runStseg (x : VX) (f w : Nat) : VOut :=
  let tagOf := fun k => (vreg x.t (x.vc + k * x.grp)).tag
  let ew := (tagOf 0).width
  let nar := fun k i =>
    segNarrow x.rm x.ftz (tagOf k) w (x.el (x.vc + k * x.grp) (tagOf k).width i)
  let is := x.actives ew
  let r := sweep (fun s i =>
    match x.segPlaces f w ew .write i (List.range f) s with
    | (s, .error e) => (s, .error e)
    | (s, .ok ps) =>
      let s := (ps.zipIdx).foldl (fun s q =>
        writeAt (x.die ew i) q.1 (x.segAddr f w i q.2) w (nar q.2 i).1
          (x.bad (x.vc + q.2 * x.grp) (tagOf q.2).width i) false s) s
      (s, .ok (0, false))) is x.s
  r.out r.s (flagsUnion (r.got.flatMap (fun g => (List.range f).map (fun k => (nar k g.1).2))))

end Sys2Proof.Machine
end

