-- ==== Sys2Proof/Machine/Quant.lean ====
section
/-! DEFINITION. Quantised blocks and FP16 in memory: `vldq`, `vstq`, `vldf16`, `vstf16`
(04 R102 to R104; 07 R183 to R186). -/

namespace Sys2Proof.Machine

/-- The group size of a group code (04 Table 04-6). -/
def qGroup (c : Nat) : Nat := 32 * 2 ^ c
/-- Bits per code. -/
def qBits (q8 : Bool) : Nat := if q8 then 8 else 4
/-- Bytes per group. -/
def qBytes (q8 : Bool) (g : Nat) : Nat := 4 + g * qBits q8 / 8

/-- n / d rounded to nearest, ties to even, for d > 0. -/
def rneDiv (n d : Nat) : Nat :=
  let q := n / d
  let r := n % d
  if d < 2 * r ∨ (2 * r = d ∧ q % 2 = 1) then q + 1 else q

/-- x / y of two finite values rounded to nearest even as an integer; the exponents are aligned first. -/
def rneRatio (sx : Bool) (mx : Nat) (ex : Int) (my : Nat) (ey : Int) : Int :=
  let d := ex - ey
  signedInt sx (if 0 ≤ d then rneDiv (mx * 2 ^ d.toNat) my else rneDiv mx (my * 2 ^ (-d).toNat))

/-- An integer held between 0 and a limit. -/
def clampTo (hi : Nat) (v : Int) : Nat := if v < 0 then 0 else min hi v.toNat

/-- S × (code − Z) for a scale pattern, in the BF16 or F32 tag (04 R103); its zero has the sign of S (log 52). -/
def dequant (ty : Tag) (scale z code : Nat) : Nat × Flags :=
  let f := ty.fmt
  match unpack fp16 false scale with
  | .nan s q fr => (packNan f s fr, if q then 0 else fNV)
  | .inf s => if code = z then invalid f else (f.signed (s != decide (code < z)) f.infBits, 0)
  | .num s m e =>
    let k : Int := (code : Int) - (z : Int)
    roundTo f .rne false (if k = 0 then s else s != decide (k < 0)) (m * k.natAbs) e

/-! ### Loads -/

/-- The shape of `vldq`. -/
def shapeLdq (x : VX) : VShape :=
  { VShape.base x.wtag with
    ill := x.wtag != .bf16 && x.wtag != .f32
    dst := some (x.grpAt x.vd x.wtag.width true) }

/-- The address of group j. -/
def VX.qAddr (x : VX) (q8 : Bool) (g j : Nat) : Word := x.e.x1 + BitVec.ofNat 64 (j * qBytes q8 g)

/-- n places of single bytes from an address on, or the first failure. -/
def VX.bytePlaces (x : VX) (acc : Acc) (i w : Nat) : Nat → Word → State → State × Except Cause (List Place)
  | 0, _, s => (s, .ok [])
  | n + 1, va, s =>
    match x.check s w acc va 1 i with
    | (s, .error c) => (s, .error c)
    | (s, .ok p) =>
      match x.bytePlaces acc i w n (va + 1) s with
      | (s, .error c) => (s, .error c)
      | (s, .ok ps) => (s, .ok (p :: ps))

/-- The bytes of group j, read, with their poison: alignment of gs1 to 4 first (07 R184). -/
def VX.qRead (x : VX) (q8 : Bool) (g : Nat) (s : State) (i : Nat) :
    State × Except (Cause × Word) (List (Nat × Bool)) :=
  let va := x.qAddr q8 g (i / g)
  if x.e.x1.toNat % 4 != 0 then (s, .error (.align, va))
  else
    match x.bytePlaces .read i x.wtag.width (qBytes q8 g) va s with
    | (s, .error c) => (s, .error (c, va))
    | (s, .ok ps) =>
      let (s, vs) := ps.foldl (fun (acc : State × List (Nat × Bool)) p =>
        let (s, v, b) := readAt (x.die x.wtag.width i) p 1 acc.1
        (s, acc.2 ++ [(v, b)])) (s, [])
      (s, .ok vs)

/-- Element k of a group's bytes: value, flags and poison (04 R102, R103). -/
def qElem (ty : Tag) (q8 : Bool) (bs : List (Nat × Bool)) (k : Nat) : Nat × Flags × Bool :=
  let b := fun i => bs.getD i (0, false)
  let zb := (b 2).1
  let z := if q8 then zb else zb % 16
  let c := if q8 then b (4 + k) else b (4 + k / 2)
  let code := if q8 then c.1 else if k % 2 = 0 then c.1 % 16 else c.1 / 16
  let (v, fl) := dequant ty ((b 0).1 + 256 * (b 1).1) z code
  (v, fl, (b 0).2 || (b 1).2 || (b 2).2 || c.2)

/-- `vldq` (07 R184). -/
def runLdq (x : VX) (q8 : Bool) (grp : Nat) : VOut :=
  let g := qGroup grp
  let w := x.wtag.width
  let one := fun s i =>
    match x.qRead q8 g s i with
    | (s, .error e) => (s, Except.error e)
    | (s, .ok bs) =>
      let (v, fl, b) := qElem x.wtag q8 bs (i % g)
      (s, .ok (32 * v + fl.toNat, b))
  let r := sweep one (x.actives w) x.s
  let r2 : Sweep := { r with got := r.got.map (fun p => (p.1, p.2.1 / 32, p.2.2)) }
  r2.out (x.putGot r2.s x.vd x.grp w x.wtag r2) (flagsUnion (r.got.map (fun p => BitVec.ofNat 5 p.2.1)))

/-- The shape of `vldf16`. -/
def shapeLdf16 (x : VX) : VShape :=
  { VShape.base x.wtag with ill := x.wtag.isInt, dst := some (x.grpAt x.vd x.wtag.width true) }

/-- An FP16 pattern in a tag: exact but for BF16, which rounds (07 R186). -/
def fromFp16 (rm : Rm) (ftz : Bool) (ty : Tag) (v : Nat) : Nat × Flags :=
  if ty = .bf16 then fvTo bf16 rm ftz (unpack fp16 ftz v) else fvTo ty.fmt .rne false (unpack fp16 false v)

/-- `vldf16` (07 R186). -/
def runLdf16 (x : VX) : VOut :=
  let w := x.wtag.width
  let r := sweep (fun s i =>
    let va := x.vaddr .unit 2 i
    match x.check s w .read va 2 i with
    | (s, .error c) => (s, .error (c, va))
    | (s, .ok p) =>
      let (s, v, b) := readAt (x.die w i) p 2 s
      (s, .ok (v, b))) (x.actives w) x.s
  let cv := fun v => fromFp16 x.rm x.ftz x.wtag v
  let r2 : Sweep := { r with got := r.got.map (fun p => (p.1, (cv p.2.1).1, p.2.2)) }
  r2.out (x.putGot r2.s x.vd x.grp w x.wtag r2) (flagsUnion (r.got.map (fun p => (cv p.2.1).2)))

/-! ### Stores -/

/-- The tag of vs3. -/
def VX.tagC (x : VX) : Tag := x.tag x.e.desc.vc

/-- The shape of `vstf16`. -/
def shapeStf16 (x : VX) : VShape :=
  { VShape.base x.tagC with ill := x.tagC.isInt, srcs := [x.grpAt x.vc x.tagC.width true] }

/-- `vstf16` (07 R186). -/
def runStf16 (x : VX) : VOut :=
  let w := x.tagC.width
  let cv := fun i => fvTo fp16 x.rm x.ftz (unpack x.tagC.fmt x.ftz (x.el x.vc w i))
  let r := sweep (fun s i =>
    let va := x.vaddr .unit 2 i
    match x.check s w .write va 2 i with
    | (s, .error c) => (s, .error (c, va))
    | (s, .ok p) => (writeAt (x.die w i) p va 2 (cv i).1 (x.bad x.vc w i) false s, .ok (0, false))) (x.actives w) x.s
  r.out r.s (flagsUnion (r.got.map (fun g => (cv g.1).2)))

/-- The shape of `vstq`: VSTART lies at a group (07 R185). -/
def shapeStq (x : VX) (grp : Nat) : VShape :=
  { VShape.base x.tagC with
    ill := (x.tagC != .bf16 && x.tagC != .f32) || x.start % qGroup grp != 0
    srcs := [x.grpAt x.vc x.tagC.width true] }

/-- An element as an F32 value. -/
def qVal (ty : Tag) (v : Nat) : Fv := unpack ty.fmt false v

/-- The F32 pattern of the greatest or least of some values and zero (04 R104 step 1). -/
def qBound (isMax : Bool) (vs : List Fv) : Fv :=
  vs.foldl (fun a b => if b.isNan then a
    else if isMax then (if fvBelow a b then b else a) else (if fvBelow b a then b else a)) (.num false 0 0)

/-- Scale, zero point and flags of a group of values (04 R104 steps 1 to 4). -/
def qScale (bits : Nat) (vs : List Fv) : Nat × Nat × Flags :=
  let lo := qBound false vs
  let hi := qBound true vs
  let top := 2 ^ bits - 1
  let diff := (fvAdd f32 .rne false hi lo.neg).1
  let d := (fvDiv f32 .rne false (unpack f32 false diff) (.num false top 0)).1
  let s := (fvTo fp16 .rne false (unpack f32 false d)).1
  let (s, fl) := if s = fp16.infBits then (0x7BFF, fOF) else if s = 0 then (0x3C00, 0) else (s, 0)
  let z := match lo, unpack fp16 false s with
    | .num _ m e, .num _ ms es => clampTo top (rneRatio false m e ms es)
    | _, _ => top
  (s, z, fl)

/-- The code of a value under a scale and zero point, with its flags (04 R104 steps 5 and 6). -/
def qCode (bits s z : Nat) (v : Fv) : Nat × Flags :=
  let top := 2 ^ bits - 1
  match v, unpack fp16 false s with
  | .nan _ _ _, _ => (z, fNV)
  | .inf sg, _ => (if sg then 0 else top, fNX)
  | .num sx mx ex, .num _ ms es =>
    let code := clampTo top (rneRatio sx mx ex ms es + (z : Int))
    let k : Int := (code : Int) - (z : Int)
    let back : Fv := .num (decide (k < 0)) (ms * k.natAbs) es
    (code, if fvCmp back (.num sx mx ex) == .eq then 0 else fNX)
  | _, _ => (z, 0)

/-- Codes packed into bytes (04 R102). -/
def packCodes (q8 : Bool) : List Nat → List Nat
  | a :: b :: r => if q8 then a :: packCodes q8 (b :: r) else (a + 16 * b) :: packCodes q8 r
  | l => l

/-- The bytes of a group whose elements taking part are some of its values (04 R104, 07 R185). -/
def qGroupBytes (q8 : Bool) (grp : Nat) (vals : List (Option Fv)) : List Nat × Flags :=
  let part := vals.filterMap id
  let (s, z, fl) := if part.isEmpty then (0x3C00, 0, 0) else qScale (qBits q8) part
  let cs := vals.map (fun v => match v with
    | some u => qCode (qBits q8) s z u
    | none => (z, 0))
  ([s % 256, s / 256, z, grp] ++ packCodes q8 (cs.map (·.1)), fl ||| flagsUnion (cs.map (·.2)))

/-- Group j written at its address, or its failure; a group with a poisoned element is written poisoned. -/
def VX.qWrite (x : VX) (q8 : Bool) (grp j : Nat) (s : State) : State × Except (Cause × Word) Flags :=
  let g := qGroup grp
  let w := x.tagC.width
  let va := x.qAddr q8 g j
  let is := (List.range g).map (j * g + ·)
  let i0 := (is.find? (x.active w)).getD (j * g)
  if x.e.x1.toNat % 4 != 0 then (s, .error (.align, va))
  else
    match x.bytePlaces .write i0 w (qBytes q8 g) va s with
    | (s, .error c) => (s, .error (c, va))
    | (s, .ok ps) =>
      let (bs, fl) := qGroupBytes q8 grp (is.map (fun i =>
        if x.active w i then some (qVal x.tagC (x.el x.vc w i)) else none))
      let bad := is.any (fun i => x.active w i && x.bad x.vc w i)
      ((ps.zipIdx).foldl (fun s q =>
        writeAt (x.die w i0) q.1 (va + BitVec.ofNat 64 q.2) 1 (bs.getD q.2 0) bad false s) s, .ok fl)

/-- Groups written in order until one fails. -/
def VX.qLoop (x : VX) (q8 : Bool) (grp : Nat) : List Nat → State → State × Flags × Option (Nat × Cause × Word)
  | [], s => (s, 0, none)
  | j :: js, s =>
    match x.qWrite q8 grp j s with
    | (s, .error (c, v)) => (s, 0, some (j * qGroup grp, c, v))
    | (s, .ok fl) =>
      let (s, fls, e) := x.qLoop q8 grp js s
      (s, fl ||| fls, e)

/-- `vstq` (07 R185): a group with an element on a disabled die is not written at all. -/
def runStq (x : VX) (q8 : Bool) (grp : Nat) : VOut :=
  let g := qGroup grp
  let w := x.tagC.width
  let js := (List.range ((x.vl + g - 1) / g)).filter (fun j =>
    decide (x.start ≤ j * g) && (List.range g).all (fun k => x.dieOn w (j * g + k)))
  let (s, fl, e) := x.qLoop q8 grp js x.s
  (Sweep.mk s [] e).out s fl

end Sys2Proof.Machine
end

