-- ==== Sys2Proof/Machine/VecAtom.lean ====
section
/-! DEFINITION. Vector atomics, gather-linked and scatter-conditional (07 R191 to R195). -/

namespace Sys2Proof.Machine

/-- Whether a member takes floating-point elements. -/
def VamoOp.isFp : VamoOp → Bool
  | .fadd | .fmax => true
  | _ => false

/-- Whether a member reads or writes vd. -/
def amoUsesVd (o : VamoOp) (ret : Bool) : Bool := ret || o == .badd

/-- The shape of a VAMO member (07 R191). -/
def shapeAmo (x : VX) (o : VamoOp) (ret : Bool) : VShape :=
  let w := x.tagC.width
  { VShape.base x.tagC with
    ill := !x.tagB.isInt || (if o.isFp then x.tagC.isInt else x.tagC != .i32 && x.tagC != .i64)
    srcs := [x.grpAt x.vc w false, x.grpAt x.vb x.tagB.width false]
      ++ (if o = .badd then [⟨x.vd, x.grp, w, true, true⟩] else [])
    dst := if amoUsesVd o ret then some (x.grpAt x.vd w true) else none }

/-- The update of one element: the value written, none where nothing is (07 R191). -/
def amoNew (o : VamoOp) (ty : Tag) (ftz : Bool) (old d bound : Nat) : Option Nat :=
  let w := ty.width
  let a := BitVec.ofNat w old
  let b := BitVec.ofNat w d
  match o with
  | .add => some (a + b).toNat
  | .and => some (a &&& b).toNat
  | .or => some (a ||| b).toNat
  | .xor => some (a ^^^ b).toNat
  | .min => some (imin a b).toNat
  | .max => some (imax a b).toNat
  | .swap => some d
  | .inc => some (if d ≤ old then 0 else old + 1)
  | .badd => if old + d ≤ bound then some (old + d) else none
  | .fadd => some (fvAdd ty.fmt .rne false (unpack ty.fmt false old) (unpack ty.fmt false d)).1
  | .fmax => some (fvMinMax ty.fmt true (unpack ty.fmt ftz old) (unpack ty.fmt ftz d)).1

/-- An update of a non-returning member, acknowledged, which an error may still stop until a later access passes it (18 R415). -/
def VX.noteAcked (x : VX) (p : Place) (z old : Nat) (s : State) : State :=
  match x.e.desc.op with
  | .amo _ false =>
    if isSram p.loc then s
    else s.mapDev (fun d => { d with fabric := { d.fabric with acked := d.fabric.acked ++ [⟨s.core.th.nest, p.key, p.loc, z, old⟩] } })
  | _ => s

/-- One element of a VAMO member: its old value and poison (07 R176, R192). -/
def VX.amoOne (x : VX) (o : VamoOp) (s : State) (i : Nat) : State × Except (Cause × Word) (Nat × Bool) :=
  let w := x.tagC.width
  let z := w / 8
  match x.idxBad .index z i with
  | some v => (s, .error (.poison, v))
  | none =>
    let va := x.vaddr .index z i
    match x.check s w .rw va z i with
    | (s, .error c) => (s, .error (c, va))
    | (s, .ok p) =>
      let old := readNat s.dev.mem p.key z p.loc
      let bad := anyPoisoned s.dev z p.loc
      match amoNew o x.tagC x.ftz old (x.el x.vc w i) (x.el x.vd w i) with
      | some v => (x.noteAcked p z old (writeHome p va z v (bad || x.bad x.vc w i) false s), .ok (old, bad))
      | none => ((setAD p.readOnly s).mapDev (readLine (x.die w i) p.loc), .ok (old, bad))

/-- A VAMO member. The elements of `vabadd` read their bounds before vd is written (07 R191). -/
def runAmo (x : VX) (o : VamoOp) (ret : Bool) : VOut :=
  let w := x.tagC.width
  let r := sweep (x.amoOne o) (x.actives w) x.s
  r.out (if ret then x.putGot r.s x.vd x.grp w x.tagC r else r.s) 0

/-! ### vgl and vsc -/

/-- The shape of `vgl` (07 R193). -/
def shapeGl (x : VX) : VShape :=
  { VShape.base x.wtag with
    ill := !x.tagB.isInt
    srcs := x.idxGroups .index x.wtag.width
    dst := some (x.grpAt x.vd x.wtag.width true) }

/-- The cause `vgl` reports: its address fails as a read (07 Table 07-9). -/
def glCause : Cause → Cause
  | .xlateW => .xlateR
  | c => c

/-- One element of `vgl`: it is read and its granule reserved (07 R193). -/
def VX.glOne (x : VX) (s : State) (i : Nat) : State × Except (Cause × Word) (Nat × Bool) :=
  let w := x.wtag.width
  let z := w / 8
  match x.idxBad .index z i with
  | some v => (s, .error (.poison, v))
  | none =>
    let va := x.vaddr .index z i
    match x.check s w .rw va z i with
    | (s, .error c) => (s, .error (glCause c, va))
    | (s, .ok p) =>
      let (s, v, b) := readAt (x.die w i) p.readOnly z s
      (s.mapTh (fun t => { t with vresv := t.vresv ++ [(i, p.loc / 128, s.dev.clk)] }), .ok (v, b))

/-- `vgl`: it replaces the reservations of every earlier one where it begins; one that goes on after a stop adds to its own
(07 R195). -/
def runGl (x : VX) : VOut :=
  let w := x.wtag.width
  let s := if x.e.progress = 0 then x.s.mapTh (fun t => { t with vresv := [] }) else x.s
  let r := sweep x.glOne (x.actives w) s
  r.out (x.putGot (x.countPasses w (r.got.map (·.1)) r.s) x.vd x.grp w x.wtag r) 0

/-- The shape of `vsc` (07 R193). -/
def shapeSc (x : VX) : VShape :=
  { VShape.base x.tagC with
    ill := !x.tagB.isInt
    srcs := [x.grpAt x.vc x.tagC.width true, x.grpAt x.vb x.tagB.width true]
    mdst := some x.vd
    bitwise := false }

/-- The reservation of element i, if it stands: not older than 4,096 cycles (07 R195). -/
def liveResv (t : Thread) (clk i gr : Nat) : Bool :=
  t.vresv.any (fun r => r.1 == i && r.2.1 == gr && decide (clk < r.2.2 + 4096))

/-- The elements of `vsc` in order: success bits and the first failure; `won` lists the addresses that succeeded
(07 R194). -/
def VX.scLoop (x : VX) : List Nat → List Word → State → State × List (Nat × Bool) × Option (Nat × Cause × Word)
  | [], _, s => (s, [], none)
  | i :: is, won, s =>
    let w := x.tagC.width
    let z := w / 8
    match x.idxBad .index z i with
    | some v => (s, [], some (i, .poison, v))
    | none =>
      let va := x.vaddr .index z i
      match x.check s w .rw va z i with
      | (s, .error c) => (s, [], some (i, c, va))
      | (s, .ok p) =>
        let ok := liveResv s.core.th s.dev.clk i (p.loc / 128) && !won.contains va
        let s := if ok then writeHome p va z (x.el x.vc w i) (x.bad x.vc w i) true s
          else (setAD p.readOnly s).mapDev (readLine (x.die w i) p.loc)
        let s := s.mapTh (fun t => { t with vresv := t.vresv.filter (fun r => r.1 != i) })
        let (s, bits, e) := x.scLoop is (if ok then va :: won else won) s
        (s, (i, ok) :: bits, e)

/-- `vsc` (07 R194). -/
def runSc (x : VX) : VOut :=
  let (s, bits, e) := x.scLoop (x.actives x.tagC.width) [] x.s
  let s := s.mapTh (fun t => setMaskBits t x.vd x.ms x.vl (fun i => assocGet bits i))
  (Sweep.mk s [] e).out s 0

end Sys2Proof.Machine
end

