-- ==== Sys2Proof/Machine/Stream.lean ====
section
/-! DEFINITION. Streams: descriptors, bindings, the popping and appending of strips and the STRM members
(08 R218, R219, R236 to R243). -/

namespace Sys2Proof.Machine

/-! ### Descriptors (08 R218, R219) -/

/-- MFMT. -/
def sdFmt (r : BitVec 512) : Nat := recN r 1 8
/-- Whether the stream is an output. -/
def sdOut (r : BitVec 512) : Bool := recN r 0 8 == 1
/-- RTAG; none where the code is reserved. -/
def sdTag (r : BitVec 512) : Option Tag := if recN r 2 8 < 16 then Tag.ofCode (recN r 2 8) else none
/-- CNTk, unused counts as 1. -/
def sdCnt (r : BitVec 512) (k : Nat) : Nat := if k < recN r 3 8 then recN r (4 + 4 * k) 32 else 1
/-- N, the number of elements. -/
def sdN (r : BitVec 512) : Nat := sdCnt r 0 * sdCnt r 1 * sdCnt r 2
/-- The QB group code. -/
def sdGrp (r : BitVec 512) : Nat := recN r 0x30 8 / 16 % 4
/-- Whether the format is quantised. -/
def sdQ (r : BitVec 512) : Bool := sdFmt r == 8 || sdFmt r == 9
/-- The bytes of an element; 1 for the quantised formats. -/
def sdSize (r : BitVec 512) : Nat :=
  match sdFmt r with
  | 0 => 1 | 1 => 2 | 2 => 4 | 3 => 8 | 4 => 2 | 5 => 4 | 6 => 8 | 7 => 2 | _ => 1

/-- Whether RTAG suits MFMT (08 Table 08-9). -/
def sdSuits (f : Nat) (t : Tag) : Bool :=
  match f with
  | 0 | 1 | 2 | 3 => t.isInt && decide (8 * 2 ^ f ≤ t.width)
  | 4 | 5 | 6 | 7 => !t.isInt
  | 8 | 9 => t == .bf16 || t == .f32
  | _ => false

/-- Whether a descriptor is valid (08 R218, R219). -/
def sdValid (r : BitVec 512) : Bool :=
  let dims := recN r 3 8
  let used := fun k => decide (k < dims)
  decide (recN r 0 8 ≤ 1) && decide (1 ≤ dims) && decide (dims ≤ 3) &&
    (List.range 3).all (fun k => if used k then recN r (4 + 4 * k) 32 != 0 else recN r (4 + 4 * k) 32 == 0) &&
    (List.range 3).all (fun k => used k || recW r (0x18 + 8 * k) == 0) &&
    recN r 0x30 8 / 64 == 0 && decide (recN r 0x31 8 ≤ 8) && recN r 0x32 112 == 0 &&
    (if sdQ r then decide (sdGrp r ≤ 2) && dims == 1 && recW r 0x18 == 0 else sdGrp r == 0) &&
    (match sdTag r with
     | some t => sdSuits (sdFmt r) t
     | none => false)

/-- The address of element n, or of its QB group (08 R218). -/
def sdAddr (r : BitVec 512) (n : Nat) : Word :=
  let base := recW r 0x10
  if sdQ r then base + BitVec.ofNat 64 (n / qGroup (sdGrp r) * qBytes (sdFmt r == 9) (qGroup (sdGrp r)))
  else
    let i0 := n % sdCnt r 0
    let i1 := n / sdCnt r 0 % sdCnt r 1
    let i2 := n / sdCnt r 0 / sdCnt r 1
    base + BitVec.ofNat 64 i0 * recW r 0x18 + BitVec.ofNat 64 i1 * recW r 0x20 + BitVec.ofNat 64 i2 * recW r 0x28

/-! ### Bindings -/

/-- The binding of a register. -/
def bindingOf (t : Thread) (r : Nat) : Option Binding := t.streams.find? (fun b => b.reg.toNat == r)

/-- A binding of the running thread replaced. -/
def setBinding (b : Binding) (s : State) : State :=
  s.mapTh (fun t => { t with streams := t.streams.map (fun c => if c.reg = b.reg then b else c) })

/-- The floating-point tag of a memory format (08 Table 08-8). -/
def sdFTag : Nat → Tag
  | 4 => .bf16
  | 5 => .f32
  | _ => .f64

/-- An element of memory format f converted to a register tag (08 Table 08-9): a wider format is exact; a narrower one
is rounded, and FTZ flushes only its tiny result (log 52). -/
def streamIn (rm : Rm) (ftz : Bool) (f : Nat) (t : Tag) (v : Nat) : Nat × Flags :=
  match f with
  | 0 | 1 | 2 | 3 => (((BitVec.ofNat (8 * 2 ^ f) v).signExtend t.width).toNat, 0)
  | 7 => fromFp16 rm ftz t v
  | _ =>
    if sdFTag f = t then (v, 0)
    else fvTo t.fmt rm (ftz && decide (t.width < (sdFTag f).width)) (unpack (sdFTag f).fmt false v)

/-- A register element converted to memory format f, 0 to 7 (08 R239). -/
def streamOut (rm : Rm) (ftz : Bool) (f : Nat) (t : Tag) (v : Nat) : Nat × Flags :=
  match f with
  | 0 | 1 | 2 | 3 =>
    if t.isInt then (v % 2 ^ (8 * 2 ^ f), 0) else fvToInt rm true (8 * 2 ^ f) (unpack t.fmt false v)
  | 7 => fvTo fp16 rm ftz (unpack t.fmt ftz v)
  | _ => cvtEl rm ftz true t (sdFTag f) v

/-! ### Popping (08 R238, R243) -/

/-- What one stream element gives: value, flags, poison, or none where its access fails. -/
def VX.streamElem (x : VX) (b : Binding) (s : State) (n : Nat) : State × Option (Nat × Flags × Bool) :=
  let r := b.desc
  let va := sdAddr r n
  let tag := (sdTag r).getD .i32
  if sdQ r then
    let g := qGroup (sdGrp r)
    let q8 := sdFmt r == 9
    match x.bytePlaces .read 0 tag.width (qBytes q8 g) va s with
    | (s, .error _) => (s, none)
    | (s, .ok ps) =>
      let bs := ps.map (fun p => ((readAt (homeDie p.loc) p 1 s).2.1, (readAt (homeDie p.loc) p 1 s).2.2))
      let (v, fl, bad) := qElem tag q8 bs (n % g)
      (ps.foldl (fun s p => (readAt (homeDie p.loc) p 1 s).1) s, some (v, fl, bad))
  else
    match x.check s tag.width .read va (sdSize r) 0 with
    | (s, .error _) => (s, none)
    | (s, .ok p) =>
      let (s, v, bad) := readAt (homeDie p.loc) p (sdSize r) s
      let (v, fl) := streamIn x.rm x.ftz (sdFmt r) tag v
      (s, some (v, fl, bad))

/-- The elements of the next strip: for each its value, flags and poison, none where its access fails; beyond N they
read as zero. -/
def VX.stripOf (x : VX) (b : Binding) : List Nat → State → State × List (Option (Nat × Flags × Bool))
  | [], s => (s, [])
  | i :: is, s =>
    let n := b.pos + i
    let (s, e) := if n < sdN b.desc then x.streamElem b s n else (s, some (0, 0, false))
    let (s, es) := x.stripOf b is s
    (s, e :: es)

/-- A popped strip in its register (08 R238). -/
def VX.popInto (x : VX) (b : Binding) (es : List (Option (Nat × Flags × Bool))) (s : State) : State :=
  let tag := (sdTag b.desc).getD .i32
  let r := b.reg.toNat
  let ended := b.ended || decide (sdN b.desc < b.pos + x.vl)
  let s := setBinding { b with pos := b.pos + x.vl, ended := ended, ahead := b.ahead - 1, err := b.err || es.any Option.isNone } s
  let s := if x.vl = 0 then s
    else s.mapTh (fun t => markWritten r 1 (setEls t x.vlen r 1 tag.width x.vl tag (fun i =>
      match (es.getD i none) with
      | some (v, _, bad) => some (v, bad)
      | none => some (0, false))))
  { s with core := { s.core with th := { s.core.th with
      csr := { s.core.th.csr with
        fflags := s.core.th.csr.fflags ||| flagsUnion (es.filterMap (fun e => e.map (fun q => q.2.1))) } } } }

/-- Whether a synchronous STREAMERR may be taken now: unmasked, at user level, no handler active (08 R243). -/
def streamErrNow (s : State) : Bool :=
  s.core.level == .user && !s.csr.utActive && !utMasked s.csr .streamerr

/-- The next strips of some bound registers, with the state their accesses leave. -/
def VX.strips (x : VX) : List Binding → State → State × List (Binding × List (Option (Nat × Flags × Bool)))
  | [], s => (s, [])
  | b :: bs, s =>
    let (s, es) := x.stripOf b (List.range x.vl) s
    let (s, rest) := x.strips bs s
    (s, (b, es) :: rest)

/-- What popping the strips of some bound registers comes to: done, or the first register whose strip fails with
STREAMERR to be taken, and then no strip is popped (08 R243). -/
def VX.popAll (x : VX) (bs : List Binding) (s : State) : State × Option Binding :=
  let (s, strips) := x.strips bs s
  match strips.find? (fun p => p.2.any Option.isNone) with
  | some (b, _) =>
    if streamErrNow s then (setBinding { b with err := true } s, some b)
    else
      (strips.foldl (fun s p =>
        let s := x.popInto p.1 p.2 s
        if p.2.any Option.isNone then s.mapTh (queueUser ⟨.streamerr, BitVec.ofNat 64 p.1.reg.toNat⟩) else s) s, none)
  | none => (strips.foldl (fun s p => x.popInto p.1 p.2 s) s, none)

/-! ### Appending (08 R239, R243) -/

/-- The strip of a bound output register stored: the state, the flags and whether an access failed. -/
def VX.appendLoop (x : VX) (b : Binding) (tag : Tag) : List Nat → State → State × Flags × Bool
  | [], s => (s, 0, false)
  | i :: is, s =>
    let n := b.pos + i
    if sdN b.desc ≤ n then x.appendLoop b tag is s
    else
      let va := sdAddr b.desc n
      let z := sdSize b.desc
      let r := b.reg.toNat
      let (v, fl) := streamOut x.rm x.ftz (sdFmt b.desc) tag (x.el r tag.width i)
      let (s, bad) := match x.check s tag.width .write va z 0 with
        | (s, .error _) => (s, true)
        | (s, .ok p) => (writeAt (x.die tag.width i) p va z v (x.bad r tag.width i) false s, false)
      let (s, fls, bads) := x.appendLoop b tag is s
      (s, fl ||| fls, bad || bads)

/-- The QB groups of a strip stored (08 R239, 04 R104). -/
def VX.appendGroups (x : VX) (b : Binding) (tag : Tag) : List Nat → State → State × Flags × Bool
  | [], s => (s, 0, false)
  | j :: js, s =>
    let g := qGroup (sdGrp b.desc)
    let q8 := sdFmt b.desc == 9
    let r := b.reg.toNat
    let va := sdAddr b.desc (b.pos + j * g)
    let ix := (List.range g).map (j * g + ·)
    let isIn := fun i => decide (i < x.vl) && decide (b.pos + i < sdN b.desc)
    let (bs, fl) := qGroupBytes q8 (sdGrp b.desc) (ix.map (fun i =>
      if isIn i then some (qVal tag (x.el r tag.width i)) else none))
    let bad := ix.any (fun i => isIn i && x.bad r tag.width i)
    let (s, err) := match x.bytePlaces .write 0 tag.width (qBytes q8 g) va s with
      | (s, .error _) => (s, true)
      | (s, .ok ps) => ((ps.zipIdx).foldl (fun s q =>
          writeAt (homeDie q.1.loc) q.1 (va + BitVec.ofNat 64 q.2) 1 (bs.getD q.2 0) bad false s) s, false)
    let (s, fls, errs) := x.appendGroups b tag js s
    (s, fl ||| fls, err || errs)

/-- The strip a writing instruction appends after it has written the register (08 R239). -/
def VX.append (x : VX) (b : Binding) : State × Flags :=
  let tag := (vreg x.t b.reg.toNat).tag
  let left := min x.vl (sdN b.desc - b.pos)
  let (s, fl, err) :=
    if sdQ b.desc then
      let g := qGroup (sdGrp b.desc)
      x.appendGroups b tag (List.range ((left + g - 1) / g)) x.s
    else x.appendLoop b tag (List.range x.vl) x.s
  let s := setBinding { b with
      pos := b.pos + x.vl
      ended := b.ended || decide (sdN b.desc < b.pos + x.vl)
      err := b.err || err } s
  (if err then s.mapTh (queueUser ⟨.streamerr, BitVec.ofNat 64 b.reg.toNat⟩) else s, fl)

/-- Row 5 for a bound register an instruction writes (08 R238, R239): `rtag` is the tag it leaves. -/
def VX.boundDstIll (x : VX) (rtag : Tag) (b : Binding) : Bool :=
  if sdOut b.desc then
    x.e.desc.masked || x.dm != 0xFF || (x.start != 0 && x.e.progress == 0) ||
      (sdQ b.desc && x.vl % qGroup (sdGrp b.desc) != 0 && decide (b.pos + x.vl < sdN b.desc)) ||
      (decide (7 ≤ sdFmt b.desc) && rtag.isInt) || (sdQ b.desc && rtag == .f64)
  else true

/-! ### The STRM members -/

/-- The register a STRM member names. -/
def VX.strmReg (x : VX) : Reg :=
  match x.e.desc.op with
  | .sstat => x.e.desc.va
  | _ => x.e.desc.vd

/-- The shape of a STRM member: the register lies in v24 to v31, and is bound for sunbind and sflush. -/
def shapeStrm (x : VX) : VShape :=
  let r := x.strmReg.toNat
  { VShape.base .i32 with
    ill := decide (r < 24) || (match x.e.desc.op with
      | .sunbind | .sflush => (bindingOf x.t r).isNone
      | _ => false) }

/-- The 512 bits of a record read at an address, or the failure. -/
def readRecord (x : VX) (a : Word) (s : State) : State × Except Cause (BitVec 512 × Bool) :=
  match x.check s 32 .read a 64 0 with
  | (s, .error c) => (s, .error c)
  | (s, .ok p) =>
    let (s, v, bad) := readAt (homeDie p.loc) p 64 s
    (s, .ok (BitVec.ofNat 512 v, bad))

/-- `sbind` (08 R237). -/
def runSbind (x : VX) (imm : BitVec 11) : VOut :=
  let a := x.e.x1 + imm.signExtend 64 * 64
  let r := x.strmReg.toNat
  match readRecord x a x.s with
  | (s, .error c) => .fault s 0 c a 0
  | (s, .ok (d, bad)) =>
    if bad || !sdValid d || (bindingOf x.t r).isSome || decide (4 ≤ x.t.streams.length)
        || x.t.csr.vfemask.getLsbD r then .fault s 0 .illegal a 0
    else .done (s.mapTh (fun t => { t with streams := t.streams ++ [⟨x.strmReg, d, 0, false, false, 0⟩] })) 0 []

/-- `sunbind` (08 R241). -/
def runSunbind (x : VX) : VOut :=
  .done (x.s.mapTh (fun t => { t with streams := t.streams.filter (fun b => b.reg != x.strmReg) })) 0 []

/-- `sflush`: what is fetched ahead is dropped; appended elements have performed already (08 R241). -/
def runSflush (x : VX) : VOut :=
  .done (x.s.mapTh (fun t => { t with streams := t.streams.map (fun b =>
    if b.reg = x.strmReg then { b with ahead := 0 } else b) })) 0 []

/-- `sstat` (08 R242). -/
def runSstat (x : VX) : VOut :=
  let v : Nat := match bindingOf x.t x.strmReg.toNat with
    | some b => b.pos % 2 ^ 32 + (if b.ended then 2 ^ 32 else 0) + (if b.err then 2 ^ 33 else 0)
        + (if sdOut b.desc then 2 ^ 34 else 0) + 2 ^ 35
    | none => 0
  .done x.s 0 [(x.e.desc.gd, BitVec.ofNat 64 v)]

end Sys2Proof.Machine
end

