-- ==== Sys2Proof/Machine/Tile.lean ====
section
/-! DEFINITION. The TILE members that read and write tiles and planar blocks (08 R223 to R230). A tile is reached
in chunks of 128 bytes, none of which crosses a page. -/

namespace Sys2Proof.Machine

/-- Chunks of a tile image. -/
def tileChunks : Nat := 194

/-- n places of 128 bytes from an address on, or the first failure with its address. -/
def VX.chunks (x : VX) (acc : Acc) : Nat → Word → State → State × Except (Cause × Word) (List Place)
  | 0, _, s => (s, .ok [])
  | n + 1, va, s =>
    match x.check s 32 acc va 128 0 with
    | (s, .error c) => (s, .error (c, va))
    | (s, .ok p) =>
      match x.chunks acc n (va + 128) s with
      | (s, .error e) => (s, .error e)
      | (s, .ok ps) => (s, .ok (p :: ps))

/-- The bytes at some chunks as one number, first lowest. -/
def readChunks (s : State) : List Place → Nat
  | [] => 0
  | p :: ps => (readAt (homeDie p.loc) p 128 s).2.1 + 2 ^ 1024 * readChunks s ps

/-- The state after reading some chunks. -/
def afterRead (s : State) (ps : List Place) : State := ps.foldl (fun s p => (readAt (homeDie p.loc) p 128 s).1) s

/-- A number written over chunks from an address on; a chunk that read as poisoned stays so where `keep` holds. -/
def writeChunks (keep : Bool) : List Place → Word → Nat → State → State
  | [], _, _, s => s
  | p :: ps, va, v, s =>
    let bad := keep && anyPoisoned s.dev 128 p.loc
    writeChunks keep ps (va + 128) (v / 2 ^ 1024) (writeAt (homeDie p.loc) p va 128 (v % 2 ^ 1024) bad false s)

/-- Row r of a tile image. -/
def rowAt (img r : Nat) : TileRow :=
  rowOf ((List.range 64).map (fun c => img >>> (3072 * r + 48 * c) % 2 ^ 48)) (img >>> (8 * (24576 + 4 * r)) % 2 ^ 32)

/-- A tile image from its rows (04 R108). -/
def imageOf (rows : List TileRow) : Nat :=
  packEls 48 (rows.flatMap (fun r => r.m.map mantBits)) + 2 ^ (8 * 24576) * packEls 32 (rows.map scaleWord)

/-- The rows of an image. -/
def rowsOf (img : Nat) : List TileRow := (List.range 64).map (rowAt img)

/-- A tile or block address that is not a multiple of 256 raises ALIGN (08 R223). -/
def VX.aligned256 (x : VX) (a : Word) (k : Unit → VOut) : VOut :=
  if a.toNat % 256 != 0 then .fault x.s 0 .align a 0 else k ()

/-- The shape of a TILE member without vector operands. -/
def shapeTile0 (x : VX) (ill : Bool) : VShape := { VShape.base x.wtag with ill := ill }

/-- `tzero` (08 R226). -/
def runTzero (x : VX) : VOut :=
  let a := x.e.x1
  x.aligned256 a (fun _ =>
    match x.chunks .write tileChunks a x.s with
    | (s, .error (c, v)) => .fault s 0 c v 0
    | (s, .ok ps) => .done (writeChunks false ps a (imageOf (List.replicate 64 TileRow.zero)) s) 0 [])

/-- `trenorm` (08 R227). -/
def runTrenorm (x : VX) : VOut :=
  let a := x.e.x1
  let t := x.e.x2.toNat
  if 47 < t then .fault x.s 0 .illegal 0 0
  else
    x.aligned256 a (fun _ =>
      match x.chunks .rw tileChunks a x.s with
      | (s, .error (c, v)) => .fault s 0 c v 0
      | (s, .ok ps) => .done (writeChunks true ps a (imageOf ((rowsOf (readChunks s ps)).map (rowRenorm t))) s) 0 [])

/-- The scale words of a tile. -/
def scalesOf (v : Nat) : List Nat := (List.range 64).map (fun r => v >>> (32 * r) % 2 ^ 32)

/-- `tstat` (08 R229). -/
def runTstat (x : VX) : VOut :=
  let a := x.e.x1
  x.aligned256 a (fun _ =>
    match x.chunks .read 2 (a + 24576) x.s with
    | (s, .error (c, v)) => .fault s 0 c v 0
    | (s, .ok ps) => .done (afterRead s ps) 0 [(x.e.desc.gd, tileSummary (scalesOf (readChunks s ps)))])

/-- `tflags`: the summary, then flags cleared (08 R229). -/
def runTflags (x : VX) : VOut :=
  let a := x.e.x1
  let clr := x.e.x2.toNat % 32
  x.aligned256 a (fun _ =>
    match x.chunks .rw 2 (a + 24576) x.s with
    | (s, .error (c, v)) => .fault s 0 c v 0
    | (s, .ok ps) =>
      let ws := scalesOf (readChunks s ps)
      .done (writeChunks true ps (a + 24576) (packEls 32 (ws.map (fun w => w / 32 * 32 + (w % 32 &&& (31 - clr))))) s)
        0 [(x.e.desc.gd, tileSummary ws)])

/-- The shape of `tload`. -/
def shapeTload (x : VX) : VShape :=
  { VShape.base x.wtag with
    ill := x.wtag != .bf16 && x.wtag != .f32
    dst := some (x.grpAt x.vd x.wtag.width true) }

/-- `tload` (08 R228). -/
def runTload (x : VX) : VOut :=
  let a := x.e.x1
  let row0 := x.e.x2.toNat
  let w := x.wtag.width
  if 63 < row0 ∨ 64 < row0 + (x.vl + 63) / 64 then .fault x.s 0 .illegal 0 0
  else
    x.aligned256 a (fun _ =>
      let r := sweep (fun s i =>
        let row := row0 + i / 64
        let va := a + BitVec.ofNat 64 (384 * row)
        match x.chunks .read 3 va s with
        | (s, .error (c, _)) => (s, .error (c, va + BitVec.ofNat 64 (6 * (i % 64))))
        | (s, .ok ps) =>
          match x.chunks .read 1 (a + BitVec.ofNat 64 (24576 + row / 32 * 128)) s with
          | (s, .error e) => (s, .error e)
          | (s, .ok qs) =>
            let m := readChunks s ps
            let sc := readChunks s qs >>> (32 * (row % 32)) % 2 ^ 32
            let tr := rowOf ((List.range 64).map (fun c => m >>> (48 * c) % 2 ^ 48)) sc
            let (v, fl) := exportEl x.wtag.fmt tr (i % 64)
            let bad := (ps ++ qs).any (fun p => anyPoisoned s.dev 128 p.loc)
            (afterRead s (ps ++ qs), .ok (32 * v + fl.toNat, bad))) (x.actives w) x.s
      let r2 : Sweep := { r with got := r.got.map (fun p => (p.1, p.2.1 / 32, p.2.2)) }
      r2.out (x.putGot r2.s x.vd x.grp w x.wtag r2)
        (flagsUnion (r.got.map (fun p => BitVec.ofNat 5 p.2.1))))

/-- The bytes of a header as a number (04 Table 04-7). -/
def hdrNum (es : List Int) (p role k : Nat) (nanv : Bool) : Nat :=
  packEls 16 (es.map (fun e => (e % 65536).toNat)) +
    2 ^ 1024 * (p + 2 ^ 8 * role + 2 ^ 16 * k + (if nanv then 2 ^ 32 else 0))

/-- `tinit` (08 R224). -/
def runTinit (x : VX) (p : BitVec 5) (role : Bool) : VOut :=
  let a := x.e.x1
  let k := x.e.x2.toNat
  if k < 1 ∨ 64 < k then .fault x.s 0 .illegal 0 0
  else
    x.aligned256 a (fun _ =>
      match x.chunks .write 2 a x.s with
      | (s, .error (c, v)) => .fault s 0 c v 0
      | (s, .ok ps) =>
        .done (writeChunks false ps a (hdrNum (List.replicate 64 (-1024)) p.toNat (if role then 1 else 0) k false) s) 0 [])

/-- The bytes of a number, n of them. -/
def bytesOf (n v : Nat) : List Nat := (List.range n).map (fun i => v >>> (8 * i) % 256)

/-- The shape of `tplanar`: the masks and the die mask are ignored (08 R225). -/
def shapeTplanar (x : VX) : VShape :=
  { VShape.base x.tagC with
    ill := x.tagC.isInt
    srcs := [x.grpAt x.vc x.tagC.width true]
    vstartOk := false }

/-- What `tplanar` writes: addresses and bytes, ascending (08 R225). -/
def planarBytes (h : PlanarHdr) (keep : Bool) (r k0 vl : Nat) (e : Int) (vs : List Fv) : List (Nat × Nat) :=
  let k := 256 * h.k
  let ms := vs.map (planarMant h.p e)
  let eBytes := if keep then [] else
    [(2 * r, (e % 256).toNat), (2 * r + 1, (e / 256 % 256).toNat)]
  let nan := if vs.any Fv.notFinite then [(0x84, 1)] else []
  let planes := (List.range h.p).flatMap (fun j => (List.range (vl / 8)).map (fun b =>
    (256 + j * 8 * k + r * (k / 8) + k0 / 8 + b,
     packEls 1 ((List.range 8).map (fun i => if mantBit (ms.getD (8 * b + i) 0) j then 1 else 0)))))
  eBytes ++ nan ++ planes

/-- Places of single bytes at offsets from an address, or the first failure with its address. -/
def VX.places (x : VX) (acc : Acc) (a : Word) : List Nat → State → State × Except (Cause × Word) (List Place)
  | [], s => (s, .ok [])
  | o :: os, s =>
    match x.check s 32 acc (a + BitVec.ofNat 64 o) 1 0 with
    | (s, .error c) => (s, .error (c, a + BitVec.ofNat 64 o))
    | (s, .ok p) =>
      match x.places acc a os s with
      | (s, .error e) => (s, .error e)
      | (s, .ok ps) => (s, .ok (p :: ps))

/-- `tplanar` (08 R225). -/
def runTplanar (x : VX) (keep : Bool) : VOut :=
  let a := x.e.x1
  let g := x.e.x2.toNat
  let r := g % 64
  let k0 := g / 2 ^ 16 % 2 ^ 16
  let w := x.tagC.width
  x.aligned256 a (fun _ =>
    match x.chunks .read 2 a x.s with
    | (s, .error (c, v)) => .fault s 0 c v 0
    | (s, .ok ps) =>
      match hdrOf (bytesOf 256 (readChunks s ps)) with
      | none => .fault s 0 .illegal a 0
      | some h =>
        if g / 64 % 2 ^ 10 ≠ 0 ∨ g / 2 ^ 32 ≠ 0 ∨ k0 % 256 ≠ 0 ∨ x.vl % 8 ≠ 0 ∨ 256 * h.k < k0 + x.vl then
          .fault s 0 .illegal 0 0
        else
          ({ x with s := s }).whole [(x.vc, w)] (List.range x.vl) (fun _ =>
            let vs := (List.range x.vl).map (fun i => unpack x.tagC.fmt false (x.el x.vc w i))
            let e := if keep then h.e.getD r 0 else planarExp h.p vs
            let bs := planarBytes h keep r k0 x.vl e vs
            match x.places .write a (bs.map (fun (q : Nat × Nat) => q.1)) (afterRead s ps) with
            | (s, .error (c, v)) => .fault s 0 c v 0
            | (s, .ok qs) =>
              let s := (List.zip bs qs).foldl (fun (s : State) (q : (Nat × Nat) × Place) =>
                let (o, b) := q.1
                let old := if o = 0x84 then (readAt (homeDie q.2.loc) q.2 1 s).2.1 else 0
                writeAt (homeDie q.2.loc) q.2 (a + BitVec.ofNat 64 o) 1 (b ||| old) false false s) s
              .done s 0 [(x.e.desc.gd, BitVec.ofInt 64 e)]))

/-! ### Posting (08 R213 to R222, R232) -/

/-- The shape of `tpost` and `epost`: tag I32, vl a multiple of 16 up to 512 (08 R220). -/
def shapePost (x : VX) : VShape :=
  { VShape.base x.ta with
    ill := x.ta != .i32 || x.vl % 16 != 0 || decide (512 < x.vl)
    srcs := [x.grpAt x.va 32 true]
    vstartOk := false }

/-- Record j of the group (08 R220). -/
def VX.recordAt (x : VX) (j : Nat) : BitVec 512 :=
  BitVec.ofNat 512 (packEls 32 ((List.range 16).map (fun q => x.el x.va 32 (16 * j + q))))

/-- Whether a tile-task record is valid (08 R214, Table 08-6). -/
def taskValid (r : BitVec 512) : Bool :=
  let op := recN r 0 8
  let fl := recN r 1 8
  let kc := recN r 2 16
  let pa := recN r 4 8
  let pb := recN r 5 8
  let lm := recN r 6 8
  let wtok := recN r 7 8
  let stok := recN r 8 8
  let a := recW r 0x10
  let b := recW r 0x18
  let c := recW r 0x20
  let ln := recW r 0x28
  let lmOk := if op = 0 then lm == 0 || lm == 6
    else if op = 1 then lm == 5
    else if op = 5 then lm == 0 || lm == 3 || lm == 6
    else lm == 0 || lm == 6
  let perOp := if op ≤ 1 then decide (1 ≤ kc) && decide (kc ≤ 64) && decide (pa ≤ 25) && decide (pb ≤ 25)
      && a.toNat % 256 == 0 && b.toNat % 256 == 0
    else if op = 3 then kc == 0 && pa == 0 && pb == 0 && a == 0 && b == 0
    else if op = 4 then kc == 0 && decide (pa ≤ 47) && pb == 0 && a == 0 && b == 0
    else kc == 0 && (pa == 16 || pa == 32) && pb == 0 && a.toNat % 256 == 0 && b == 0
  [0, 1, 3, 4, 5].contains op && decide (fl < 16) && recN r 9 8 == 0 && recN r 0xC 32 == 0 &&
    (decide (wtok ≤ 63) || wtok == 0xFF) && (if fl / 2 % 2 = 1 then decide (stok ≤ 63) else stok == 0) &&
    c.toNat % 256 == 0 && (recW r 0x30).toNat % 8 == 0 && lmOk &&
    (if lm = 0 then ln == 0 else nameOk ln) && perOp

/-- Whether a copy command is valid (08 R215 to R217). -/
def copyValid (r : BitVec 512) : Bool :=
  let op := recN r 0 8
  let fl := recN r 1 8
  let fc := recN r 3 8
  let rows := recN r 4 32
  let rb := recN r 0x18 32
  let sp := recN r 0x1C 32
  let dp := recN r 0x20 32
  let fw := recN r 0x24 32
  let sum := (List.range fc).foldl (fun n f => n + fieldWidth r f) 0
  let perOp := if op ≤ 1 then rows == 1 && sp == 0 && dp == 0 && fw == 0 && fc == 0
    else if op = 2 then fw == 0 && fc == 0
    else if op = 3 then decide (2 ≤ fc) && decide (fc ≤ 8) && rb == sum && decide (rb ≤ sp) && fw / 16 ^ fc == 0
      && (List.range fc).all (fun f => fieldWidth r f != 0)
    else (recW r 8).toNat % 8 == 0 && sp == 0 && fw == 0 && fc == 0
  decide (op ≤ 4) && decide (fl < 16) && fl / 2 % 2 == 0 && decide (recN r 2 8 < 64) &&
    recW r 0x38 == 0 && (recW r 0x28).toNat % 8 == 0 && perOp

/-- The value a post returns: accepted records, and an invalid record where acceptance stopped (08 R220). -/
def postValue (accepted : Nat) (bad : Option Nat) : Word :=
  BitVec.ofNat 64 (2 ^ accepted - 1 + (match bad with
    | some j => 2 ^ 32 + j * 2 ^ 33
    | none => 0))

/-- How many leading records are accepted with `free` slots, and the invalid one that ended it. -/
def acceptRecords (valid : BitVec 512 → Bool) : List (BitVec 512) → Nat → Nat → Nat × Option Nat
  | [], _, j => (j, none)
  | r :: rs, free, j =>
    if !valid r then (j, some j)
    else if free = 0 then (j, none)
    else acceptRecords valid rs (free - 1) (j + 1)

/-- The posting thread's cluster. -/
def State.clusterNo (s : State) : Nat := s.at_ / 8

/-- A tile task as it is accepted (08 R221). -/
def newTask (s : State) (e : VEntry) (scope : BitVec 2) (id : Nat) (r : BitVec 512) : TileTask :=
  { id := id, cluster := s.clusterNo, record := r, cls := e.desc.cls, scope := scope, ctx := e.ctx
    nest := s.core.th.nest, ord := s.core.th.ord, tid := s.core.th.tid, state := .waiting, engine := 0, slice := 0
    tile := [], hdrs := none, failed := 0, stopped := false, due := 0 }

/-- A copy command as it is accepted (08 R221). -/
def newCopy (s : State) (e : VEntry) (id : Nat) (r : BitVec 512) : CopyCmd :=
  { id := id, cluster := s.clusterNo, record := r, ctx := e.ctx, nest := s.core.th.nest, ord := s.core.th.ord
    tid := s.core.th.tid, state := .queued, progress := 0, suspended := false, stopped := false, failed := 0
    due := 0, buf := [] }

/-- Free records of a cluster's tile scheduler. -/
def tileFree (s : State) : Nat := 256 - (s.dev.tasks.filter (fun t => t.cluster == s.clusterNo)).length
/-- Free slots of a cluster's copy queue. -/
def copyFree (s : State) : Nat := 64 - (s.dev.copies.filter (fun c => c.cluster == s.clusterNo)).length

/-- The records of a posting instruction, poisoned elements trapping first. -/
def VX.records (x : VX) : List (BitVec 512) := (List.range (x.vl / 16)).map x.recordAt

/-- `tpost` (08 R220, R221). -/
def runTpost (x : VX) (scope : BitVec 2) : VOut :=
  x.whole [(x.va, 32)] (List.range x.vl) (fun _ =>
    let rs := x.records
    let (n, bad) := acceptRecords taskValid rs (tileFree x.s) 0
    let s := x.s.release.mapDev (fun d => { d with
        tasks := d.tasks ++ ((rs.take n).zipIdx).map (fun p => newTask x.s x.e scope (d.nextOp + p.2) p.1)
        nextOp := d.nextOp + n })
    .done s 0 [(x.e.desc.gd, postValue n bad)])

/-- A command with a destination byte in the own scratch window whose way is no longer scratch (08 R232, 17 R386). -/
def scratchGone (s : State) (r : BitVec 512) : Bool := scratchLost s.csr.tbcfg (copyDests r)

/-- The window code of a destination in the scratch window: its offset, the way the offset selects under the current TBCFG, or
0xFFFF beyond the bound, and the window (17 R387). -/
def windowCode (s : State) (dst : Nat) : Word :=
  let o := dst - scratchBase
  BitVec.ofNat 64 (o * 2 ^ 24 + ((scratchWay s.csr.tbcfg o).getD 0xFFFF) * 2 ^ 8 + 1)

/-- `epost`: STVAL of the scratch check is the window code of the failing command's destination (08 R232, 17 R387). -/
def runEpost (x : VX) : VOut :=
  x.whole [(x.va, 32)] (List.range x.vl) (fun _ =>
    let rs := x.records
    match rs.find? (scratchGone x.s) with
    | some r => .fault x.s 0 .xlateW (windowCode x.s (recW r 0x10).toNat) 0
    | none =>
      let (n, bad) := acceptRecords copyValid rs (copyFree x.s) 0
      let s := x.s.release.mapDev (fun d => { d with
          copies := d.copies ++ ((rs.take n).zipIdx).map (fun p => newCopy x.s x.e (d.nextOp + p.2) p.1)
          nextOp := d.nextOp + n })
      .done s 0 [(x.e.desc.gd, postValue n bad)])

end Sys2Proof.Machine
end

