-- ==== Sys2Proof/Machine/Vxf.lean ====
section
/-! DEFINITION. Full and empty vector registers: `vpush`, `vtake`, `vempty`, `vfill` (07 R199 to R202; 21 R453). -/

namespace Sys2Proof.Machine

/-- Whether every register of a group is gated (07 R199). -/
def gatedAll (t : Thread) (base n : Nat) : Bool := (lowestClear t.csr.vfemask base n).isNone

/-- The bits of the die blocks of enabled dies, in units of u bits each (02 R49, 01 R26). -/
def dieBits (vlen u : Nat) (dm : BitVec 8) : Nat :=
  packEls (vlen / 8 / u) ((List.range 8).map (fun d => if dm.getLsbD d then 2 ^ (vlen / 8 / u) - 1 else 0))

/-- Bits of a where a mask is set, of b elsewhere. -/
def blend {w : Nat} (m : Nat) (a b : BitVec w) : BitVec w :=
  (a &&& BitVec.ofNat w m) ||| (b &&& ~~~(BitVec.ofNat w m))

/-- A register with the enabled die blocks of another copied in, under a tag. -/
def copyDies (vlen : Nat) (dm : BitVec 8) (tag : Tag) (src dst : VReg) : VReg :=
  ⟨blend (dieBits vlen 1 dm) src.bits dst.bits, tag, blend (dieBits vlen 16 dm) src.poison dst.poison⟩

/-- A thread whose group at `to_` takes the enabled die blocks of n registers. -/
def copyGroup (vlen : Nat) (dm : BitVec 8) (tag : Tag) (src : Nat → VReg) (to_ n : Nat) (t : Thread) : Thread :=
  { t with v := Vector.ofFn (fun (r : Fin 32) =>
      if to_ ≤ r.val ∧ r.val < to_ + n then copyDies vlen dm tag (src (r.val - to_)) t.v[r] else t.v[r]) }

/-- The shape of a VXF member: where it empties or fills, the group must be gated (07 R202). -/
def shapeVxf (x : VX) : VShape :=
  let h := VShape.base x.ta
  let a : VGroup := ⟨x.va, x.grp, x.ta.width, false, true⟩
  let dIll := x.vd % x.grp != 0 || decide (32 < x.vd + x.grp)
  match x.e.desc.op with
  | .push => { h with ill := dIll, srcs := [a], vstartOk := false }
  | .take =>
    { h with
      ill := !gatedAll x.t x.va x.grp
      srcs := [{ a with cap := true, eq := false }]
      dst := some (x.grpAt x.vd x.ta.width true) }
  | _ => { h with ill := dIll || !gatedAll x.t x.vd x.grp }

/-- Where a thread of the running nest with an id is: on a core, or set aside. -/
inductive Peer where
  | core (n : Nat)
  | away
  | none
  deriving DecidableEq, Repr

/-- The peer thread with an id of the running thread's nest (07 R201): it is switched out while a block of it stands in a save
area or a handler that will restore one runs in its place, and while the walker has set it aside. -/
def peerOf (s : State) (tid : Nat) : Peer :=
  match s.knownCores.find? (fun n =>
      let c := s.coreAt n
      c.lives && c.th.nest == s.core.th.nest && c.th.tid == tid) with
  | some n => if (s.coreAt n).switching then .away else .core n
  | none =>
    if s.dev.walker.aside.any (fun a => a.th.nest == s.core.th.nest && a.th.tid == tid) ||
        s.dev.blocks.any (fun b => b.2.nest == s.core.th.nest && b.2.tid == tid) then .away else .none

/-- `vpush` (07 R201). -/
def runPush (x : VX) : VOut :=
  let g := x.e.x2
  let busy : Word := BitVec.ofNat 64 (2 ^ 63 + 2 ^ 62 + g.toNat % 256 * 32 + x.vd)
  if 256 ≤ g.toNat then .fault x.s 0 .perm g 0
  else
    match peerOf x.s g.toNat with
    | .none => .fault x.s 0 .perm g 0
    | .away => .wait x.s busy
    | .core n =>
      let p := (x.s.coreAt n).th
      let bits := groupBits x.vd x.grp
      if !gatedAll p x.vd x.grp then .fault x.s 0 .perm g 0
      else if p.csr.vfestate &&& bits != 0 || p.csr.vloaded &&& bits != bits then .wait x.s busy
      else
        let src := fun k => vreg x.t (x.va + k)
        let s := x.s.release.mapThAt n (fun t => markWritten x.vd x.grp (copyGroup x.vlen x.dm x.ta src x.vd x.grp t))
        .done (s.mapCoreAt n (renameV ((List.range x.grp).map (x.vd + ·)))) 0 []

/-- `vtake` (07 R202): elements VSTART to vl − 1 on enabled dies are copied with their poison under the one tag of vs1's base
(01 R18, R24, R25; log 52), and the source is marked empty. -/
def runTake (x : VX) : VOut :=
  let w := x.ta.width
  let s := x.put x.vd x.grp w x.vl x.ta (fun i => decide (x.start ≤ i) && x.dieOn w i)
    (fun i => (x.el x.va w i, x.bad x.va w i))
  .done (doneAt (if x.vl ≤ x.start then s
    else s.mapCsr (fun c => { c with vfestate := c.vfestate &&& ~~~(groupBits x.va x.grp) }))) 0 []

/-- `vempty` or `vfill` (07 R202); with VSTART at or above vl it performs nothing (01 R25). -/
def runFill (x : VX) (full : Bool) : VOut :=
  let bits := groupBits x.vd x.grp
  .done (doneAt (if x.vl ≤ x.start then x.s
    else x.s.mapCsr (fun c => { c with vfestate := if full then c.vfestate ||| bits else c.vfestate &&& ~~~bits }))) 0 []

end Sys2Proof.Machine
end

