-- ==== Sys2Proof/Machine/VecUnit.lean ====
section
/-! DEFINITION. The vector unit: entering the queue, issue with the checks of rows 5 to 8, execution, retirement,
vector traps and the Catalogue (10 R260 to R265, R270 to R280; 02 R61; 07 R199; 08 R238, R239). -/

namespace Sys2Proof.Machine

/-- The shape of the instruction. -/
def VX.shape (x : VX) : VShape :=
  match x.e.desc.op with
  | .int o => shapeInt x o
  | .icmp _ => shapeIcmp x
  | .merge => shapeMerge x false
  | .mv => shapeMv x
  | .fp o => shapeFp x o
  | .fcmp _ => shapeFcmp x
  | .fcvt => shapeFcvt x
  | .fmerge => shapeMerge x true
  | .fma _ => shapeFma x
  | .red o => shapeRed x o
  | .scan => shapeScan x false
  | .fscan => shapeScan x true
  | .smx => shapeSmx x
  | .perm o => shapePerm x o
  | .ext => shapeExt x
  | .mask o => shapeMask x o
  | .setty _ => shapeSetty x
  | .load md z => shapeLoad x md z
  | .loadff z => shapeLoad x .unit z
  | .store md z _ => shapeStore x md z
  | .ldq _ _ => shapeLdq x
  | .stq _ g => shapeStq x g
  | .ldf16 => shapeLdf16 x
  | .stf16 => shapeStf16 x
  | .ldseg f w => shapeLdseg x f w
  | .stseg f w => shapeStseg x f w
  | .amo o r => shapeAmo x o r
  | .gl => shapeGl x
  | .sc => shapeSc x
  | .push => shapeVxf x
  | .take => shapeVxf x
  | .vempty => shapeVxf x
  | .vfill => shapeVxf x
  | .tplanar _ => shapeTplanar x
  | .tpost _ => shapePost x
  | .tzero => shapeTile0 x false
  | .trenorm => shapeTile0 x false
  | .tload => shapeTload x
  | .tinit _ _ => shapeTile0 x false
  | .tstat => shapeTile0 x false
  | .tflags => shapeTile0 x false
  | .epost => shapePost x
  | .sbind _ => shapeStrm x
  | .sunbind => shapeStrm x
  | .sstat => shapeStrm x
  | .sflush => shapeStrm x
  | .lost _ _ => VShape.base .i32

/-- The execution of the instruction. -/
def VX.run (x : VX) : VOut :=
  match x.e.desc.op with
  | .int o => runInt x o
  | .icmp o => runIcmp x o
  | .merge => runMerge x
  | .mv => runMv x
  | .fp o => runFp x o
  | .fcmp o => runFcmp x o
  | .fcvt => runFcvt x
  | .fmerge => runMerge x
  | .fma o => runFma x o
  | .red o => runRed x o
  | .scan => runScan x
  | .fscan => runFscan x
  | .smx => runSmx x
  | .perm o => runPerm x o
  | .ext => runExt x
  | .mask o => runMask x o
  | .setty c => runSetty x c
  | .load md z => runLoad x md z
  | .loadff z => runLoadff x z
  | .store md z o => runStore x md z o
  | .ldq q g => runLdq x q g
  | .stq q g => runStq x q g
  | .ldf16 => runLdf16 x
  | .stf16 => runStf16 x
  | .ldseg f w => runLdseg x f w
  | .stseg f w => runStseg x f w
  | .amo o r => runAmo x o r
  | .gl => runGl x
  | .sc => runSc x
  | .push => runPush x
  | .take => runTake x
  | .vempty => runFill x false
  | .vfill => runFill x true
  | .tplanar k => runTplanar x k
  | .tpost sc => runTpost x sc
  | .tzero => runTzero x
  | .trenorm => runTrenorm x
  | .tload => runTload x
  | .tinit p r => runTinit x p r
  | .tstat => runTstat x
  | .tflags => runTflags x
  | .epost => runEpost x
  | .sbind i => runSbind x i
  | .sunbind => runSunbind x
  | .sstat => runSstat x
  | .sflush => runSflush x
  | .lost c v => .fault x.s 0 c v x.start

/-! ### The head of the queue -/

/-- The entry that executes next: the first that no user-level handler holds stopped (10 R261, 07 R199). -/
def headEntry (s : State) : Option VEntry := s.core.th.viq[s.core.th.held]?

/-- The head replaced. -/
def setHead (e : VEntry) (s : State) : State :=
  s.mapTh (fun t => { t with viq := t.viq.set t.held e })

/-- An entry in execution: it starts at its progress, or at VSTART (10 R264, 01 R25). -/
def VX.of (s : State) (e : VEntry) : VX :=
  { s := s, e := e, start := if e.progress != 0 then e.progress else s.csr.vstart.toNat }

/-- Entry j replaced. -/
def setAt (j : Nat) (e : VEntry) (s : State) : State := s.mapTh (fun t => { t with viq := t.viq.set j e })

/-- What a trap of entry j of the queue, at an address and an element, leaves in VCP, VQPOS, VFPC and VSTART (10 R263). -/
def noteVector (j : Nat) (pc : Word) (at_ : Nat) (s : State) : State :=
  let first := (s.core.th.viq.head?.map (·.pc)).getD pc
  s.mapCsr (fun k => { k with vcp := first, vqpos := BitVec.ofNat 6 j, vfpc := pc, vstart := BitVec.ofNat 15 at_ })

/-- A vector trap of entry j of the queue at an element (10 R263). -/
def vecTrapAt (j : Nat) (c : Cause) (val : Word) (at_ : Nat) (s : State) : State :=
  match s.core.th.viq[j]? with
  | none => s
  | some e =>
    let s := if c = .firstuse then noteFirstUse val.toNat s else s
    let s := setAt j { e with progress := at_, stage := .queued, since := 0 } s
    let s := noteVector j e.pc at_ s
    let s := enterSup c val s.core.th.pc true s
    s.mapTh (fun t => { t with held := 0, uvec := none })

/-- A vector trap of the head. -/
def vecTrap (c : Cause) (val : Word) (at_ : Nat) (s : State) : State := vecTrapAt s.core.th.held c val at_ s

/-- A user-level trap taken at VCP: VCP, VQPOS, VFPC and VSTART are set as for a vector trap, and the queue is held until uret,
which resumes scalar issue where it stood (06 R173; 07 R199, log 31). With UTVEC = 0 the ILLEGAL in its place is taken at VCP as
well (14 R349). -/
def vecUser (c : Cause) (val : Word) (s : State) : State :=
  match headEntry s with
  | none => s
  | some e =>
    let k := (VX.of s e).start
    let s := setHead { e with since := 0, stage := .queued } s
    if s.csr.utvec = 0 then vecTrap .illegal (BitVec.ofNat 64 c.code) k s
    else
      let next := s.core.th.pc
      let s := noteVector s.core.th.held e.pc k s
      deliverUser c val e.pc (s.mapTh (fun t => { t with held := t.viq.length, uvec := some next }))

/-- A wait of the head, which ends in EMPTY with a value once EMPTYSPIN cycles are gone (07 R199, R201). -/
def vecWait (val : Word) (s : State) : State :=
  match headEntry s with
  | none => s
  | some e =>
    if e.since = 0 then setHead { e with since := s.dev.clk + 1 } s
    else if emptyDue s e.spin (e.since - 1) then vecUser .empty val s
    else s

/-! ### Bound and gated registers -/

/-- The registers some groups cover. -/
def groupRegs (gs : List VGroup) : List Nat :=
  (List.range 32).filter (fun r => gs.any (fun g => decide (g.base ≤ r) && decide (r < g.base + g.n)))

/-- The bindings among some registers. -/
def boundIn (t : Thread) (rs : List Nat) : List Binding := t.streams.filter (fun b => rs.contains b.reg.toNat)

/-- Whether an instruction names registers as vector groups at all; the STRM members name bindings. -/
def VX.isStrm (x : VX) : Bool :=
  match x.e.desc.op with
  | .sbind _ | .sunbind | .sstat | .sflush => true
  | _ => false

/-- The thread as an instruction that is about to pop finds it: bound input registers have their RTAG (08 R238). -/
def popView (t : Thread) : Thread :=
  { t with v := Vector.ofFn (fun (r : Fin 32) =>
      match bindingOf t r.val with
      | some b => if sdOut b.desc then t.v[r] else { t.v[r] with tag := (sdTag b.desc).getD t.v[r].tag }
      | none => t.v[r]) }

/-- The view an entry is checked in. -/
def VX.view (x : VX) : VX :=
  if x.e.popped || x.t.streams.isEmpty then x else { x with s := x.s.mapTh popView }

/-- Row 5 for bound registers (08 R237 to R239); `vsetty` writes no element. -/
def VX.boundIll (x : VX) (h : VShape) : Bool :=
  let rd := boundIn x.t (groupRegs h.srcs)
  let wr := boundIn x.t (groupRegs h.dst.toList)
  (x.grp != 1 && !(rd ++ wr).isEmpty) ||
    (match x.e.desc.op with
     | .setty _ => wr.any (fun b => !sdOut b.desc)
     | _ => wr.any (x.boundDstIll h.rtag))

/-- The lowest gated register of the sources that is empty (07 R199). -/
def emptySource (t : Thread) (h : VShape) : Option Nat :=
  (groupRegs h.srcs).find? (fun r => t.csr.vfemask.getLsbD r && !t.csr.vfestate.getLsbD r)

/-! ### The Catalogue (10 R270 to R280) -/

/-- Whether the Catalogue column marks an operation, or R278 admits it as a load of a class. -/
def catKind (c : Csrs) (d : VDesc) : Bool :=
  match d.op with
  | .int _ | .icmp _ | .merge | .mv | .fp _ | .fcmp _ | .fcvt | .fmerge | .fma _ | .scan | .fscan | .perm _ => true
  | .load _ _ | .ldq _ _ | .ldf16 | .ldseg _ _ => c.catcls.getLsbD d.cls.toNat
  | _ => false

/-- Whether the Catalogue is on for an instruction at its entry (10 R273; 05 R130). -/
def catOn (c : Csrs) (d : VDesc) : Bool := catKind c d && c.catctl.getLsbD 0

/-- Whether an operation is a load. -/
def VOp.isLoad : VOp → Bool
  | .load _ _ | .ldq _ _ | .ldf16 | .ldseg _ _ => true
  | _ => false

/-- Eligibility (10 R273). -/
def VX.eligible (x : VX) (h : VShape) : Bool :=
  let rs := groupRegs (h.srcs ++ h.dst.toList)
  x.e.cat && x.t.csr.catctl.getLsbD 0 && x.start == 0 &&
    (boundIn x.t rs).isEmpty && rs.all (fun r => !x.t.csr.vfemask.getLsbD r)

/-- The names of the registers of some groups, in order. -/
def vnames (k : Catalogue) (gs : List VGroup) : List Nat :=
  gs.flatMap (fun g => (List.range g.n).map (fun i => k.vname.getD (g.base + i) 0))

/-- The names of a mask group. -/
def mnames (k : Catalogue) (base n : Nat) : List Nat := (List.range n).map (fun i => k.mname.getD (base + i) 0)

/-- Permutes that leave elements of vd as they were for other reasons than the mask (06 Table 06-8). -/
def VOp.keepsVd : VOp → Bool
  | .perm .slideup | .perm .compress | .perm .expand | .perm .ins => true
  | _ => false

/-- Whether the destination before counts in the key: an element kept from it makes it a source (10 R272, 06 R150). -/
def VX.dstInKey (x : VX) (h : VShape) : Bool :=
  let full := match h.dst, h.mdst with
    | some g, _ => decide (x.vl = capacity x.vlen g.w x.grp) && !h.srcs.any (fun a => a.meets g)
    | none, some k => decide (x.vl = 1024 * x.ms) && !h.msrc.contains k
    | none, none => false
  x.e.desc.masked || x.dm != 0xFF || !full || x.e.desc.op.keepsVd

/-- The key of an instruction (10 R272, R278). -/
def VX.key (x : VX) (h : VShape) : CatKey :=
  let k := x.s.core.cat
  { op := x.e.desc.op
    bkind := (match x.e.desc.b with
      | .none => 0 | .vec _ => 1 | .gpr => 2 | .imm5 _ => 3 | .imm32 _ => 4)
    masked := x.e.desc.masked
    maskNames := if x.e.desc.masked then mnames k x.e.desc.mi.toNat x.ms else []
    vl := x.vl
    vtype := x.e.vtype &&& 0x78007B
    dm := x.dm
    ds := BitVec.ofNat 3 x.ds
    frm := x.e.frm
    ftz := x.e.ftz
    srcNames := vnames k h.srcs
    scalars := [x.e.x1, x.e.x2, (match x.e.desc.b with
      | .imm5 i => i.setWidth 64
      | .imm32 i => i.setWidth 64
      | _ => 0)]
    dstNames := if x.dstInKey h then vnames k h.dst.toList ++ (h.mdst.toList.flatMap (fun b => mnames k b x.ms)) else []
    cls := if x.e.desc.op.isLoad then x.e.desc.cls else 0 }

/-- Whether a name stands behind 15 architectural registers (10 R276). -/
def nameFull (k : Catalogue) (isMask : Bool) (n : Nat) : Bool :=
  decide (15 ≤ ((if isMask then k.mname.toList else k.vname.toList).filter (· == n)).length)

/-- A matching entry. -/
def catFind (k : Catalogue) (key : CatKey) : Option CatEntry := k.entries.find? (fun e => e.key == key)

/-- The effect of a hit (10 R274). -/
def catHit (x : VX) (h : VShape) (c : CatEntry) : State :=
  let base := match h.dst, h.mdst with
    | some g, _ => g.base
    | none, m => m.getD 0
  let s := x.s.mapTh (fun t =>
    if c.isMask then { t with m := Vector.ofFn (fun (r : Fin 16) =>
      if base ≤ r.val ∧ r.val < base + c.masks.length then c.masks.getD (r.val - base) 0 else t.m[r]) }
    else markWritten base c.vregs.length { t with v := Vector.ofFn (fun (r : Fin 32) =>
      if base ≤ r.val ∧ r.val < base + c.vregs.length then c.vregs.getD (r.val - base) VReg.zero else t.v[r]) })
  let s := s.mapCsr (fun k => { k with fflags := k.fflags ||| c.flags, cathit := k.cathit + 1, vstart := 0 })
  s.mapCore (fun k => { k with cat := catReclaim 64 { k.cat with
    entries := c :: k.cat.entries.filter (fun e => e.key != c.key)
    vname := if c.isMask then k.cat.vname
      else (c.names.zipIdx).foldl (fun v p => v.setIfInBounds (base + p.2) p.1) k.cat.vname
    mname := if c.isMask then (c.names.zipIdx).foldl (fun v p => v.setIfInBounds (base + p.2) p.1) k.cat.mname
      else k.cat.mname } })

/-- The granules a load touches (10 R278). -/
def VX.granules (x : VX) : List Nat :=
  let w := match x.e.desc.op with
    | .load _ z => 8 * z
    | _ => x.wtag.width
  ((x.actives w).flatMap (fun i =>
    match x.e.desc.op with
    | .load md z =>
      let a := (x.vaddr md z i).toNat
      [a / 65536, (a + z - 1) / 65536]
    | .ldq q8 g =>
      let a := (x.qAddr q8 (qGroup g) (i / qGroup g)).toNat
      [a / 65536, (a + qBytes q8 (qGroup g) - 1) / 65536]
    | .ldf16 => [(x.vaddr .unit 2 i).toNat / 65536]
    | .ldseg f w =>
      let a := (x.segAddr f w i 0).toNat
      [a / 65536, (a + f * w - 1) / 65536]
    | _ => [])).eraseDups

/-- What an eligible miss that ran to its end leaves: an entry, unless a load touched more than four granules (10 R275, R278). -/
def catInsert (x : VX) (h : VShape) (key : CatKey) (fl : Flags) (s : State) : State :=
  let gr := if x.e.desc.op.isLoad then x.granules else []
  if 4 < gr.length then s
  else
    s.mapCore (fun c =>
      let base := match h.dst, h.mdst with
        | some g, _ => g.base
        | none, m => m.getD 0
      let isM := h.dst.isNone
      let n := match h.dst with
        | some g => g.n
        | none => x.ms
      let e : CatEntry :=
        { key := key
          isMask := isM
          names := (List.range n).map (fun i => if isM then c.cat.mname.getD (base + i) 0 else c.cat.vname.getD (base + i) 0)
          vregs := if isM then [] else (List.range n).map (fun i => c.th.v.getD (base + i) VReg.zero)
          masks := if isM then (List.range n).map (fun i => c.th.m.getD (base + i) 0) else []
          flags := fl
          load := if x.e.desc.op.isLoad then some (x.e.desc.cls, gr) else none }
      { c with cat := catReclaim 64 { c.cat with entries := (e :: c.cat.entries.filter (fun o => o.key != key)).take 64 } })

/-! ### Issue, completion, retirement -/

/-- The trap of an entry that the replay could not fetch again (02 R44, log 22). -/
def VOp.lostCause : VOp → Option (Cause × Word)
  | .lost c v => some (c, v)
  | _ => none

/-- The head leaves the queue for execution: rows 5 to 8, gated sources, strips, the Catalogue (10 R261, R274; 02 R61). -/
def vecIssue (s : State) : State :=
  match headEntry s with
  | none => s
  | some e =>
    if e.stage != .queued then s
    else
      let x := VX.of s e
      let v := x.view
      let h := v.shape
      match e.desc.op.lostCause.or (v.checks h (v.boundIll h)) with
      | some (c, val) => vecTrap c val x.start s
      | none =>
        match emptySource x.t h with
        | some r => vecWait (poisonVal r) s
        | none =>
          let ins := if e.popped || x.isStrm then [] else (boundIn x.t (groupRegs h.srcs)).filter (fun b => !sdOut b.desc)
          match x.popAll ins s with
          | (s, some b) => vecUser .streamerr (BitVec.ofNat 64 b.reg.toNat) s
          | (s, none) =>
            let s := s.mapCore (renameV (ins.map (fun b => b.reg.toNat)))
            let e := { e with popped := e.popped || !ins.isEmpty, since := 0, stage := .issued }
            let s := leadFree e.din (if (groupRegs h.srcs).any s.csr.vfemask.getLsbD then (catLoads s).acquire else s)
            let x := { x with s := s, e := e }
            let miss := s.mapCsr (fun c => { c with catmiss := c.catmiss + 1 })
            if x.eligible h then
              match catFind s.core.cat (x.key h) with
              | some c =>
                if c.names.any (nameFull s.core.cat c.isMask) then setHead e miss
                else setHead { e with stage := .hit } (catHit x h c)
              | none => setHead e miss
            else setHead e s

/-- Operations that a stop may leave between two elements; the others stop before their first one. -/
def VOp.splits : VOp → Bool
  | .int _ | .icmp _ | .merge | .mv | .fp _ | .fcmp _ | .fcvt | .fmerge | .fma _ | .load _ _ | .store _ _ _
  | .ldq _ _ | .stq _ _ | .ldf16 | .stf16 | .ldseg _ _ | .stseg _ _ | .amo _ _ | .gl => true
  | _ => false

/-- Whether every element of an entry has performed. -/
def VEntry.allDone (e : VEntry) : Bool := e.desc.op.splits && decide (e.vl.toNat ≤ e.progress)

/-- Fresh names for the vector and mask registers that an instruction writes (10 R270). -/
def renameWritten (x : VX) (h : VShape) (c : Core) : Core :=
  let c := renameV (groupRegs h.dst.toList) c
  match h.mdst with
  | some b => renameM ((List.range x.ms).map (b + ·)) c
  | none => c

/-- What an instruction that ran to its end leaves: VSTART, flags, names, appended strips, a Catalogue entry, and
its results in the entry (06 R145; 10 R270, R275; 08 R239). -/
def vecFinish (x : VX) (h : VShape) (fl : Flags) (res : List (Reg × Word)) (s : State) : State :=
  let isTy := match x.e.desc.op with
    | .setty _ => true
    | _ => false
  let s := if isTy then s else doneAt s
  let el := x.eligible h
  let key := x.key h
  let s := if x.e.allDone then s else s.mapCore (renameWritten x h)
  let outs := if isTy then [] else (boundIn s.core.th (groupRegs h.dst.toList)).filter (fun b => sdOut b.desc)
  let (s, fl2) := outs.foldl (fun (acc : State × Flags) b =>
    let (s, f) := ({ x with s := acc.1 } : VX).append b
    (s, acc.2 ||| f)) (s, 0)
  let s := raise (fl ||| fl2) s
  let s := if el then catInsert x h key fl s else s
  setHead { x.e with stage := .done, results := res, since := 0 } s

/-! ### Queued accesses (05 R142, 07 R177) -/

/-- Whether an operation of the queue accesses memory under its class field (08 R209). -/
def VOp.accesses : VOp → Bool
  | .load _ _ | .loadff _ | .store _ _ _ | .ldq _ _ | .stq _ _ | .ldf16 | .stf16 | .ldseg _ _ | .stseg _ _
  | .amo _ _ | .gl | .sc | .push | .tplanar _ | .tpost _ | .tzero | .trenorm | .tload | .tinit _ _ | .tstat
  | .tflags | .sbind _ => true
  | _ => false

/-- An entry behind the head as it executes: it starts at its progress (10 R264). -/
def VX.behind (s : State) (e : VEntry) : VX := { s := s, e := e, start := e.progress }

/-- Whether an entry accesses memory in a class of a mask, itself or through a stream its registers are bound to (05 R142). -/
def accessesIn (k : BitVec 16) (s : State) (e : VEntry) : Bool :=
  let x := VX.behind s e
  let h := x.shape
  let rs := groupRegs (h.srcs ++ h.dst.toList) ++ (if x.isStrm then [x.strmReg.toNat] else [])
  (e.desc.op.accesses && k.getLsbD e.desc.cls.toNat) ||
    (boundIn x.t rs).any (fun b => k.getLsbD (b.desc.extractLsb' 384 4).toNat)

/-- Whether entries that still run access memory in a class of a mask (05 R142). -/
def memoryQueued (k : BitVec 16) (s : State) : Bool := (s.core.th.viq.drop s.core.th.held).any (accessesIn k s)

/-- Whether scalar issue stands still: the queue is full, or a fault-first load has not settled vl (10 R260, 07 R182). -/
def issueBlocked (s : State) : Bool :=
  decide (64 ≤ s.core.th.viq.length) || (s.core.th.viq.drop s.core.th.held).any (fun e =>
    match e.desc.op with
    | .loadff _ => true
    | _ => false)

/-- Whether an entry that still runs reads a gated register, which is an acquire when it finds it full (07 R199, R201). -/
def acquiresQueued (s : State) : Bool :=
  (s.core.th.viq.drop s.core.th.held).any (fun e =>
    (groupRegs (VX.behind s e).shape.srcs).any s.csr.vfemask.getLsbD)

/-- Whether an access of the thread is queued that arriving at a barrier or posting a nest must follow: a vector access of any
class or the strips of a stream, but not a push to a peer (07 R204, 08 R250, 18 R409). -/
def storesQueued (s : State) : Bool :=
  (s.core.th.viq.drop s.core.th.held).any (fun e => e.desc.op != .push && accessesIn 0xFFFF s e)

/-- Whether an element of a queued atomic may fall on n bytes at a location: where its indices are still to be written it may
(18 R409). -/
def rmwMeets (older : List VEntry) (s : State) (loc n : Nat) (e : VEntry) : Bool :=
  match e.desc.op with
  | .amo _ _ =>
    let x := VX.behind s e
    let h := x.shape
    let w := x.tagC.width
    older.any (fun o => !(groupRegs (VX.behind s o).shape.dst.toList).all (fun r => !(groupRegs h.srcs).contains r)) ||
      (x.actives w).any (fun i =>
        match translate s s.ctx s.dtlb .rw (x.vaddr .index (w / 8) i) with
        | (_, .ok p) => decide (loc < p.loc + w / 8) && decide (p.loc < loc + n)
        | (_, .error _) => false)
  | _ => false

/-- Whether a queued atomic of the thread may fall on n bytes at a location: updates of one location by a thread keep their
order (18 R409). -/
def rmwQueued (s : State) (loc n : Nat) : Bool :=
  let q := s.core.th.viq.drop s.core.th.held
  q.zipIdx.any (fun p => rmwMeets (q.take p.2) s loc n p.1)

/-! ### A stop in the middle of instructions (10 R263, R265; 06 R149) -/

/-- Operations whose element i reads and writes element i of its groups. -/
def VOp.aligned : VOp → Bool
  | .int _ | .icmp _ | .merge | .mv | .fp _ | .fcmp _ | .fcvt | .fmerge | .fma _ | .load _ _ | .store _ _ _
  | .ldf16 | .stf16 | .amo _ _ => true
  | _ => false

/-- Operations that leave the queue in their turn, whatever another agent does. -/
def VOp.plain : VOp → Bool
  | .red _ | .scan | .fscan | .smx | .perm _ | .ext | .mask _ | .setty _ => true
  | o => o.splits && o != .gl

/-- Operations that write memory. -/
def VOp.stores : VOp → Bool
  | .store _ _ _ | .stq _ _ | .stf16 | .stseg _ _ | .amo _ _ | .sc => true
  | _ => false

/-- The mask registers an instruction reads. -/
def VX.masksRead (x : VX) (h : VShape) : List Nat :=
  (h.msrc ++ (if x.e.desc.masked then [x.e.desc.mi.toNat] else [])).flatMap (fun b => (List.range x.ms).map (b + ·))

/-- The mask registers an instruction writes. -/
def VX.masksWritten (x : VX) (h : VShape) : List Nat := h.mdst.toList.flatMap (fun b => (List.range x.ms).map (b + ·))

/-- Whether two lists of registers share one. -/
def meetL (a b : List Nat) : Bool := a.any b.contains

/-- Whether an entry behind the head can come to its checks: it waits for nothing, and the tags it sees are those that the older
entries leave. -/
def canLeave (older : List VEntry) (s : State) (e : VEntry) : Bool :=
  let x := VX.behind s e
  let h := x.shape
  let rs := groupRegs (h.srcs ++ h.dst.toList)
  e.desc.op.plain && (boundIn x.t rs).isEmpty && rs.all (fun r => !x.t.csr.vfemask.getLsbD r) &&
    older.all (fun o => o.progress != 0 || o.allDone || !meetL (groupRegs ((VX.behind s o).shape.dst.toList)) rs)

/-- The trap that the checks of an entry behind the head raise (10 R261). -/
def checksBehind (s : State) (e : VEntry) : Option (Cause × Word) :=
  let x := VX.behind s e
  x.checks x.shape (x.boundIll x.shape)

/-- Whether an entry behind the head can have left the queue: it can come to its checks, and they pass. -/
def hasLeft (older : List VEntry) (s : State) (e : VEntry) : Bool := canLeave older s e && (checksBehind s e).isNone

/-- How far an entry can have gone past an older one that has not ended: no further than the elements it reads have been
produced, and not before that one's accesses (10 R263). -/
def pastOlder (s : State) (o e : VEntry) : Nat :=
  let xo := VX.behind s o
  let xe := VX.behind s e
  let ho := xo.shape
  let he := xe.shape
  let rd := groupRegs he.srcs
  let wr := groupRegs he.dst.toList
  let wrO := groupRegs ho.dst.toList
  if o.allDone then e.vl.toNat
  else if e.desc.op.accesses && (accessesIn (clsMask e.desc.cls) s o || e.desc.op.stores || o.desc.op.stores) then e.progress
  else if meetL wr (groupRegs ho.srcs ++ wrO) || meetL (xe.masksWritten he) (xo.masksRead ho ++ xo.masksWritten ho) ||
      meetL (xe.masksRead he) (xo.masksWritten ho) then e.progress
  else if meetL rd wrO then
    (if e.desc.op.aligned && o.desc.op.aligned && he.srcs.all (fun g => !meetL (groupRegs [g]) wrO ||
        ho.dst.toList.all (fun d => d.base == g.base && d.n == g.n && d.w == g.w)) then min o.progress e.vl.toNat
     else e.progress)
  else e.vl.toNat

/-- How far entry j can have gone past the entries before it. -/
def behindLimit (s : State) (older : List VEntry) (e : VEntry) : Nat :=
  older.foldl (fun n o => min n (pastOlder s o e)) e.vl.toNat

/-- Where an instruction stops that may stop at an element: `vstq` at the boundary of a group (07 R185). -/
def VX.stopBelow (x : VX) (lim : Nat) : Nat :=
  match x.e.desc.op with
  | .stq _ g => lim / qGroup g * qGroup g
  | _ => lim

/-- What a part of an instruction that reached element k leaves behind: the tag its destination had, for the replay, and fresh
names for the registers it wrote (06 R149; 10 R265, R270). -/
def VX.partDone (x : VX) (k : Nat) (s : State) (e : VEntry) : State × VEntry :=
  if x.start < k then
    let h := x.shape
    let s := s.mapCore (renameWritten x h)
    match h.dst with
    | some _ => (s, { e with otag := some (x.tag x.e.desc.vd) })
    | none => (s, e)
  else (s, e)

/-- Entry j, as x, performs its elements below `lim` and keeps its place; `hurt` says whether one that cannot stop between
elements had begun (06 R149). Where none is left to perform its write has completed (07 R199). -/
def vecPart (j : Nat) (x : VX) (lim : Nat) (hurt : Bool) : State :=
  let e := { x.e with stage := .queued, progress := x.start }
  let lim := x.stopBelow lim
  if !x.shape.vstartOk then setAt j { e with abandoned := e.abandoned || hurt } x.s
  else if !e.desc.op.splits || decide (lim ≤ x.start) then setAt j e x.s
  else
    match ({ x with e := { e with vl := BitVec.ofNat 15 lim }, part := decide (lim < x.vl) } : VX).run with
    | .done s fl _ =>
      let (s, e) := x.partDone lim s e
      setAt j { e with progress := lim } (raise fl s)
    | .fault s fl _ _ k =>
      let (s, e) := x.partDone k s e
      setAt j { e with progress := k } (raise fl s)
    | .wait s _ => setAt j e s

/-- The entries of the queue from the head to the one before j. -/
def olderThan (s : State) (j : Nat) : List VEntry := (s.core.th.viq.take j).drop s.core.th.held

/-- Whether some older entry that has not ended writes a register that an entry reads: the name of that register is fresh, so no
key of the Catalogue holds it (10 R272). -/
def readsFresh (s : State) (older : List VEntry) (e : VEntry) : Bool :=
  let xe := VX.behind s e
  let he := xe.shape
  older.any (fun o =>
    let xo := VX.behind s o
    !o.allDone && (meetL (groupRegs he.srcs) (groupRegs xo.shape.dst.toList) ||
      meetL (xe.masksRead he) (xo.masksWritten xo.shape)))

/-- The Catalogue entry that an eligible entry behind the head matches (10 R274, R276). -/
def matchBehind (s : State) (older : List VEntry) (e : VEntry) : Option CatEntry :=
  let x := VX.behind s e
  if x.eligible x.shape && !readsFresh s older e then
    (catFind s.core.cat (x.key x.shape)).filter (fun c => !c.names.any (nameFull s.core.cat c.isMask))
  else none

/-- An entry behind the head that is eligible and hits nothing adds to CATMISS as it executes (10 R275). -/
def missBehind (s : State) (e : VEntry) : State :=
  if (VX.behind s e).eligible (VX.behind s e).shape then s.mapCsr (fun c => { c with catmiss := c.catmiss + 1 }) else s

/-- Entry j behind the head, which has left the queue, as far as a free number lets it go: a Catalogue hit performs it whole
(10 R263, R274, R275). None where it would hit but older entries are still to read or write what a hit maps: it has not left
yet, and neither has anything after it (log 11). -/
def leftBehind (j pick : Nat) (s : State) (e : VEntry) : Option State :=
  let older := olderThan s j
  let x := VX.behind s e
  let lim := behindLimit s older e
  match matchBehind s older e with
  | some c =>
    if pick = 0 ∨ lim < x.vl ∨ !e.desc.op.splits then none
    else some (setAt j { e with progress := x.vl } (catHit x x.shape c))
  | none =>
    let n := min pick lim
    some (if n ≤ x.start then vecPart j x n (pick != 0) else vecPart j { x with s := missBehind s e } n (pick != 0))

/-- A stop of entries j, j + 1, … behind the head: as long as each can have left the queue, how far it has gone is free within
its limit (10 R263, log 11). -/
def stopBehind (draw : Nat) : Nat → Nat → State → State
  | 0, _, s => s
  | n + 1, j, s =>
    match s.core.th.viq[j]? with
    | none => s
    | some e =>
      if !hasLeft (olderThan s j) s e then s
      else
        match leftBehind j (Config.stopBehind draw j % (e.vl.toNat + 1)) s e with
        | some s => stopBehind draw n (j + 1) s
        | none => s

/-- The head's elements performed (10 R261; 06 R149). -/
def vecComplete (s : State) : State :=
  match headEntry s with
  | none => s
  | some e =>
    if e.stage != .issued then s
    else
      let x := VX.of s e
      let h := x.shape
      match x.run with
      | .done s fl res => vecFinish x h fl res s
      | .fault s fl c val at_ =>
        let (s, e) := x.partDone at_ s e
        let s := setHead { e with progress := at_, abandoned := e.abandoned || !h.vstartOk } (raise fl s)
        vecTrap c val at_ ((stopBehind s.free 64 (s.core.th.held + 1) s).draw)
      | .wait s val => vecWait val s

/-- The head retires: its results go to the registers that still wait for them (10 R261, R262), those of
an interrupted thread to its own g24 to g31 (log 53). -/
def vecRetire (s : State) : State :=
  match headEntry s with
  | none => s
  | some e =>
    match e.stage with
    | .done | .hit =>
      let s := (leadTake e s).mapTh (fun t => { t with
        viq := t.viq.eraseIdx t.held
        csr := { t.csr with instret := t.csr.instret + 1 } })
      (s.mapTh (fun t => e.results.foldl (fun (t : Thread) p =>
        if e.srq.contains p.1 then
          { t.setResult e.banked p.1 p.2 with lat := t.lat.filter (fun q => q.reg != p.1) }
        else t) t)).draw
    | _ => s

/-- Whether the vector unit took a trap or a handler between two states. -/
def vecLeft (s t : State) : Bool := t.core.level != s.core.level || t.csr.utActive != s.csr.utActive || t.core.run != s.core.run

/-- The vector unit stopped by a pre-emption: the head, where it can issue, has performed some of its elements, and so have those
behind it; how many is free (10 R263, log 11). -/
def vecStop (s : State) : State :=
  let t := vecIssue s
  if vecLeft s t then s
  else
    match headEntry t with
    | none => s
    | some e =>
      match e.stage with
      | .hit | .done => vecRetire t
      | .issued =>
        let t := vecPart t.core.th.held (VX.of t e) (Config.stopAt t.free % (e.vl.toNat + 1)) true
        (stopBehind t.free 64 (t.core.th.held + 1) t).draw
      | _ => s

/-- Whether the entries from the one after the head to the one before j have left the queue (10 R261). -/
def allLeft (j : Nat) (s : State) : Bool :=
  ((List.range j).drop (s.core.th.held + 1)).all (fun i => ((s.core.th.viq[i]?).map (hasLeft (olderThan s i) s)).getD false)

/-- Entry j fails its checks as it leaves the queue, or performs its elements up to its limit and fails an access there: the
vector trap is its own, and those behind it stop as well (10 R261, R263). -/
def behindFault (j : Nat) (s : State) : Option State :=
  match s.core.th.viq[j]? with
  | none => none
  | some e =>
    let older := olderThan s j
    let lim := behindLimit s older e
    let x := VX.behind s e
    if !allLeft j s || !canLeave older s e then none
    else if let some (c, val) := checksBehind s e then some (vecTrapAt j c val x.start s.draw)
    else if !x.shape.vstartOk || !e.desc.op.splits || decide (lim ≤ x.start) || (matchBehind s older e).isSome then none
    else
      let x := { x with s := missBehind s e }
      let n := if lim < x.vl then x.stopBelow lim else lim
      match ({ x with e := { e with vl := BitVec.ofNat 15 n }, part := true } : VX).run with
      | .fault s fl c val k =>
        let (s, e) := x.partDone k s e
        let s := setAt j { e with progress := k } (raise fl s)
        some (vecTrapAt j c val k ((stopBehind s.free 64 (j + 1) s).draw))
      | _ => none

/-- An entry behind the head fails before the head has ended (10 R263): which one, and how far those before it have come, is free
(log 11). -/
def overtake (s : State) : Option State :=
  let h := s.core.th.held
  if s.core.th.viq.length ≤ h + 1 then none
  else
    let j := h + Config.overtakes s.free % 64
    let t := vecIssue s
    if j = h ∨ vecLeft s t then none
    else
      match headEntry t with
      | none => none
      | some e =>
        if e.stage != .issued || !e.desc.op.plain then none
        else
          let t := vecPart h (VX.of t e) (Config.stopAt t.free % (e.vl.toNat + 1)) true
          behindFault j (stopBehind t.free (j - h - 1) (h + 1) t)

/-- The head runs as far as it can. -/
def vecRun (s : State) : State := vecRetire (vecComplete (vecIssue s))

/-! ### Entering the queue -/

/-- The scalar registers an instruction captures: x1, x2, x3, and those its results go to. -/
structure VPorts where
  r1 : Option Reg
  r2 : Option Reg
  r3 : Option Reg
  res : List Reg
  deriving DecidableEq, Repr

/-- The SRQ entries an operation takes (10 R262). -/
def VOp.returns : VOp → Nat
  | .smx => 3
  | .red _ | .ext | .mask .pop | .mask .first | .tplanar _ | .tstat | .tflags | .tpost _ | .epost | .sstat => 1
  | _ => 0

/-- The entries of the SRQ in use, of 16: each is held until its value is returned, whether a younger write has replaced it or
not (10 R262). -/
def srqUsed (s : State) : Nat := (s.core.th.viq.map (fun e => max e.desc.op.returns e.srq.length)).foldl (· + ·) 0

/-- An entry as it is captured (10 R260). -/
def captured (s : State) (d : VDesc) (p : VPorts) : VEntry :=
  let rd := fun (k : Nat) (r : Option Reg) => match r with
    | some r => opVal s k r
    | none => 0
  { desc := d, pc := s.core.th.pc, x1 := rd 0 p.r1, x2 := rd 1 p.r2, x3 := rd 2 p.r3
    vl := s.csr.vl, vtype := s.csr.vtype, granted := s.csr.leaseGranted, frm := s.csr.frm, ftz := s.csr.ftz
    progress := 0, abandoned := false, stage := .queued, popped := false, srq := p.res, results := [], since := 0
    din := s.core.th.din, ctx := s.ctx, cat := catOn s.csr d, banked := s.core.banked, spin := s.csr.emptyspin, otag := none }

/-- The vector instruction leaves the scalar unit: as `retire`, but it counts in INSTRET only when it retires. -/
def leaveScalar (st : BitVec 2) (n : Nat) (s : State) : State :=
  (retire st n s).mapCsr (fun c => { c with instret := c.instret - 1 })

/-- A vector instruction of n bytes at issue (10 R260, R262): it waits for a queue entry and result entries, and is
captured. -/
def vecEnter (n : Nat) (st : BitVec 2) (d : VDesc) (p : VPorts) (s : State) : State :=
  let reads := (p.r1.toList ++ p.r2.toList ++ p.r3.toList)
  scalar reads s (fun s =>
    if 64 ≤ s.core.th.viq.length ∨ 16 < srqUsed s + p.res.length then stall s
    else
      let e := captured s d p
      let s := s.mapTh (fun t => { t with viq := t.viq ++ [e], vecSeen := true })
      leaveScalar st n s)

end Sys2Proof.Machine
end

