-- ==== Sys2Proof/Machine/LoadStore.lean ====
section
/-! DEFINITION. Scalar loads and stores (05 R123 to R126, Table 05-4; 02 Table 02-7). A plain access
waits for the queued vector accesses of its class (07 R177); otherwise accesses perform when their instruction runs (log 5). -/

namespace Sys2Proof.Machine

/-- The byte offset of a signed count of units of z bytes (02 Table 02-3). -/
def offUnits {n : Nat} (o : BitVec n) (z : Nat) : Word := o.signExtend 64 * BitVec.ofNat 64 z

/-- A scalar access that reads registers `rs`: it waits for the queued instructions that read gated registers, since each of
them is an acquire (07 R177, R201; 18 R409). -/
def orderedAccess (rs : List Reg) (s : State) (body : State → State) : State :=
  scalar rs s (fun s => if acquiresQueued s then stall s else body s)

/-- A plain scalar access of a class: it also waits for the queued vector accesses of the class (07 R177). -/
def plainAccess (c : BitVec 4) (rs : List Reg) (s : State) (body : State → State) : State :=
  orderedAccess rs s (fun s => if memoryQueued (clsMask c) s then stall s else body s)

/-- A load of z bytes at gs1 plus an offset, extended to 64 bits (05 R124, R125). -/
def load (n z : Nat) (signed : Bool) (d a : Reg) (off : Word) (c : BitVec 4) (st : BitVec 2) (s : State) : Result :=
  .next (plainAccess c [a] s (fun s =>
    let va := opVal s 0 a + off
    match loadScalar s .read va z with
    | (s, .error c) => trap c va s
    | (s, .ok (_, v)) =>
      let x := BitVec.ofNat (8 * z) v
      retire st n (writeLat s d .interlocked (if signed then x.signExtend 64 else x.setWidth 64))))

/-- A store of z bytes of a data register (05 R124, R125). -/
def store (n z : Nat) (d a : Reg) (off : Word) (c : BitVec 4) (st : BitVec 2) (s : State) : Result :=
  .next (plainAccess c [a, d] s (fun s =>
    let va := opVal s 0 a + off
    let v := opVal s 1 d
    match storeScalar s va z (v.toNat % 2 ^ (8 * z)) with
    | (s, some c) => trap c va s
    | (s, none) => retire st n s))

/-- `ld8` (05 Table 05-4). -/
def execLd8 (d a : Reg) (o : BitVec 7) (c : BitVec 4) (st : BitVec 2) (s : State) : Result :=
  load 4 1 false d a (offUnits o 1) c st s

/-- `ld8s` (05 Table 05-4). -/
def execLd8s (d a : Reg) (o : BitVec 7) (c : BitVec 4) (st : BitVec 2) (s : State) : Result :=
  load 4 1 true d a (offUnits o 1) c st s

/-- `ld16` (05 Table 05-4). -/
def execLd16 (d a : Reg) (o : BitVec 7) (c : BitVec 4) (st : BitVec 2) (s : State) : Result :=
  load 4 2 false d a (offUnits o 2) c st s

/-- `ld16s` (05 Table 05-4). -/
def execLd16s (d a : Reg) (o : BitVec 7) (c : BitVec 4) (st : BitVec 2) (s : State) : Result :=
  load 4 2 true d a (offUnits o 2) c st s

/-- `ld32` (05 Table 05-4). -/
def execLd32 (d a : Reg) (o : BitVec 7) (c : BitVec 4) (st : BitVec 2) (s : State) : Result :=
  load 4 4 false d a (offUnits o 4) c st s

/-- `ld32s` (05 Table 05-4). -/
def execLd32s (d a : Reg) (o : BitVec 7) (c : BitVec 4) (st : BitVec 2) (s : State) : Result :=
  load 4 4 true d a (offUnits o 4) c st s

/-- `ld64` (05 Table 05-4). -/
def execLd64 (d a : Reg) (o : BitVec 7) (c : BitVec 4) (st : BitVec 2) (s : State) : Result :=
  load 4 8 false d a (offUnits o 8) c st s

/-- `st8` (05 Table 05-4). -/
def execSt8 (d a : Reg) (o : BitVec 7) (c : BitVec 4) (st : BitVec 2) (s : State) : Result :=
  store 4 1 d a (offUnits o 1) c st s

/-- `st16` (05 Table 05-4). -/
def execSt16 (d a : Reg) (o : BitVec 7) (c : BitVec 4) (st : BitVec 2) (s : State) : Result :=
  store 4 2 d a (offUnits o 2) c st s

/-- `st32` (05 Table 05-4). -/
def execSt32 (d a : Reg) (o : BitVec 7) (c : BitVec 4) (st : BitVec 2) (s : State) : Result :=
  store 4 4 d a (offUnits o 4) c st s

/-- `st64` (05 Table 05-4). -/
def execSt64 (d a : Reg) (o : BitVec 7) (c : BitVec 4) (st : BitVec 2) (s : State) : Result :=
  store 4 8 d a (offUnits o 8) c st s

/-- `c.ld64` (02 Table 02-7, R54). -/
def execCLd64 (a b : Reg) (s : State) : Result := unlessReserved (a == 0) (load 2 8 false a b 0 0 0) s

/-- `c.st64` (02 Table 02-7, R54). -/
def execCSt64 (a b : Reg) (s : State) : Result := unlessReserved (a == 0) (store 2 8 a b 0 0 0) s

end Sys2Proof.Machine
end

