-- ==== Sys2Proof/Machine/Atomics.lean ====
section
/-! DEFINITION. Acquire loads, release stores and scalar atomics (07 R188 to R190, Tables 07-1 and 07-5). -/

namespace Sys2Proof.Machine

/-- The width in bytes that a width code names (02 Table 02-5). -/
def widthOf (w : BitVec 2) : Nat := 2 ^ w.toNat

/-- `lacq` (07 R188). -/
def execLacq (d a : Reg) (imm : BitVec 11) (w scope : BitVec 2) (cls : BitVec 4) (st : BitVec 2) (s : State) : Result :=
  .next (orderedAccess [a] s (fun s =>
    let z := widthOf w
    let va := opVal s 0 a + offUnits imm z
    match loadScalar s .read va z with
    | (s, .error c) => trap c va s
    | (s, .ok (p, v)) =>
      retire st 8 (writeLat (acquireOf p.loc scope (clsMask cls) s) d .interlocked (BitVec.ofNat 64 v))))

/-- `srel` (07 R188): what was buffered before it drains first. -/
def execSrel (b a : Reg) (imm : BitVec 11) (w scope : BitVec 2) (_cls : BitVec 4) (st : BitVec 2) (s : State) : Result :=
  let _ := scope
  .next (orderedAccess [a, b] s (fun s =>
    let z := widthOf w
    let va := opVal s 0 a + offUnits imm z
    let v := opVal s 1 b
    match storeScalar s va z (v.toNat % 2 ^ (8 * z)) with
    | (s, some c) => trap c va s
    | (s, none) => retire st 8 s.release))

/-- The orderings of an atomic: acquire in bit 0, release in bit 1 (02 Table 02-5). -/
def amoOrder (loc : Nat) (ord scope : BitVec 2) (cls : BitVec 4) (s : State) : State :=
  let s := if ord.getLsbD 1 then s.release else s
  if ord.getLsbD 0 then acquireOf loc scope (clsMask cls) s else s

/-- A scalar atomic: `f` gives, from the width in bits, the old value and the operands, what is written, if
anything; `sg` says that the result is sign-extended (07 R189). -/
def amo (f : Nat → Nat → Nat → Nat → Option Nat) (sg : Bool) (d a b e : Reg) (imm : BitVec 11) (ord : BitVec 2)
    (wide : Bool) (scope : BitVec 2) (cls : BitVec 4) (st : BitVec 2) (s : State) : Result :=
  .next (orderedAccess [a, b, e] s (fun s =>
    let z := if wide then 8 else 4
    let va := opVal s 0 a + offUnits imm z
    let x := (opVal s 1 b).toNat % 2 ^ (8 * z)
    let y := (opVal s 2 e).toNat % 2 ^ (8 * z)
    if va.toNat % z != 0 then trap .align va s
    else
      match translate s s.ctx s.dtlb .rw va with
      | (s, .error c) => trap c va s
      | (s, .ok p) =>
        if anyPoisoned s.dev z p.loc then trap .poison va (s.mapDev (logUnmapped p.loc))
        else if rmwQueued s p.loc z then stall s
        else
          let old := readNat s.dev.mem p.key z p.loc
          let s := match f (8 * z) old x y with
            | some v => catWrite va z (storeRmw (setAD p s) p.key p.loc z v false)
            | none => (setAD p.readOnly s).mapDev (readLine sqdDie p.loc)
          let r := BitVec.ofNat (8 * z) old
          retire st 8 (writeLat (amoOrder p.loc ord scope cls s) d .interlocked
            (if sg then r.signExtend 64 else r.setWidth 64))))

/-- The lesser of two values of w bits read as signed. -/
def signedMin (w x y : Nat) : Nat := if (BitVec.ofNat w y).slt (BitVec.ofNat w x) then y else x
/-- The greater. -/
def signedMax (w x y : Nat) : Nat := if (BitVec.ofNat w x).slt (BitVec.ofNat w y) then y else x

/-- `aswap` (07 Table 07-5). -/
def execAswap (d a b : Reg) (imm : BitVec 11) (ord : BitVec 2) (wide : Bool) (scope : BitVec 2) (cls : BitVec 4)
    (st : BitVec 2) (s : State) : Result :=
  amo (fun _ _ x _ => some x) false d a b 0 imm ord wide scope cls st s

/-- `aadd` (07 Table 07-5). -/
def execAadd (d a b : Reg) (imm : BitVec 11) (ord : BitVec 2) (wide : Bool) (scope : BitVec 2) (cls : BitVec 4)
    (st : BitVec 2) (s : State) : Result :=
  amo (fun w old x _ => some ((old + x) % 2 ^ w)) false d a b 0 imm ord wide scope cls st s

/-- `aand` (07 Table 07-5). -/
def execAand (d a b : Reg) (imm : BitVec 11) (ord : BitVec 2) (wide : Bool) (scope : BitVec 2) (cls : BitVec 4)
    (st : BitVec 2) (s : State) : Result :=
  amo (fun _ old x _ => some (old &&& x)) false d a b 0 imm ord wide scope cls st s

/-- `aor` (07 Table 07-5). -/
def execAor (d a b : Reg) (imm : BitVec 11) (ord : BitVec 2) (wide : Bool) (scope : BitVec 2) (cls : BitVec 4)
    (st : BitVec 2) (s : State) : Result :=
  amo (fun _ old x _ => some (old ||| x)) false d a b 0 imm ord wide scope cls st s

/-- `axor` (07 Table 07-5). -/
def execAxor (d a b : Reg) (imm : BitVec 11) (ord : BitVec 2) (wide : Bool) (scope : BitVec 2) (cls : BitVec 4)
    (st : BitVec 2) (s : State) : Result :=
  amo (fun _ old x _ => some (old ^^^ x)) false d a b 0 imm ord wide scope cls st s

/-- `amin` (07 Table 07-5). -/
def execAmin (d a b : Reg) (imm : BitVec 11) (ord : BitVec 2) (wide : Bool) (scope : BitVec 2) (cls : BitVec 4)
    (st : BitVec 2) (s : State) : Result :=
  amo (fun w old x _ => some (signedMin w old x)) true d a b 0 imm ord wide scope cls st s

/-- `amax` (07 Table 07-5). -/
def execAmax (d a b : Reg) (imm : BitVec 11) (ord : BitVec 2) (wide : Bool) (scope : BitVec 2) (cls : BitVec 4)
    (st : BitVec 2) (s : State) : Result :=
  amo (fun w old x _ => some (signedMax w old x)) true d a b 0 imm ord wide scope cls st s

/-- `aminn` (07 Table 07-5). -/
def execAminn (d a b : Reg) (imm : BitVec 11) (ord : BitVec 2) (wide : Bool) (scope : BitVec 2) (cls : BitVec 4)
    (st : BitVec 2) (s : State) : Result :=
  amo (fun _ old x _ => some (min old x)) false d a b 0 imm ord wide scope cls st s

/-- `amaxn` (07 Table 07-5). -/
def execAmaxn (d a b : Reg) (imm : BitVec 11) (ord : BitVec 2) (wide : Bool) (scope : BitVec 2) (cls : BitVec 4)
    (st : BitVec 2) (s : State) : Result :=
  amo (fun _ old x _ => some (max old x)) false d a b 0 imm ord wide scope cls st s

/-- `ainc` (07 Table 07-5). -/
def execAinc (d a b : Reg) (imm : BitVec 11) (ord : BitVec 2) (wide : Bool) (scope : BitVec 2) (cls : BitVec 4)
    (st : BitVec 2) (s : State) : Result :=
  amo (fun _ old x _ => some (if x ≤ old then 0 else old + 1)) false d a b 0 imm ord wide scope cls st s

/-- `adec` (07 Table 07-5). -/
def execAdec (d a b : Reg) (imm : BitVec 11) (ord : BitVec 2) (wide : Bool) (scope : BitVec 2) (cls : BitVec 4)
    (st : BitVec 2) (s : State) : Result :=
  amo (fun _ old x _ => some (if old = 0 ∨ x < old then x else old - 1)) false d a b 0 imm ord wide scope cls st s

/-- `abadd`: writes where the exact sum is within the bound gs3 (07 Table 07-5). -/
def execAbadd (d a b e : Reg) (imm : BitVec 11) (ord : BitVec 2) (wide : Bool) (scope : BitVec 2) (cls : BitVec 4)
    (st : BitVec 2) (s : State) : Result :=
  amo (fun _ old x y => if old + x ≤ y then some (old + x) else none) false d a b e imm ord wide scope cls st s

/-- `acas`: writes where the old value equals gs3 (07 Table 07-5). -/
def execAcas (d a b e : Reg) (imm : BitVec 11) (ord : BitVec 2) (wide : Bool) (scope : BitVec 2) (cls : BitVec 4)
    (st : BitVec 2) (s : State) : Result :=
  amo (fun _ old x y => if old = y then some x else none) false d a b e imm ord wide scope cls st s

/-- `ll`: the reservation is on the 128-byte granule (07 R190). -/
def execLl (d a : Reg) (imm : BitVec 11) (ord : BitVec 2) (wide : Bool) (scope : BitVec 2) (cls : BitVec 4)
    (st : BitVec 2) (s : State) : Result :=
  .next (orderedAccess [a] s (fun s =>
    let z := if wide then 8 else 4
    let va := opVal s 0 a + offUnits imm z
    match loadScalar s .read va z with
    | (s, .error c) => trap c va s
    | (s, .ok (p, v)) =>
      let s := s.mapTh (fun t => { t with resv := some (p.loc / 128, s.dev.clk) })
      retire st 8 (writeLat (amoOrder p.loc ord scope cls s) d .interlocked (BitVec.ofNat 64 v))))

/-- Whether the thread's reservation is intact and covers a location (07 R190). -/
def resvCovers (s : State) (loc : Nat) : Bool :=
  match s.core.th.resv with
  | some (g, t0) => g == loc / 128 && decide (s.dev.clk < t0 + 4096)
  | none => false

/-- `sc` (07 R190). -/
def execSc (d a b : Reg) (imm : BitVec 11) (ord : BitVec 2) (wide : Bool) (scope : BitVec 2) (cls : BitVec 4)
    (st : BitVec 2) (s : State) : Result :=
  .next (orderedAccess [a, b] s (fun s =>
    let z := if wide then 8 else 4
    let va := opVal s 0 a + offUnits imm z
    let x := (opVal s 1 b).toNat % 2 ^ (8 * z)
    if va.toNat % z != 0 then trap .align va s
    else
      match translate s s.ctx s.dtlb .write va with
      | (s, .error c) => trap c va s
      | (s, .ok p) => if rmwQueued s p.loc z then stall s else
        let ok := resvCovers s p.loc
        let s := if ok then catWrite va z (storeRmw (setAD p s) p.key p.loc z x false) else s.mapDev (readLine sqdDie p.loc)
        let s := s.mapTh (fun t => { t with resv := none })
        retire st 8 (writeLat (amoOrder p.loc ord scope cls s) d .interlocked (if ok then 0 else 1))))

end Sys2Proof.Machine
end

