-- ==== Sys2Proof/Machine/Barrier.lean ====
section
/-! DEFINITION. Barriers and token reads (07 R203 to R207; 01 R33). -/

namespace Sys2Proof.Machine

/-- A barrier register of the running core's cluster. -/
def barOf (s : State) (n : BitVec 3) : Bar := (s.cluster (s.at_ / 8)).bars[n.toNat]'n.isLt

/-- A barrier register changed. -/
def setBar (n : BitVec 3) (b : Bar) (s : State) : State :=
  s.mapCluster (s.at_ / 8) (fun c => { c with bars := c.bars.set n.toNat b n.isLt })

/-- One arrival: the update in which COUNT reaches TARGET starts the next generation (01 R33). -/
def Bar.arrive (b : Bar) : Bar :=
  if b.count + 1 = b.target then { b with count := 0, gen := b.gen + 1 } else { b with count := b.count + 1 }

/-- A write of TARGET (07 R204). -/
def Bar.setTarget (b : Bar) (t : BitVec 16) : Bar :=
  if t ≠ 0 ∧ t.toNat ≤ b.count.toNat then ⟨b.gen + 1, 0, t⟩ else { b with target := t }

/-- `bset` (07 R204). -/
def execBset (n : BitVec 3) (a : Reg) (st : BitVec 2) (s : State) : Result :=
  .next (scalar [a] s (fun s => retire st 8 (setBar n ((barOf s n).setTarget ((opVal s 0 a).setWidth 16)) s)))

/-- `barr`: waits for queued vector accesses, releases, arrives (07 R204). -/
def execBarr (d : Reg) (n : BitVec 3) (scope st : BitVec 2) (s : State) : Result :=
  unlessReserved (scope == 0) (fun s => .next (scalar [] s (fun s =>
    let b := barOf s n
    if b.target = 0 then trap .illegal 0 s
    else if storesQueued s || acquiresQueued s then waiting s
    else retire st 8 (writeLat (setBar n b.arrive s.release) d .interlocked (b.gen.setWidth 64))))) s

/-- The nest of the running thread. -/
def myNest (s : State) : Option Nest := s.dev.walker.nests.find? (fun n => n.seq == s.core.th.nest)

/-- Whether the other members of a gang have completed a generation: what they do is not seen from this device, so
at each try the answer is free; never once a member has failed (07 R206, log 20). -/
def gangReady (scope : BitVec 2) (s : State) : Bool :=
  scope != 3 ||
    (match myNest s with
     | some n => !n.record.getLsbD 12 || (!n.gangLate && Config.remoteDone s.free)
     | none => true)

/-- The acquire of a barrier: at gang scope the release of another member may carry a TIME up to 1 µs ahead (18 R413). -/
def barAcquire (scope : BitVec 2) (s : State) : State :=
  let s := acquireAt scope 0xFFFF s
  if scope = 3 ∧ (myNest s).any (fun n => n.record.getLsbD 12) then (s.raiseFloor (Config.remoteLead s.free % 1001)).draw else s

/-- A wait at gang scope of a thread whose gang did not form in time makes GANGFAIL pending (14 R348). -/
def gangWait (scope : BitVec 2) (s : State) : State :=
  match myNest s with
  | some n =>
    if scope = 3 ∧ n.gangLate then s.mapCore (fun c => { c with gangfail := some (n.record.extractLsb' (8 * 0x68) 32) }) else s
  | none => s

/-- Whether a generation has completed: GEN is ahead of it by 1 to 2^31 (07 R204). -/
def genDone (b : Bar) (g : BitVec 32) : Bool :=
  decide (1 ≤ (b.gen - g).toNat) && decide ((b.gen - g).toNat ≤ 2 ^ 31)

/-- `bwait`: never EMPTY (07 R204). -/
def execBwait (n : BitVec 3) (a : Reg) (scope st : BitVec 2) (s : State) : Result :=
  unlessReserved (scope == 0) (fun s => .next (scalar [a] s (fun s =>
    if genDone (barOf s n) ((opVal s 0 a).setWidth 32) && gangReady scope s then
      retire st 8 (barAcquire scope s)
    else (waiting (gangWait scope s)).draw))) s

/-- The wait of a `bsync` that has arrived. -/
def bsyncWait (n : BitVec 3) (g : BitVec 32) (scope st : BitVec 2) (s : State) : State :=
  if genDone (barOf s n) g && gangReady scope s then
    retire st 8 (barAcquire scope (s.mapTh (fun t => { t with arrival := none })))
  else (waiting (gangWait scope s)).draw

/-- `bsync` (07 R205). -/
def execBsync (n : BitVec 3) (scope st : BitVec 2) (s : State) : Result :=
  unlessReserved (scope == 0) (fun s => .next (scalar [] s (fun s =>
    let arrive := fun (s : State) =>
      let b := barOf s n
      if b.target = 0 then trap .illegal 0 s
      else if storesQueued s || acquiresQueued s then waiting s
      else
        let s := (setBar n b.arrive s.release).mapTh (fun t => { t with arrival := some (n, b.gen, t.pc) })
        bsyncWait n b.gen scope st s
    match s.core.th.arrival with
    | some (k, g, _) =>
      if k = n then bsyncWait n g scope st s else arrive (s.mapTh (fun t => { t with arrival := none }))
    | none => arrive s))) s

/-- `tsread` (07 R207). -/
def execTsread (d : Reg) (k : BitVec 6) (st : BitVec 2) (s : State) : Result :=
  .next (scalar [] s (fun s => if acquiresQueued s then stall s else
    let v := (s.cluster (s.at_ / 8)).tokens[k.toNat]'k.isLt
    retire st 8 (writeLat (acquireAt 1 0xFFFF s) d .interlocked (v.setWidth 64))))

end Sys2Proof.Machine
end

