-- ==== Sys2Proof/Machine/CsrInstr.lean ====
section
/-! DEFINITION. CSR instructions (05 R130; 01 R34 to R36; 21 R453) and the vector-configuration members
that only write CSRs or tags on the scalar side (06 R152, R153, R155). -/

namespace Sys2Proof.Machine

/-- Whether a level reaches a CSR of a level. -/
def Level.allows (have_ need : Level) : Bool := decide (need.num ≤ have_.num)

/-- The latency class of a CSR's read (02 Table 02-8). -/
def csrLat (n : Nat) : Lat := if csrSync n then .interlocked else .alu

/-- Whether the write of a CSR waits: TBCFG for work into its ways (17 R386). -/
def csrWriteWaits (n : Nat) (v : Word) (s : State) : Bool := n == 0x070 && tbcfgWaits v s

/-- The register whose first use a user-level write of tags traps on (21 R453). -/
def csrFirstUse (n : Nat) (v : Word) (s : State) : Option Nat :=
  if s.core.level != .user then none
  else if n = 0x015 then vtagsUnloaded false v s
  else if n = 0x016 then vtagsUnloaded true v s
  else none

/-- The read and write of a CSR that passed its checks (05 R130): `new` is none where nothing is written. -/
def csrAct (n : Nat) (d : Reg) (st : BitVec 2) (old : Word) (new : Option Word) (s : State) : State :=
  match new with
  | none => retire st 4 (writeLat s d (csrLat n) old)
  | some v =>
    match csrFirstUse n v s with
    | some r => trap .firstuse (BitVec.ofNat 64 r) (noteFirstUse r s)
    | none =>
      if csrWriteWaits n v s then stall s
      else retire st 4 (writeLat (csrWrite n v s) d (csrLat n) old)

/-- A CSR instruction: `f` gives the value written from the old value and gs1 (05 R130, R143). -/
def csrOp (f : Word → Word → Word) (always : Bool) (d a : Reg) (c : BitVec 12) (st : BitVec 2) (s : State) : Result :=
  let n := c.toNat
  match csrLevel n with
  | none => .next (trap .illegal (BitVec.ofNat 64 n) s)
  | some l =>
    if !s.core.level.allows l then .next (trap .priv (BitVec.ofNat 64 n) s)
    else
      .next (scalar [a] s (fun s =>
        if csrSync n && vecBusy s then stall s
        else
          let old := csrRead s n
          csrAct n d st old (if always || a != 0 then some (f old (opVal s 0 a)) else none) s))

/-- `csrrw` (05 R130). -/
def execCsrrw (d a : Reg) (c : BitVec 12) (st : BitVec 2) (s : State) : Result :=
  csrOp (fun _ x => x) true d a c st s

/-- `csrrs` (05 R130). -/
def execCsrrs (d a : Reg) (c : BitVec 12) (st : BitVec 2) (s : State) : Result :=
  csrOp (fun old x => old ||| x) false d a c st s

/-- `csrrc` (05 R130). -/
def execCsrrc (d a : Reg) (c : BitVec 12) (st : BitVec 2) (s : State) : Result :=
  csrOp (fun old x => old &&& ~~~x) false d a c st s

end Sys2Proof.Machine
end

