-- ==== Sys2Proof/Decode.lean ====
section
/-! DEFINITION. From bits to instructions and back (02 R43 to R54, R59; 03 R64, R66).
`decode` is total on any bytes and rejects by name; `encode` is written from the same tables.
The section is noncomputable because Lean's compiler has no code for an inductive of more than 244 constructors
with fields; the kernel evaluates every definition here. -/

namespace Sys2Proof

noncomputable section

/-- Why some bytes are no instruction. -/
inductive DecodeErr where
  /-- The list ends before the instruction does. -/
  | short
  /-- A reserved encoding (02 R59). -/
  | reserved
  deriving DecidableEq, Repr

/-- W[31:27] of a 32-bit word (02 Table 02-1). -/
def wF31 (w : BitVec 32) : BitVec 5 := w.extractLsb' 27 5
/-- W[26:22]. -/
def wF26 (w : BitVec 32) : BitVec 5 := w.extractLsb' 22 5
/-- W[21:17]. -/
def wF21 (w : BitVec 32) : BitVec 5 := w.extractLsb' 17 5
/-- W[16], the X bit. -/
def wF16 (w : BitVec 32) : BitVec 1 := w.extractLsb' 16 1
/-- W[13:12], the stall field (02 R45). -/
def wSt (w : BitVec 32) : BitVec 2 := w.extractLsb' 12 2
/-- W[11:6], the major opcode. -/
def wOp (w : BitVec 32) : BitVec 6 := w.extractLsb' 6 6
/-- W[5:0]. -/
def wLo (w : BitVec 32) : BitVec 6 := w.extractLsb' 0 6
/-- W[16] as a truth value. -/
def wX (w : BitVec 32) : Bool := wF16 w == 1
/-- The S bit of the M format, W[27]. -/
def wS (w : BitVec 32) : BitVec 1 := (wF31 w).extractLsb' 0 1
/-- The class field of the M format, W[31:28]. -/
def wCls (w : BitVec 32) : BitVec 4 := (wF31 w).extractLsb' 1 4
/-- The shift amount {X, rs2} of SHI (05 R117). -/
def wSh (w : BitVec 32) : BitVec 6 := wF16 w ++ wF31 w
/-- imm12 of the I and B formats. -/
def wImm12 (w : BitVec 32) : BitVec 12 := wF31 w ++ wF16 w ++ wLo w
/-- imm17 of the U and J formats. -/
def wImm17 (w : BitVec 32) : BitVec 17 := wF31 w ++ wF26 w ++ wF16 w ++ wLo w
/-- off7 of the M format. -/
def wOff7 (w : BitVec 32) : BitVec 7 := wF16 w ++ wLo w
/-- The class field of the VM format, W[5:2]. -/
def wVmCls (w : BitVec 32) : BitVec 4 := (wLo w).extractLsb' 2 4
/-- The mode field of the VM format, W[1:0]. -/
def wMode (w : BitVec 32) : BitVec 2 := (wLo w).extractLsb' 0 2
/-- The FM variant {W[16], W[0]} (02 R45). -/
def wVar (w : BitVec 32) : BitVec 2 := wF16 w ++ (wLo w).extractLsb' 0 1
/-- rs3 of the FM format, W[5:1]. -/
def wRs3 (w : BitVec 32) : BitVec 5 := (wLo w).extractLsb' 1 5
/-- mask16 of FENCE, {W[31:22], W[5:0]} (05 R140). -/
def wMask16 (w : BitVec 32) : BitVec 16 := wF31 w ++ wF26 w ++ wLo w
/-- The scope of FENCE, W[18:17]. -/
def wScope (w : BitVec 32) : BitVec 2 := (wF21 w).extractLsb' 0 2
/-- The kind of FENCE, W[21:19]. -/
def wKind (w : BitVec 32) : BitVec 3 := (wF21 w).extractLsb' 2 3

/-- A 32-bit word from its seven fields (02 R45). -/
def mk32 (f31 f26 f21 : BitVec 5) (f16 : BitVec 1) (st : BitVec 2) (op lo : BitVec 6) : BitVec 32 :=
  f31 ++ f26 ++ f21 ++ f16 ++ 2#2 ++ st ++ op ++ lo

/-- A unary VFP member: its .VV form with W[31:27] zero, or its .VS form with vs2 and gs (06 R144, R158). -/
def mkUnary (d : BitVec 5) (a : BitVec 5 × Option (BitVec 5)) (m : Bool) (st : BitVec 2) (f6 : BitVec 6) : BitVec 32 :=
  match a with
  | (a, none) => mk32 0#5 a d (BitVec.ofBool m) st 42 f6
  | (a, some g) => mk32 a g d (BitVec.ofBool m) st 43 f6

/-- P0[14:10] of a compressed word (02 R53). -/
def cOp (p : BitVec 16) : BitVec 5 := p.extractLsb' 10 5
/-- Field A, P0[9:5]. -/
def cA (p : BitVec 16) : BitVec 5 := p.extractLsb' 5 5
/-- Field B, P0[4:0]. -/
def cB (p : BitVec 16) : BitVec 5 := p.extractLsb' 0 5
/-- The offset {A, B} of c.j. -/
def cImm10 (p : BitVec 16) : BitVec 10 := cA p ++ cB p
/-- A compressed word from its fields. -/
def mk16 (op a b : BitVec 5) : BitVec 16 := 0#1 ++ op ++ a ++ b

/-- Major Alu, opcode 1: the member in W[5:0] (03 R64). -/
def decAlu (w : BitVec 32) : Option Instr :=
  match (wLo w).toNat with
  | 0 => if wF16 w = 0 then some (.add (wF21 w) (wF26 w) (wF31 w) (wSt w)) else none
  | 1 => if wF16 w = 0 then some (.sub (wF21 w) (wF26 w) (wF31 w) (wSt w)) else none
  | 2 => if wF16 w = 0 then some (.and (wF21 w) (wF26 w) (wF31 w) (wSt w)) else none
  | 3 => if wF16 w = 0 then some (.or (wF21 w) (wF26 w) (wF31 w) (wSt w)) else none
  | 4 => if wF16 w = 0 then some (.xor (wF21 w) (wF26 w) (wF31 w) (wSt w)) else none
  | 5 => if wF16 w = 0 then some (.andn (wF21 w) (wF26 w) (wF31 w) (wSt w)) else none
  | 6 => if wF16 w = 0 then some (.sll (wF21 w) (wF26 w) (wF31 w) (wSt w)) else none
  | 7 => if wF16 w = 0 then some (.srl (wF21 w) (wF26 w) (wF31 w) (wSt w)) else none
  | 8 => if wF16 w = 0 then some (.sra (wF21 w) (wF26 w) (wF31 w) (wSt w)) else none
  | 9 => if wF16 w = 0 then some (.ror (wF21 w) (wF26 w) (wF31 w) (wSt w)) else none
  | 10 => if wF16 w = 0 then some (.slt (wF21 w) (wF26 w) (wF31 w) (wSt w)) else none
  | 11 => if wF16 w = 0 then some (.sltn (wF21 w) (wF26 w) (wF31 w) (wSt w)) else none
  | 12 => if wF16 w = 0 then some (.min (wF21 w) (wF26 w) (wF31 w) (wSt w)) else none
  | 13 => if wF16 w = 0 then some (.max (wF21 w) (wF26 w) (wF31 w) (wSt w)) else none
  | 14 => if wF16 w = 0 then some (.minn (wF21 w) (wF26 w) (wF31 w) (wSt w)) else none
  | 15 => if wF16 w = 0 then some (.maxn (wF21 w) (wF26 w) (wF31 w) (wSt w)) else none
  | 16 => if wF16 w = 0 then some (.mul (wF21 w) (wF26 w) (wF31 w) (wSt w)) else none
  | 17 => if wF16 w = 0 then some (.mulh (wF21 w) (wF26 w) (wF31 w) (wSt w)) else none
  | 18 => if wF16 w = 0 then some (.mulhn (wF21 w) (wF26 w) (wF31 w) (wSt w)) else none
  | 19 => if wF16 w = 0 then some (.div (wF21 w) (wF26 w) (wF31 w) (wSt w)) else none
  | 20 => if wF16 w = 0 then some (.divn (wF21 w) (wF26 w) (wF31 w) (wSt w)) else none
  | 21 => if wF16 w = 0 then some (.rem (wF21 w) (wF26 w) (wF31 w) (wSt w)) else none
  | 22 => if wF16 w = 0 then some (.remn (wF21 w) (wF26 w) (wF31 w) (wSt w)) else none
  | 23 => if wF31 w = 0 ∧ wF16 w = 0 then some (.clz (wF21 w) (wF26 w) (wSt w)) else none
  | 24 => if wF31 w = 0 ∧ wF16 w = 0 then some (.ctz (wF21 w) (wF26 w) (wSt w)) else none
  | 25 => if wF31 w = 0 ∧ wF16 w = 0 then some (.cpop (wF21 w) (wF26 w) (wSt w)) else none
  | 26 => if wF31 w = 0 ∧ wF16 w = 0 then some (.sextb (wF21 w) (wF26 w) (wSt w)) else none
  | 27 => if wF31 w = 0 ∧ wF16 w = 0 then some (.sexth (wF21 w) (wF26 w) (wSt w)) else none
  | 28 => if wF31 w = 0 ∧ wF16 w = 0 then some (.sextw (wF21 w) (wF26 w) (wSt w)) else none
  | 29 => if wF31 w = 0 ∧ wF16 w = 0 then some (.bswap (wF21 w) (wF26 w) (wSt w)) else none
  | 30 => if wF16 w = 0 then some (.csel (wF21 w) (wF26 w) (wF31 w) (wSt w)) else none
  | _ => none

/-- Major Shi, opcode 2: the member in W[5:0] (03 R64). -/
def decShi (w : BitVec 32) : Option Instr :=
  match (wLo w).toNat with
  | 0 => some (.slli (wF21 w) (wF26 w) (wSh w) (wSt w))
  | 1 => some (.srli (wF21 w) (wF26 w) (wSh w) (wSt w))
  | 2 => some (.srai (wF21 w) (wF26 w) (wSh w) (wSt w))
  | 3 => some (.rori (wF21 w) (wF26 w) (wSh w) (wSt w))
  | _ => none

/-- Major Fpu, opcode 28: the member in W[5:0] (03 R64). -/
def decFpu (w : BitVec 32) : Option Instr :=
  match (wLo w).toNat with
  | 0 => some (.fadd (wF21 w) (wF26 w) (wF31 w) (wX w) (wSt w))
  | 1 => some (.fsub (wF21 w) (wF26 w) (wF31 w) (wX w) (wSt w))
  | 2 => some (.fmul (wF21 w) (wF26 w) (wF31 w) (wX w) (wSt w))
  | 3 => some (.fdiv (wF21 w) (wF26 w) (wF31 w) (wX w) (wSt w))
  | 4 => if wF31 w = 0 then some (.fsqrt (wF21 w) (wF26 w) (wX w) (wSt w)) else none
  | 5 => some (.fmin (wF21 w) (wF26 w) (wF31 w) (wX w) (wSt w))
  | 6 => some (.fmax (wF21 w) (wF26 w) (wF31 w) (wX w) (wSt w))
  | 7 => some (.feq (wF21 w) (wF26 w) (wF31 w) (wX w) (wSt w))
  | 8 => some (.flt (wF21 w) (wF26 w) (wF31 w) (wX w) (wSt w))
  | 9 => some (.fle (wF21 w) (wF26 w) (wF31 w) (wX w) (wSt w))
  | 10 => if wF31 w = 0 then some (.fclass (wF21 w) (wF26 w) (wX w) (wSt w)) else none
  | 11 => some (.fsgnj (wF21 w) (wF26 w) (wF31 w) (wX w) (wSt w))
  | 12 => some (.fsgnjn (wF21 w) (wF26 w) (wF31 w) (wX w) (wSt w))
  | 13 => some (.fsgnjx (wF21 w) (wF26 w) (wF31 w) (wX w) (wSt w))
  | 14 => if wF31 w = 0 then some (.fcvtfi (wF21 w) (wF26 w) (wX w) (wSt w)) else none
  | 15 => if wF31 w = 0 then some (.fcvtfn (wF21 w) (wF26 w) (wX w) (wSt w)) else none
  | 16 => if wF31 w = 0 then some (.fcvtif (wF21 w) (wF26 w) (wX w) (wSt w)) else none
  | 17 => if wF31 w = 0 then some (.fcvtnf (wF21 w) (wF26 w) (wX w) (wSt w)) else none
  | 18 => if wF31 w = 0 then some (.fcvtff (wF21 w) (wF26 w) (wX w) (wSt w)) else none
  | 19 => if wF31 w = 0 then some (.fcvtbf (wF21 w) (wF26 w) (wX w) (wSt w)) else none
  | 20 => if wF31 w = 0 then some (.fcvtfb (wF21 w) (wF26 w) (wX w) (wSt w)) else none
  | _ => none

/-- Major Sys, opcode 31: the member in W[5:0] (03 R64). -/
def decSys (w : BitVec 32) : Option Instr :=
  match (wLo w).toNat with
  | 0 => if wF31 w = 0 ∧ wF26 w = 0 ∧ wF21 w = 0 ∧ wF16 w = 0 then some (.svc (wSt w)) else none
  | 1 => if wF31 w = 0 ∧ wF26 w = 0 ∧ wF21 w = 0 ∧ wF16 w = 0 then some (.tret (wSt w)) else none
  | 2 => if wF31 w = 0 ∧ wF26 w = 0 ∧ wF21 w = 0 ∧ wF16 w = 0 then some (.brk (wSt w)) else none
  | 3 => if wF31 w = 0 ∧ wF26 w = 0 ∧ wF21 w = 0 ∧ wF16 w = 0 then some (.nap (wSt w)) else none
  | 4 => if wF31 w = 0 ∧ wF26 w = 0 ∧ wF21 w = 0 ∧ wF16 w = 0 then some (.kend (wSt w)) else none
  | 5 => if wF31 w = 0 ∧ wF26 w = 0 ∧ wF21 w = 0 ∧ wF16 w = 0 then some (.iflush (wSt w)) else none
  | 6 => if wF31 w = 0 ∧ wF26 w = 0 ∧ wF21 w = 0 ∧ wF16 w = 0 then some (.uret (wSt w)) else none
  | 7 => if wF31 w = 0 ∧ wF26 w = 0 ∧ wF21 w = 0 ∧ wF16 w = 0 then some (.yield (wSt w)) else none
  | _ => none

/-- FENCE: the kind in W[21:19] (02 Table 02-1). -/
def decFence (w : BitVec 32) : Option Instr :=
  if wF16 w = 0 then
    match (wKind w).toNat with
    | 0 => some (.fence (wMask16 w) (wScope w) (wSt w))
    | 1 => some (.fenceacq (wMask16 w) (wScope w) (wSt w))
    | 2 => some (.fencerel (wMask16 w) (wScope w) (wSt w))
    | 3 => some (.vdrain (wMask16 w) (wScope w) (wSt w))
    | _ => none
  else none

/-- Major Vcfg, opcode 38: the member in W[5:0] (03 R64). -/
def decVcfg (w : BitVec 32) : Option Instr :=
  match (wLo w).toNat with
  | 0 => if wF31 w = 0 ∧ wF16 w = 0 then some (.vsetl (wF21 w) (wF26 w) (wSt w)) else none
  | 1 => if wF31 w = 0 ∧ wF16 w = 0 then some (.vsetvt (wF21 w) (wF26 w) (wSt w)) else none
  | 2 => if wF26 w = 0 ∧ wF16 w = 0 then some (.vsetty (wF21 w) (wF31 w) (wSt w)) else none
  | 3 => if wF21 w = 0 ∧ wF16 w = 0 then some (.vsetdie (wF26 w) (wF31 w) (wSt w)) else none
  | _ => none

/-- Major VintVv, opcode 39: the member in W[5:0] (03 R64). -/
def decVintVv (w : BitVec 32) : Option Instr :=
  match (wLo w).toNat with
  | 0 => some (.vaddVv (wF21 w) (wF26 w) (wF31 w) (wX w) (wSt w))
  | 1 => some (.vsubVv (wF21 w) (wF26 w) (wF31 w) (wX w) (wSt w))
  | 2 => some (.vrsubVv (wF21 w) (wF26 w) (wF31 w) (wX w) (wSt w))
  | 3 => some (.vmulVv (wF21 w) (wF26 w) (wF31 w) (wX w) (wSt w))
  | 4 => some (.vmulhVv (wF21 w) (wF26 w) (wF31 w) (wX w) (wSt w))
  | 5 => some (.vmulhnVv (wF21 w) (wF26 w) (wF31 w) (wX w) (wSt w))
  | 6 => some (.vmacVv (wF21 w) (wF26 w) (wF31 w) (wX w) (wSt w))
  | 7 => some (.vandVv (wF21 w) (wF26 w) (wF31 w) (wX w) (wSt w))
  | 8 => some (.vorVv (wF21 w) (wF26 w) (wF31 w) (wX w) (wSt w))
  | 9 => some (.vxorVv (wF21 w) (wF26 w) (wF31 w) (wX w) (wSt w))
  | 10 => some (.vsllVv (wF21 w) (wF26 w) (wF31 w) (wX w) (wSt w))
  | 11 => some (.vsrlVv (wF21 w) (wF26 w) (wF31 w) (wX w) (wSt w))
  | 12 => some (.vsraVv (wF21 w) (wF26 w) (wF31 w) (wX w) (wSt w))
  | 13 => some (.vminVv (wF21 w) (wF26 w) (wF31 w) (wX w) (wSt w))
  | 14 => some (.vmaxVv (wF21 w) (wF26 w) (wF31 w) (wX w) (wSt w))
  | 15 => some (.vminnVv (wF21 w) (wF26 w) (wF31 w) (wX w) (wSt w))
  | 16 => some (.vmaxnVv (wF21 w) (wF26 w) (wF31 w) (wX w) (wSt w))
  | 17 => some (.vdivVv (wF21 w) (wF26 w) (wF31 w) (wX w) (wSt w))
  | 18 => some (.vdivnVv (wF21 w) (wF26 w) (wF31 w) (wX w) (wSt w))
  | 19 => some (.vremVv (wF21 w) (wF26 w) (wF31 w) (wX w) (wSt w))
  | 20 => some (.vremnVv (wF21 w) (wF26 w) (wF31 w) (wX w) (wSt w))
  | 21 => some (.vsaddVv (wF21 w) (wF26 w) (wF31 w) (wX w) (wSt w))
  | 22 => some (.vssubVv (wF21 w) (wF26 w) (wF31 w) (wX w) (wSt w))
  | 23 => some (.vmergeVv (wF21 w, wX w) (wF26 w) (wF31 w) (wSt w))
  | 24 => if wF31 w = 0 then some (.vmvVv (wF21 w) (wF26 w) (wX w) (wSt w)) else none
  | 25 => some (.vseqVv (wF21 w) (wF26 w) (wF31 w) (wX w) (wSt w))
  | 26 => some (.vsneVv (wF21 w) (wF26 w) (wF31 w) (wX w) (wSt w))
  | 27 => some (.vsltVv (wF21 w) (wF26 w) (wF31 w) (wX w) (wSt w))
  | 28 => some (.vsltnVv (wF21 w) (wF26 w) (wF31 w) (wX w) (wSt w))
  | 29 => some (.vsleVv (wF21 w) (wF26 w) (wF31 w) (wX w) (wSt w))
  | 30 => some (.vslenVv (wF21 w) (wF26 w) (wF31 w) (wX w) (wSt w))
  | _ => none

/-- Major VintVs, opcode 40: the member in W[5:0] (03 R64). -/
def decVintVs (w : BitVec 32) : Option Instr :=
  match (wLo w).toNat with
  | 0 => some (.vaddVs (wF21 w) (wF26 w) (wF31 w) (wX w) (wSt w))
  | 1 => some (.vsubVs (wF21 w) (wF26 w) (wF31 w) (wX w) (wSt w))
  | 2 => some (.vrsubVs (wF21 w) (wF26 w) (wF31 w) (wX w) (wSt w))
  | 3 => some (.vmulVs (wF21 w) (wF26 w) (wF31 w) (wX w) (wSt w))
  | 4 => some (.vmulhVs (wF21 w) (wF26 w) (wF31 w) (wX w) (wSt w))
  | 5 => some (.vmulhnVs (wF21 w) (wF26 w) (wF31 w) (wX w) (wSt w))
  | 6 => some (.vmacVs (wF21 w) (wF26 w) (wF31 w) (wX w) (wSt w))
  | 7 => some (.vandVs (wF21 w) (wF26 w) (wF31 w) (wX w) (wSt w))
  | 8 => some (.vorVs (wF21 w) (wF26 w) (wF31 w) (wX w) (wSt w))
  | 9 => some (.vxorVs (wF21 w) (wF26 w) (wF31 w) (wX w) (wSt w))
  | 10 => some (.vsllVs (wF21 w) (wF26 w) (wF31 w) (wX w) (wSt w))
  | 11 => some (.vsrlVs (wF21 w) (wF26 w) (wF31 w) (wX w) (wSt w))
  | 12 => some (.vsraVs (wF21 w) (wF26 w) (wF31 w) (wX w) (wSt w))
  | 13 => some (.vminVs (wF21 w) (wF26 w) (wF31 w) (wX w) (wSt w))
  | 14 => some (.vmaxVs (wF21 w) (wF26 w) (wF31 w) (wX w) (wSt w))
  | 15 => some (.vminnVs (wF21 w) (wF26 w) (wF31 w) (wX w) (wSt w))
  | 16 => some (.vmaxnVs (wF21 w) (wF26 w) (wF31 w) (wX w) (wSt w))
  | 17 => some (.vdivVs (wF21 w) (wF26 w) (wF31 w) (wX w) (wSt w))
  | 18 => some (.vdivnVs (wF21 w) (wF26 w) (wF31 w) (wX w) (wSt w))
  | 19 => some (.vremVs (wF21 w) (wF26 w) (wF31 w) (wX w) (wSt w))
  | 20 => some (.vremnVs (wF21 w) (wF26 w) (wF31 w) (wX w) (wSt w))
  | 21 => some (.vsaddVs (wF21 w) (wF26 w) (wF31 w) (wX w) (wSt w))
  | 22 => some (.vssubVs (wF21 w) (wF26 w) (wF31 w) (wX w) (wSt w))
  | 23 => some (.vmergeVs (wF21 w, wX w) (wF26 w) (wF31 w) (wSt w))
  | 24 => if wF31 w = 0 then some (.vmvVs (wF21 w) (wF26 w) (wX w) (wSt w)) else none
  | 25 => some (.vseqVs (wF21 w) (wF26 w) (wF31 w) (wX w) (wSt w))
  | 26 => some (.vsneVs (wF21 w) (wF26 w) (wF31 w) (wX w) (wSt w))
  | 27 => some (.vsltVs (wF21 w) (wF26 w) (wF31 w) (wX w) (wSt w))
  | 28 => some (.vsltnVs (wF21 w) (wF26 w) (wF31 w) (wX w) (wSt w))
  | 29 => some (.vsleVs (wF21 w) (wF26 w) (wF31 w) (wX w) (wSt w))
  | 30 => some (.vslenVs (wF21 w) (wF26 w) (wF31 w) (wX w) (wSt w))
  | _ => none

/-- Major VintVi, opcode 41: the member in W[5:0] (03 R64). -/
def decVintVi (w : BitVec 32) : Option Instr :=
  match (wLo w).toNat with
  | 0 => some (.vaddVi (wF21 w) (wF31 w) (wF26 w) (wX w) (wSt w))
  | 1 => some (.vsubVi (wF21 w) (wF31 w) (wF26 w) (wX w) (wSt w))
  | 2 => some (.vrsubVi (wF21 w) (wF31 w) (wF26 w) (wX w) (wSt w))
  | 3 => some (.vmulVi (wF21 w) (wF31 w) (wF26 w) (wX w) (wSt w))
  | 4 => some (.vmulhVi (wF21 w) (wF31 w) (wF26 w) (wX w) (wSt w))
  | 5 => some (.vmulhnVi (wF21 w) (wF31 w) (wF26 w) (wX w) (wSt w))
  | 6 => some (.vmacVi (wF21 w) (wF31 w) (wF26 w) (wX w) (wSt w))
  | 7 => some (.vandVi (wF21 w) (wF31 w) (wF26 w) (wX w) (wSt w))
  | 8 => some (.vorVi (wF21 w) (wF31 w) (wF26 w) (wX w) (wSt w))
  | 9 => some (.vxorVi (wF21 w) (wF31 w) (wF26 w) (wX w) (wSt w))
  | 10 => some (.vsllVi (wF21 w) (wF31 w) (wF26 w) (wX w) (wSt w))
  | 11 => some (.vsrlVi (wF21 w) (wF31 w) (wF26 w) (wX w) (wSt w))
  | 12 => some (.vsraVi (wF21 w) (wF31 w) (wF26 w) (wX w) (wSt w))
  | 13 => some (.vminVi (wF21 w) (wF31 w) (wF26 w) (wX w) (wSt w))
  | 14 => some (.vmaxVi (wF21 w) (wF31 w) (wF26 w) (wX w) (wSt w))
  | 15 => some (.vminnVi (wF21 w) (wF31 w) (wF26 w) (wX w) (wSt w))
  | 16 => some (.vmaxnVi (wF21 w) (wF31 w) (wF26 w) (wX w) (wSt w))
  | 17 => some (.vdivVi (wF21 w) (wF31 w) (wF26 w) (wX w) (wSt w))
  | 18 => some (.vdivnVi (wF21 w) (wF31 w) (wF26 w) (wX w) (wSt w))
  | 19 => some (.vremVi (wF21 w) (wF31 w) (wF26 w) (wX w) (wSt w))
  | 20 => some (.vremnVi (wF21 w) (wF31 w) (wF26 w) (wX w) (wSt w))
  | 21 => some (.vsaddVi (wF21 w) (wF31 w) (wF26 w) (wX w) (wSt w))
  | 22 => some (.vssubVi (wF21 w) (wF31 w) (wF26 w) (wX w) (wSt w))
  | 23 => some (.vmergeVi (wF21 w, wX w) (wF31 w) (wF26 w) (wSt w))
  | 24 => if wF31 w = 0 then some (.vmvVi (wF21 w) (wF26 w) (wX w) (wSt w)) else none
  | 25 => some (.vseqVi (wF21 w) (wF31 w) (wF26 w) (wX w) (wSt w))
  | 26 => some (.vsneVi (wF21 w) (wF31 w) (wF26 w) (wX w) (wSt w))
  | 27 => some (.vsltVi (wF21 w) (wF31 w) (wF26 w) (wX w) (wSt w))
  | 28 => some (.vsltnVi (wF21 w) (wF31 w) (wF26 w) (wX w) (wSt w))
  | 29 => some (.vsleVi (wF21 w) (wF31 w) (wF26 w) (wX w) (wSt w))
  | 30 => some (.vslenVi (wF21 w) (wF31 w) (wF26 w) (wX w) (wSt w))
  | _ => none

/-- Major VfpVv, opcode 42: the member in W[5:0] (03 R64). -/
def decVfpVv (w : BitVec 32) : Option Instr :=
  match (wLo w).toNat with
  | 0 => some (.vfaddVv (wF21 w) (wF26 w) (wF31 w) (wX w) (wSt w))
  | 1 => some (.vfsubVv (wF21 w) (wF26 w) (wF31 w) (wX w) (wSt w))
  | 2 => some (.vfmulVv (wF21 w) (wF26 w) (wF31 w) (wX w) (wSt w))
  | 3 => some (.vfdivVv (wF21 w) (wF26 w) (wF31 w) (wX w) (wSt w))
  | 4 => if wF31 w = 0 then some (.vfsqrt (wF21 w) (wF26 w, none) (wX w) (wSt w)) else none
  | 5 => if wF31 w = 0 then some (.vfrsqe (wF21 w) (wF26 w, none) (wX w) (wSt w)) else none
  | 6 => if wF31 w = 0 then some (.vfrece (wF21 w) (wF26 w, none) (wX w) (wSt w)) else none
  | 7 => if wF31 w = 0 then some (.vfexp (wF21 w) (wF26 w, none) (wX w) (wSt w)) else none
  | 8 => if wF31 w = 0 then some (.vfexp2 (wF21 w) (wF26 w, none) (wX w) (wSt w)) else none
  | 9 => if wF31 w = 0 then some (.vflog2 (wF21 w) (wF26 w, none) (wX w) (wSt w)) else none
  | 10 => some (.vfminVv (wF21 w) (wF26 w) (wF31 w) (wX w) (wSt w))
  | 11 => some (.vfmaxVv (wF21 w) (wF26 w) (wF31 w) (wX w) (wSt w))
  | 12 => some (.vfsgnjVv (wF21 w) (wF26 w) (wF31 w) (wX w) (wSt w))
  | 13 => some (.vfsgnjnVv (wF21 w) (wF26 w) (wF31 w) (wX w) (wSt w))
  | 14 => some (.vfsgnjxVv (wF21 w) (wF26 w) (wF31 w) (wX w) (wSt w))
  | 15 => some (.vfeqVv (wF21 w) (wF26 w) (wF31 w) (wX w) (wSt w))
  | 16 => some (.vfneVv (wF21 w) (wF26 w) (wF31 w) (wX w) (wSt w))
  | 17 => some (.vfltVv (wF21 w) (wF26 w) (wF31 w) (wX w) (wSt w))
  | 18 => some (.vfleVv (wF21 w) (wF26 w) (wF31 w) (wX w) (wSt w))
  | 19 => if wF31 w = 0 then some (.vfclass (wF21 w) (wF26 w, none) (wX w) (wSt w)) else none
  | 20 => if wF31 w = 0 then some (.vfcvt (wF21 w) (wF26 w, none) (wX w) (wSt w)) else none
  | 21 => if wF31 w = 0 then some (.vfround (wF21 w) (wF26 w, none) (wX w) (wSt w)) else none
  | 22 => some (.vfmergeVv (wF21 w, wX w) (wF26 w) (wF31 w) (wSt w))
  | _ => none

/-- Major VfpVs, opcode 43: the member in W[5:0] (03 R64). -/
def decVfpVs (w : BitVec 32) : Option Instr :=
  match (wLo w).toNat with
  | 0 => some (.vfaddVs (wF21 w) (wF26 w) (wF31 w) (wX w) (wSt w))
  | 1 => some (.vfsubVs (wF21 w) (wF26 w) (wF31 w) (wX w) (wSt w))
  | 2 => some (.vfmulVs (wF21 w) (wF26 w) (wF31 w) (wX w) (wSt w))
  | 3 => some (.vfdivVs (wF21 w) (wF26 w) (wF31 w) (wX w) (wSt w))
  | 4 => some (.vfsqrt (wF21 w) (wF31 w, some (wF26 w)) (wX w) (wSt w))
  | 5 => some (.vfrsqe (wF21 w) (wF31 w, some (wF26 w)) (wX w) (wSt w))
  | 6 => some (.vfrece (wF21 w) (wF31 w, some (wF26 w)) (wX w) (wSt w))
  | 7 => some (.vfexp (wF21 w) (wF31 w, some (wF26 w)) (wX w) (wSt w))
  | 8 => some (.vfexp2 (wF21 w) (wF31 w, some (wF26 w)) (wX w) (wSt w))
  | 9 => some (.vflog2 (wF21 w) (wF31 w, some (wF26 w)) (wX w) (wSt w))
  | 10 => some (.vfminVs (wF21 w) (wF26 w) (wF31 w) (wX w) (wSt w))
  | 11 => some (.vfmaxVs (wF21 w) (wF26 w) (wF31 w) (wX w) (wSt w))
  | 12 => some (.vfsgnjVs (wF21 w) (wF26 w) (wF31 w) (wX w) (wSt w))
  | 13 => some (.vfsgnjnVs (wF21 w) (wF26 w) (wF31 w) (wX w) (wSt w))
  | 14 => some (.vfsgnjxVs (wF21 w) (wF26 w) (wF31 w) (wX w) (wSt w))
  | 15 => some (.vfeqVs (wF21 w) (wF26 w) (wF31 w) (wX w) (wSt w))
  | 16 => some (.vfneVs (wF21 w) (wF26 w) (wF31 w) (wX w) (wSt w))
  | 17 => some (.vfltVs (wF21 w) (wF26 w) (wF31 w) (wX w) (wSt w))
  | 18 => some (.vfleVs (wF21 w) (wF26 w) (wF31 w) (wX w) (wSt w))
  | 19 => some (.vfclass (wF21 w) (wF31 w, some (wF26 w)) (wX w) (wSt w))
  | 20 => some (.vfcvt (wF21 w) (wF31 w, some (wF26 w)) (wX w) (wSt w))
  | 21 => some (.vfround (wF21 w) (wF31 w, some (wF26 w)) (wX w) (wSt w))
  | 22 => some (.vfmergeVs (wF21 w, wX w) (wF26 w) (wF31 w) (wSt w))
  | _ => none

/-- Major Vfma, opcode 44: the member in W[5:0] (03 R64). -/
def decVfma (w : BitVec 32) : Option Instr :=
  match (wLo w).toNat with
  | 0 => some (.vfmaccVv (wF21 w) (wF26 w) (wF31 w) (wX w) (wSt w))
  | 1 => some (.vfnmaccVv (wF21 w) (wF26 w) (wF31 w) (wX w) (wSt w))
  | 2 => some (.vfmsacVv (wF21 w) (wF26 w) (wF31 w) (wX w) (wSt w))
  | 3 => some (.vfnmsacVv (wF21 w) (wF26 w) (wF31 w) (wX w) (wSt w))
  | 4 => some (.vfmaccVs (wF21 w) (wF26 w) (wF31 w) (wX w) (wSt w))
  | 5 => some (.vfnmaccVs (wF21 w) (wF26 w) (wF31 w) (wX w) (wSt w))
  | 6 => some (.vfmsacVs (wF21 w) (wF26 w) (wF31 w) (wX w) (wSt w))
  | 7 => some (.vfnmsacVs (wF21 w) (wF26 w) (wF31 w) (wX w) (wSt w))
  | _ => none

/-- Major Vred, opcode 45: the member in W[5:0] (03 R64). -/
def decVred (w : BitVec 32) : Option Instr :=
  match (wLo w).toNat with
  | 0 => some (.vredsum (wF21 w) (wF26 w) (wF31 w) (wX w) (wSt w))
  | 1 => some (.vredand (wF21 w) (wF26 w) (wF31 w) (wX w) (wSt w))
  | 2 => some (.vredor (wF21 w) (wF26 w) (wF31 w) (wX w) (wSt w))
  | 3 => some (.vredxor (wF21 w) (wF26 w) (wF31 w) (wX w) (wSt w))
  | 4 => some (.vredmin (wF21 w) (wF26 w) (wF31 w) (wX w) (wSt w))
  | 5 => some (.vredmax (wF21 w) (wF26 w) (wF31 w) (wX w) (wSt w))
  | 6 => some (.vredminn (wF21 w) (wF26 w) (wF31 w) (wX w) (wSt w))
  | 7 => some (.vredmaxn (wF21 w) (wF26 w) (wF31 w) (wX w) (wSt w))
  | 8 => some (.vfredsum (wF21 w) (wF26 w) (wF31 w) (wX w) (wSt w))
  | 9 => some (.vfredmin (wF21 w) (wF26 w) (wF31 w) (wX w) (wSt w))
  | 10 => some (.vfredmax (wF21 w) (wF26 w) (wF31 w) (wX w) (wSt w))
  | 11 => if wF31 w = 0 then some (.vscan (wF21 w) (wF26 w) (wX w) (wSt w)) else none
  | 12 => if wF31 w = 0 then some (.vfscan (wF21 w) (wF26 w) (wX w) (wSt w)) else none
  | 13 => some (.vsmx (wF21 w) (wF26 w) (wF31 w) (wX w) (wSt w))
  | _ => none

/-- Major Vperm, opcode 46: the member in W[5:0] (03 R64). -/
def decVperm (w : BitVec 32) : Option Instr :=
  match (wLo w).toNat with
  | 0 => some (.vslideup (wF21 w) (wF26 w) (wF31 w) (wX w) (wSt w))
  | 1 => some (.vslidedn (wF21 w) (wF26 w) (wF31 w) (wX w) (wSt w))
  | 2 => some (.vslide1up (wF21 w) (wF26 w) (wF31 w) (wX w) (wSt w))
  | 3 => some (.vslide1dn (wF21 w) (wF26 w) (wF31 w) (wX w) (wSt w))
  | 4 => some (.vrgath (wF21 w) (wF26 w) (wF31 w) (wX w) (wSt w))
  | 5 => if wF31 w = 0 then some (.vcompress (wF21 w) (wF26 w) (wX w) (wSt w)) else none
  | 6 => if wF31 w = 0 then some (.vexpand (wF21 w) (wF26 w) (wX w) (wSt w)) else none
  | 7 => some (.vzip (wF21 w) (wF26 w) (wF31 w) (wX w) (wSt w))
  | 8 => if wF31 w = 0 then some (.vunzipe (wF21 w) (wF26 w) (wX w) (wSt w)) else none
  | 9 => if wF31 w = 0 then some (.vunzipo (wF21 w) (wF26 w) (wX w) (wSt w)) else none
  | 10 => if wF31 w = 0 then some (.vdrot (wF21 w) (wF26 w) (wX w) (wSt w)) else none
  | 11 => if wF31 w = 0 then some (.vsplat (wF21 w) (wF26 w) (wX w) (wSt w)) else none
  | 12 => if wF31 w = 0 ∧ wF26 w = 0 then some (.vid (wF21 w) (wX w) (wSt w)) else none
  | 13 => some (.vins (wF21 w) (wF26 w) (wF31 w) (wX w) (wSt w))
  | 14 => if wF16 w = 0 then some (.vext (wF21 w) (wF26 w) (wF31 w) (wSt w)) else none
  | _ => none

/-- Major Vmask, opcode 47: the member in W[5:0] (03 R64). -/
def decVmask (w : BitVec 32) : Option Instr :=
  match (wLo w).toNat with
  | 0 => if wF16 w = 0 then some (.mand (wF21 w) (wF26 w) (wF31 w) (wSt w)) else none
  | 1 => if wF16 w = 0 then some (.mor (wF21 w) (wF26 w) (wF31 w) (wSt w)) else none
  | 2 => if wF16 w = 0 then some (.mxor (wF21 w) (wF26 w) (wF31 w) (wSt w)) else none
  | 3 => if wF16 w = 0 then some (.mandn (wF21 w) (wF26 w) (wF31 w) (wSt w)) else none
  | 4 => if wF31 w = 0 ∧ wF16 w = 0 then some (.mnot (wF21 w) (wF26 w) (wSt w)) else none
  | 5 => if wF31 w = 0 ∧ wF26 w = 0 ∧ wF16 w = 0 then some (.mset (wF21 w) (wSt w)) else none
  | 6 => if wF31 w = 0 ∧ wF26 w = 0 ∧ wF16 w = 0 then some (.mclr (wF21 w) (wSt w)) else none
  | 7 => if wF31 w = 0 ∧ wF16 w = 0 then some (.mmv (wF21 w) (wF26 w) (wSt w)) else none
  | 8 => if wF31 w = 0 ∧ wF16 w = 0 then some (.mpop (wF21 w) (wF26 w) (wSt w)) else none
  | 9 => if wF31 w = 0 ∧ wF16 w = 0 then some (.mfirst (wF21 w) (wF26 w) (wSt w)) else none
  | 10 => if wF31 w = 0 ∧ wF16 w = 0 then some (.msbf (wF21 w) (wF26 w) (wSt w)) else none
  | 11 => if wF31 w = 0 ∧ wF16 w = 0 then some (.mfromv (wF21 w) (wF26 w) (wSt w)) else none
  | 12 => if wF31 w = 0 ∧ wF16 w = 0 then some (.mtov (wF21 w) (wF26 w) (wSt w)) else none
  | _ => none

/-- VM major 48: the mode in W[1:0] (07 R179). -/
def decVm48 (w : BitVec 32) : Option Instr :=
  match (wMode w).toNat with
  | 0 => if wF31 w = 0 then some (.vld16 (wF21 w) (wF26 w) (wVmCls w) (wX w) (wSt w)) else none
  | 1 => some (.vlds16 (wF21 w) (wF26 w) (wF31 w) (wVmCls w) (wX w) (wSt w))
  | 2 => some (.vldx16 (wF21 w) (wF26 w) (wF31 w) (wVmCls w) (wX w) (wSt w))
  | _ => if wF31 w = 0 then some (.vldff16 (wF21 w) (wF26 w) (wVmCls w) (wX w) (wSt w)) else none

/-- VM major 49: the mode in W[1:0] (07 R179). -/
def decVm49 (w : BitVec 32) : Option Instr :=
  match (wMode w).toNat with
  | 0 => if wF31 w = 0 then some (.vld32 (wF21 w) (wF26 w) (wVmCls w) (wX w) (wSt w)) else none
  | 1 => some (.vlds32 (wF21 w) (wF26 w) (wF31 w) (wVmCls w) (wX w) (wSt w))
  | 2 => some (.vldx32 (wF21 w) (wF26 w) (wF31 w) (wVmCls w) (wX w) (wSt w))
  | _ => if wF31 w = 0 then some (.vldff32 (wF21 w) (wF26 w) (wVmCls w) (wX w) (wSt w)) else none

/-- VM major 50: the mode in W[1:0] (07 R179). -/
def decVm50 (w : BitVec 32) : Option Instr :=
  match (wMode w).toNat with
  | 0 => if wF31 w = 0 then some (.vld64 (wF21 w) (wF26 w) (wVmCls w) (wX w) (wSt w)) else none
  | 1 => some (.vlds64 (wF21 w) (wF26 w) (wF31 w) (wVmCls w) (wX w) (wSt w))
  | 2 => some (.vldx64 (wF21 w) (wF26 w) (wF31 w) (wVmCls w) (wX w) (wSt w))
  | _ => if wF31 w = 0 then some (.vldff64 (wF21 w) (wF26 w) (wVmCls w) (wX w) (wSt w)) else none

/-- VM major 51: the mode in W[1:0] (07 R179). -/
def decVm51 (w : BitVec 32) : Option Instr :=
  match (wMode w).toNat with
  | 0 => if wF31 w = 0 then some (.vst16 (wF21 w) (wF26 w) (wVmCls w) (wX w) (wSt w)) else none
  | 1 => some (.vsts16 (wF21 w) (wF26 w) (wF31 w) (wVmCls w) (wX w) (wSt w))
  | 2 => some (.vstxo16 (wF21 w) (wF26 w) (wF31 w) (wVmCls w) (wX w) (wSt w))
  | _ => some (.vstxa16 (wF21 w) (wF26 w) (wF31 w) (wVmCls w) (wX w) (wSt w))

/-- VM major 52: the mode in W[1:0] (07 R179). -/
def decVm52 (w : BitVec 32) : Option Instr :=
  match (wMode w).toNat with
  | 0 => if wF31 w = 0 then some (.vst32 (wF21 w) (wF26 w) (wVmCls w) (wX w) (wSt w)) else none
  | 1 => some (.vsts32 (wF21 w) (wF26 w) (wF31 w) (wVmCls w) (wX w) (wSt w))
  | 2 => some (.vstxo32 (wF21 w) (wF26 w) (wF31 w) (wVmCls w) (wX w) (wSt w))
  | _ => some (.vstxa32 (wF21 w) (wF26 w) (wF31 w) (wVmCls w) (wX w) (wSt w))

/-- VM major 53: the mode in W[1:0] (07 R179). -/
def decVm53 (w : BitVec 32) : Option Instr :=
  match (wMode w).toNat with
  | 0 => if wF31 w = 0 then some (.vst64 (wF21 w) (wF26 w) (wVmCls w) (wX w) (wSt w)) else none
  | 1 => some (.vsts64 (wF21 w) (wF26 w) (wF31 w) (wVmCls w) (wX w) (wSt w))
  | 2 => some (.vstxo64 (wF21 w) (wF26 w) (wF31 w) (wVmCls w) (wX w) (wSt w))
  | _ => some (.vstxa64 (wF21 w) (wF26 w) (wF31 w) (wVmCls w) (wX w) (wSt w))

/-- The instruction of a 32-bit word, or none where the encoding is reserved (02 R59, 03 R64). -/
def decode32 (w : BitVec 32) : Option Instr :=
  match (wOp w).toNat with
  | 1 => decAlu w
  | 2 => decShi w
  | 3 => some (.addi (wF21 w) (wF26 w) (wImm12 w) (wSt w))
  | 4 => some (.andi (wF21 w) (wF26 w) (wImm12 w) (wSt w))
  | 5 => some (.ori (wF21 w) (wF26 w) (wImm12 w) (wSt w))
  | 6 => some (.xori (wF21 w) (wF26 w) (wImm12 w) (wSt w))
  | 7 => some (.slti (wF21 w) (wF26 w) (wImm12 w) (wSt w))
  | 8 => some (.sltin (wF21 w) (wF26 w) (wImm12 w) (wSt w))
  | 9 => some (.movhi (wF21 w) (wImm17 w) (wSt w))
  | 10 => some (.pgrel (wF21 w) (wImm17 w) (wSt w))
  | 11 => some (.jal (wF21 w) (wImm17 w) (wSt w))
  | 12 => some (.jalr (wF21 w) (wF26 w) (wImm12 w) (wSt w))
  | 13 => some (.beq (wF26 w) (wF21 w) (wImm12 w) (wSt w))
  | 14 => some (.bne (wF26 w) (wF21 w) (wImm12 w) (wSt w))
  | 15 => some (.blt (wF26 w) (wF21 w) (wImm12 w) (wSt w))
  | 16 => some (.bge (wF26 w) (wF21 w) (wImm12 w) (wSt w))
  | 17 => some (.bltn (wF26 w) (wF21 w) (wImm12 w) (wSt w))
  | 18 => some (.bgen (wF26 w) (wF21 w) (wImm12 w) (wSt w))
  | 19 => some (.sbnz (wF26 w) (wF21 w) (wImm12 w) (wSt w))
  | 20 => if wS w = 0 then some (.ld8 (wF21 w) (wF26 w) (wOff7 w) (wCls w) (wSt w)) else some (.ld8s (wF21 w) (wF26 w) (wOff7 w) (wCls w) (wSt w))
  | 21 => if wS w = 0 then some (.ld16 (wF21 w) (wF26 w) (wOff7 w) (wCls w) (wSt w)) else some (.ld16s (wF21 w) (wF26 w) (wOff7 w) (wCls w) (wSt w))
  | 22 => if wS w = 0 then some (.ld32 (wF21 w) (wF26 w) (wOff7 w) (wCls w) (wSt w)) else some (.ld32s (wF21 w) (wF26 w) (wOff7 w) (wCls w) (wSt w))
  | 23 => if wS w = 0 then some (.ld64 (wF21 w) (wF26 w) (wOff7 w) (wCls w) (wSt w)) else none
  | 24 => if wS w = 0 then some (.st8 (wF21 w) (wF26 w) (wOff7 w) (wCls w) (wSt w)) else none
  | 25 => if wS w = 0 then some (.st16 (wF21 w) (wF26 w) (wOff7 w) (wCls w) (wSt w)) else none
  | 26 => if wS w = 0 then some (.st32 (wF21 w) (wF26 w) (wOff7 w) (wCls w) (wSt w)) else none
  | 27 => if wS w = 0 then some (.st64 (wF21 w) (wF26 w) (wOff7 w) (wCls w) (wSt w)) else none
  | 28 => decFpu w
  | 29 => some (.ffma32 (wF21 w) (wF26 w) (wF31 w) (wRs3 w) (wVar w) (wSt w))
  | 30 => some (.ffma64 (wF21 w) (wF26 w) (wF31 w) (wRs3 w) (wVar w) (wSt w))
  | 31 => decSys w
  | 32 => if wF31 w = 0 ∧ wF21 w = 0 then some (.iprf (wF26 w) (wOff7 w) (wSt w)) else none
  | 33 => if wS w = 0 ∧ wF21 w = 0 then some (.dprf (wF26 w) (wOff7 w) (wCls w) (wSt w)) else none
  | 34 => decFence w
  | 35 => some (.csrrw (wF21 w) (wF26 w) (wImm12 w) (wSt w))
  | 36 => some (.csrrs (wF21 w) (wF26 w) (wImm12 w) (wSt w))
  | 37 => some (.csrrc (wF21 w) (wF26 w) (wImm12 w) (wSt w))
  | 38 => decVcfg w
  | 39 => decVintVv w
  | 40 => decVintVs w
  | 41 => decVintVi w
  | 42 => decVfpVv w
  | 43 => decVfpVs w
  | 44 => decVfma w
  | 45 => decVred w
  | 46 => decVperm w
  | 47 => decVmask w
  | 48 => decVm48 w
  | 49 => decVm49 w
  | 50 => decVm50 w
  | 51 => decVm51 w
  | 52 => decVm52 w
  | 53 => decVm53 w
  | _ => none

/-- The instruction of a compressed word (02 R53, R54); operation 0 is itself an instruction that traps. -/
def decode16 (p : BitVec 16) : Option Instr :=
  match (cOp p).toNat with
  | 0 => some (.cIllegal (cA p) (cB p))
  | 1 => some (.cAdd (cA p) (cB p))
  | 2 => some (.cSub (cA p) (cB p))
  | 3 => some (.cMv (cA p) (cB p))
  | 4 => some (.cAddi (cA p) (cB p))
  | 5 => some (.cLi (cA p) (cB p))
  | 6 => some (.cSlli (cA p) (cB p))
  | 7 => some (.cSrli (cA p) (cB p))
  | 8 => some (.cAnd (cA p) (cB p))
  | 9 => some (.cOr (cA p) (cB p))
  | 10 => some (.cXor (cA p) (cB p))
  | 11 => some (.cLd64 (cA p) (cB p))
  | 12 => some (.cSt64 (cA p) (cB p))
  | 13 => some (.cBeqz (cA p) (cB p))
  | 14 => some (.cBnez (cA p) (cB p))
  | 15 => some (.cJ (cImm10 p))
  | 16 => if cB p = 0 then some (.cJr (cA p)) else none
  | 17 => some (.cVsetl (cA p) (cB p))
  | 18 => some (.cVadd (cA p) (cB p))
  | 19 => some (.cVfadd (cA p) (cB p))
  | 20 => some (.cVmv (cA p) (cB p))
  | 21 => if cA p = 0 ∧ cB p = 0 then some (.cKend) else none
  | 22 => if cA p = 0 ∧ cB p = 0 then some (.cNop) else none
  | _ => none

/-- W[63:58] of a 64-bit word, funct6 (02 Table 02-4). -/
def xF6 (w : BitVec 64) : BitVec 6 := w.extractLsb' 58 6
/-- W[57:47], IMM11. -/
def xImm (w : BitVec 64) : BitVec 11 := w.extractLsb' 47 11
/-- W[57:55], the die stride of a die-field major. -/
def xDs (w : BitVec 64) : BitVec 3 := (xImm w).extractLsb' 8 3
/-- W[54:47], the die mask of a die-field major. -/
def xDm (w : BitVec 64) : BitVec 8 := (xImm w).extractLsb' 0 8
/-- Bit n of IMM11. -/
def xImmB (w : BitVec 64) (n : Nat) : Bool := (xImm w).getLsbD n
/-- The bits of IMM11 from bit n on. -/
def xImmHi (w : BitVec 64) (n : Nat) : BitVec 11 := xImm w >>> n
/-- W[46:45], the scope. -/
def xScope (w : BitVec 64) : BitVec 2 := w.extractLsb' 45 2
/-- W[44:41], the class. -/
def xCls (w : BitVec 64) : BitVec 4 := w.extractLsb' 41 4
/-- W[40], the mask enable. -/
def xMe (w : BitVec 64) : Bool := w.extractLsb' 40 1 == 1#1
/-- W[39:36], the mask index. -/
def xMi (w : BitVec 64) : BitVec 4 := w.extractLsb' 36 4
/-- W[35:31], rs3 or vs3. -/
def xE (w : BitVec 64) : BitVec 5 := w.extractLsb' 31 5
/-- W[30:26], rs2 or vs2. -/
def xB (w : BitVec 64) : BitVec 5 := w.extractLsb' 26 5
/-- W[25:21], rs1 or vs1. -/
def xA (w : BitVec 64) : BitVec 5 := w.extractLsb' 21 5
/-- W[20:16], rd or vd. -/
def xD (w : BitVec 64) : BitVec 5 := w.extractLsb' 16 5
/-- W[13:12], the stall field (02 R48). -/
def xSt (w : BitVec 64) : BitVec 2 := w.extractLsb' 12 2
/-- W[11:6], major64. -/
def xMaj (w : BitVec 64) : BitVec 6 := w.extractLsb' 6 6
/-- W[5:0], AUX6. -/
def xAux (w : BitVec 64) : BitVec 6 := w.extractLsb' 0 6
/-- AUX6[1:0]. -/
def xAux2 (w : BitVec 64) : BitVec 2 := (xAux w).extractLsb' 0 2
/-- The bits of AUX6 from bit n on. -/
def xAuxHi (w : BitVec 64) (n : Nat) : BitVec 6 := xAux w >>> n

/-- A 64-bit word in the generic E layout from its fields (02 R48). -/
def mk64 (f6 : BitVec 6) (imm : BitVec 11) (scope : BitVec 2) (cls : BitVec 4) (me : BitVec 1)
    (mi : BitVec 4) (e b a d : BitVec 5) (st : BitVec 2) (maj aux : BitVec 6) : BitVec 64 :=
  f6 ++ imm ++ scope ++ cls ++ me ++ mi ++ e ++ b ++ a ++ d ++ 3#2 ++ st ++ maj ++ aux

/-- IMM, the EI layout (02 R50). -/
def decImm (w : BitVec 64) : Option Instr :=
  match (xAux w).toNat with
  | 0 => some (.ldi (xD w) (w.extractLsb' 21 43) (xSt w))
  | 1 => if w.extractLsb' 42 22 = 0#22 then some (.ldih (xD w) (w.extractLsb' 21 21) (xSt w)) else none
  | _ => none

/-- The 32-bit word an XV word carries, with W[16] its mask enable (02 Table 02-6). -/
def xvInnerWord (f6 op : BitVec 6) (vm : BitVec 2) (cls : BitVec 4) (me : Bool) (b a d : BitVec 5) :
    BitVec 32 :=
  mk32 b a d (BitVec.ofBool me) 0 op (if 0x30 ≤ op.toNat then cls ++ vm else f6)

/-- The instruction an XV word carries (02 R51): majors 0x26 to 0x35 only. -/
def xvInner (f6 op : BitVec 6) (vm : BitVec 2) (cls : BitVec 4) (me : Bool) (b a d : BitVec 5) :
    Option Instr :=
  if 0x26 ≤ op.toNat ∧ op.toNat ≤ 0x35 then decode32 (xvInnerWord f6 op vm cls me b a d) else none

/-- The reserved fields of an XV word (02 R51). -/
def xvFieldsOk (f6 op : BitVec 6) (ds : BitVec 3) (vm : BitVec 2) (dm : BitVec 8) (cls : BitVec 4)
    (me : Bool) (mi : BitVec 4) : Bool :=
  (me || mi == 0) &&
  (if 0x30 ≤ op.toNat then f6 == 0 && dm != 0
   else if op.toNat = 0x26 then ds == 0 && dm == 0 && vm == 0 && cls == 0 && !me && mi == 0
   else vm == 0 && cls == 0 && dm != 0)

/-- XV (02 R51). -/
def decXv (w : BitVec 64) : Option Instr :=
  let f6 := xF6 w
  let op := w.extractLsb' 52 6
  let ds := w.extractLsb' 49 3
  let vm := w.extractLsb' 47 2
  let dm := w.extractLsb' 45 2 ++ xAux w
  if xE w = 0 ∧ xvFieldsOk f6 op ds vm dm (xCls w) (xMe w) (xMi w) = true ∧
      (xvInner f6 op vm (xCls w) (xMe w) (xB w) (xA w) (xD w)).isSome = true
  then some (.xv f6 op ds vm dm (xCls w) (xMe w) (xMi w) (xB w) (xA w) (xD w) (xSt w)) else none

/-- The .VS word an XVI word stands for: the vector source in W[31:27], the scalar field zero
(02 R52). -/
def xviInnerWord (op f6 : BitVec 6) (a d : BitVec 5) : BitVec 32 := mk32 a 0 d 0 0 op f6

/-- The unary members of VFP (06 Table 06-5). -/
def unaryFp (f6 : BitVec 6) : Bool :=
  (decide (4 ≤ f6.toNat) && decide (f6.toNat ≤ 9)) || (decide (19 ≤ f6.toNat) && decide (f6.toNat ≤ 21))

/-- The instruction an XVI word stands for (02 R52, 06 R172): members of VINT.VS, VFP.VS and the .VS
half of VFMA that take a scalar operand and do not require their mask enable. A unary VFP member takes none. -/
def xviInner (op f6 : BitVec 6) (a d : BitVec 5) : Option Instr :=
  if (op.toNat = 0x28 ∧ f6.toNat ≠ 23) ∨ (op.toNat = 0x2B ∧ unaryFp f6 = false ∧ f6.toNat ≠ 22) ∨
      (op.toNat = 0x2C ∧ 4 ≤ f6.toNat)
  then decode32 (xviInnerWord op f6 a d) else none

/-- XVI (02 R52). -/
def decXvi (w : BitVec 64) : Option Instr :=
  if (xviInner (xAux w) (w.extractLsb' 26 6) (xA w) (xD w)).isSome = true
  then some (.xvi (xAux w) (xD w) (xA w) (w.extractLsb' 26 6) (w.extractLsb' 32 32) (xSt w)) else none

/-- LDX, major64 2: the member in W[63:58] (03 R66), reserved fields zero (02 R49, R59). -/
def decLdx (w : BitVec 64) : Option Instr :=
  match (xF6 w).toNat with
  | 0 =>
    if xAuxHi w 2 = 0 ∧ xB w = 0 ∧ xE w = 0 ∧ xMe w = false ∧ xMi w = 0
    then some (.lacq (xD w) (xA w) (xImm w) (xAux2 w) (xScope w) (xCls w) (xSt w)) else none
  | 1 =>
    if xAuxHi w 2 = 0 ∧ xD w = 0 ∧ xE w = 0 ∧ xMe w = false ∧ xMi w = 0
    then some (.srel (xB w) (xA w) (xImm w) (xAux2 w) (xScope w) (xCls w) (xSt w)) else none
  | _ => none

/-- AMO, major64 3: the member in W[63:58] (03 R66), reserved fields zero (02 R49, R59). -/
def decAmo (w : BitVec 64) : Option Instr :=
  match (xF6 w).toNat with
  | 0 =>
    if xAuxHi w 3 = 0 ∧ xE w = 0 ∧ xMe w = false ∧ xMi w = 0
    then some (.aswap (xD w) (xA w) (xB w) (xImm w) (xAux2 w) ((xAux w).getLsbD 2) (xScope w) (xCls w) (xSt w)) else none
  | 1 =>
    if xAuxHi w 3 = 0 ∧ xE w = 0 ∧ xMe w = false ∧ xMi w = 0
    then some (.aadd (xD w) (xA w) (xB w) (xImm w) (xAux2 w) ((xAux w).getLsbD 2) (xScope w) (xCls w) (xSt w)) else none
  | 2 =>
    if xAuxHi w 3 = 0 ∧ xE w = 0 ∧ xMe w = false ∧ xMi w = 0
    then some (.aand (xD w) (xA w) (xB w) (xImm w) (xAux2 w) ((xAux w).getLsbD 2) (xScope w) (xCls w) (xSt w)) else none
  | 3 =>
    if xAuxHi w 3 = 0 ∧ xE w = 0 ∧ xMe w = false ∧ xMi w = 0
    then some (.aor (xD w) (xA w) (xB w) (xImm w) (xAux2 w) ((xAux w).getLsbD 2) (xScope w) (xCls w) (xSt w)) else none
  | 4 =>
    if xAuxHi w 3 = 0 ∧ xE w = 0 ∧ xMe w = false ∧ xMi w = 0
    then some (.axor (xD w) (xA w) (xB w) (xImm w) (xAux2 w) ((xAux w).getLsbD 2) (xScope w) (xCls w) (xSt w)) else none
  | 5 =>
    if xAuxHi w 3 = 0 ∧ xE w = 0 ∧ xMe w = false ∧ xMi w = 0
    then some (.amin (xD w) (xA w) (xB w) (xImm w) (xAux2 w) ((xAux w).getLsbD 2) (xScope w) (xCls w) (xSt w)) else none
  | 6 =>
    if xAuxHi w 3 = 0 ∧ xE w = 0 ∧ xMe w = false ∧ xMi w = 0
    then some (.amax (xD w) (xA w) (xB w) (xImm w) (xAux2 w) ((xAux w).getLsbD 2) (xScope w) (xCls w) (xSt w)) else none
  | 7 =>
    if xAuxHi w 3 = 0 ∧ xE w = 0 ∧ xMe w = false ∧ xMi w = 0
    then some (.aminn (xD w) (xA w) (xB w) (xImm w) (xAux2 w) ((xAux w).getLsbD 2) (xScope w) (xCls w) (xSt w)) else none
  | 8 =>
    if xAuxHi w 3 = 0 ∧ xE w = 0 ∧ xMe w = false ∧ xMi w = 0
    then some (.amaxn (xD w) (xA w) (xB w) (xImm w) (xAux2 w) ((xAux w).getLsbD 2) (xScope w) (xCls w) (xSt w)) else none
  | 9 =>
    if xAuxHi w 3 = 0 ∧ xE w = 0 ∧ xMe w = false ∧ xMi w = 0
    then some (.ainc (xD w) (xA w) (xB w) (xImm w) (xAux2 w) ((xAux w).getLsbD 2) (xScope w) (xCls w) (xSt w)) else none
  | 10 =>
    if xAuxHi w 3 = 0 ∧ xE w = 0 ∧ xMe w = false ∧ xMi w = 0
    then some (.adec (xD w) (xA w) (xB w) (xImm w) (xAux2 w) ((xAux w).getLsbD 2) (xScope w) (xCls w) (xSt w)) else none
  | 11 =>
    if xAuxHi w 3 = 0 ∧ xMe w = false ∧ xMi w = 0
    then some (.abadd (xD w) (xA w) (xB w) (xE w) (xImm w) (xAux2 w) ((xAux w).getLsbD 2) (xScope w) (xCls w) (xSt w)) else none
  | 12 =>
    if xAuxHi w 3 = 0 ∧ xMe w = false ∧ xMi w = 0
    then some (.acas (xD w) (xA w) (xB w) (xE w) (xImm w) (xAux2 w) ((xAux w).getLsbD 2) (xScope w) (xCls w) (xSt w)) else none
  | 13 =>
    if xAuxHi w 3 = 0 ∧ xB w = 0 ∧ xE w = 0 ∧ xMe w = false ∧ xMi w = 0
    then some (.ll (xD w) (xA w) (xImm w) (xAux2 w) ((xAux w).getLsbD 2) (xScope w) (xCls w) (xSt w)) else none
  | 14 =>
    if xAuxHi w 3 = 0 ∧ xE w = 0 ∧ xMe w = false ∧ xMi w = 0
    then some (.sc (xD w) (xA w) (xB w) (xImm w) (xAux2 w) ((xAux w).getLsbD 2) (xScope w) (xCls w) (xSt w)) else none
  | _ => none

/-- VAMO, major64 4: the member in W[63:58] (03 R66), reserved fields zero (02 R49, R59); vd is a field of every member, read
or not (log 52). -/
def decVamo (w : BitVec 64) : Option Instr :=
  match (xF6 w).toNat with
  | 0 =>
    if xDs w = 0 ∧ xDm w ≠ 0 ∧ xAuxHi w 1 = 0 ∧ (xMe w = true ∨ xMi w = 0)
    then some (.vaadd (xD w) (xA w) (xB w) (xE w) ((xAux w).getLsbD 0) (xDm w) (xMe w) (xMi w) (xScope w) (xCls w) (xSt w)) else none
  | 1 =>
    if xDs w = 0 ∧ xDm w ≠ 0 ∧ xAuxHi w 1 = 0 ∧ (xMe w = true ∨ xMi w = 0)
    then some (.vaand (xD w) (xA w) (xB w) (xE w) ((xAux w).getLsbD 0) (xDm w) (xMe w) (xMi w) (xScope w) (xCls w) (xSt w)) else none
  | 2 =>
    if xDs w = 0 ∧ xDm w ≠ 0 ∧ xAuxHi w 1 = 0 ∧ (xMe w = true ∨ xMi w = 0)
    then some (.vaor (xD w) (xA w) (xB w) (xE w) ((xAux w).getLsbD 0) (xDm w) (xMe w) (xMi w) (xScope w) (xCls w) (xSt w)) else none
  | 3 =>
    if xDs w = 0 ∧ xDm w ≠ 0 ∧ xAuxHi w 1 = 0 ∧ (xMe w = true ∨ xMi w = 0)
    then some (.vaxor (xD w) (xA w) (xB w) (xE w) ((xAux w).getLsbD 0) (xDm w) (xMe w) (xMi w) (xScope w) (xCls w) (xSt w)) else none
  | 4 =>
    if xDs w = 0 ∧ xDm w ≠ 0 ∧ xAuxHi w 1 = 0 ∧ (xMe w = true ∨ xMi w = 0)
    then some (.vamin (xD w) (xA w) (xB w) (xE w) ((xAux w).getLsbD 0) (xDm w) (xMe w) (xMi w) (xScope w) (xCls w) (xSt w)) else none
  | 5 =>
    if xDs w = 0 ∧ xDm w ≠ 0 ∧ xAuxHi w 1 = 0 ∧ (xMe w = true ∨ xMi w = 0)
    then some (.vamax (xD w) (xA w) (xB w) (xE w) ((xAux w).getLsbD 0) (xDm w) (xMe w) (xMi w) (xScope w) (xCls w) (xSt w)) else none
  | 6 =>
    if xDs w = 0 ∧ xDm w ≠ 0 ∧ xAuxHi w 1 = 0 ∧ (xMe w = true ∨ xMi w = 0)
    then some (.vaswap (xD w) (xA w) (xB w) (xE w) ((xAux w).getLsbD 0) (xDm w) (xMe w) (xMi w) (xScope w) (xCls w) (xSt w)) else none
  | 7 =>
    if xDs w = 0 ∧ xDm w ≠ 0 ∧ xAuxHi w 1 = 0 ∧ (xMe w = true ∨ xMi w = 0)
    then some (.vainc (xD w) (xA w) (xB w) (xE w) ((xAux w).getLsbD 0) (xDm w) (xMe w) (xMi w) (xScope w) (xCls w) (xSt w)) else none
  | 8 =>
    if xDs w = 0 ∧ xDm w ≠ 0 ∧ xAuxHi w 1 = 0 ∧ (xMe w = true ∨ xMi w = 0)
    then some (.vabadd (xD w) (xA w) (xB w) (xE w) ((xAux w).getLsbD 0) (xDm w) (xMe w) (xMi w) (xScope w) (xCls w) (xSt w)) else none
  | 9 =>
    if xDs w = 0 ∧ xDm w ≠ 0 ∧ xAuxHi w 1 = 0 ∧ (xMe w = true ∨ xMi w = 0)
    then some (.vfaadd (xD w) (xA w) (xB w) (xE w) ((xAux w).getLsbD 0) (xDm w) (xMe w) (xMi w) (xScope w) (xCls w) (xSt w)) else none
  | 10 =>
    if xDs w = 0 ∧ xDm w ≠ 0 ∧ xAuxHi w 1 = 0 ∧ (xMe w = true ∨ xMi w = 0)
    then some (.vfamax (xD w) (xA w) (xB w) (xE w) ((xAux w).getLsbD 0) (xDm w) (xMe w) (xMi w) (xScope w) (xCls w) (xSt w)) else none
  | _ => none

/-- VLINK, major64 5: the member in W[63:58] (03 R66), reserved fields zero (02 R49, R59). -/
def decVlink (w : BitVec 64) : Option Instr :=
  match (xF6 w).toNat with
  | 0 =>
    if xDs w = 0 ∧ xDm w ≠ 0 ∧ xAux w = 0 ∧ xE w = 0 ∧ (xMe w = true ∨ xMi w = 0)
    then some (.vgl (xD w) (xA w) (xB w) (xDm w) (xMe w) (xMi w) (xScope w) (xCls w) (xSt w)) else none
  | 1 =>
    if xDs w = 0 ∧ xDm w ≠ 0 ∧ xAux w = 0 ∧ (xMe w = true ∨ xMi w = 0)
    then some (.vsc (xD w) (xA w) (xB w) (xE w) (xDm w) (xMe w) (xMi w) (xScope w) (xCls w) (xSt w)) else none
  | _ => none

/-- VLDX, major64 6: the member in W[63:58] (03 R66), reserved fields zero (02 R49, R59). -/
def decVldx (w : BitVec 64) : Option Instr :=
  match (xF6 w).toNat with
  | 0 =>
    if xDs w = 0 ∧ xDm w ≠ 0 ∧ xAuxHi w 3 = 0 ∧ (xAux w).extractLsb' 1 2 ≠ 3#2 ∧ xB w = 0 ∧ xE w = 0 ∧ xScope w = 0 ∧ (xMe w = true ∨ xMi w = 0)
    then some (.vldq (xD w) (xA w) ((xAux w).getLsbD 0) ((xAux w).extractLsb' 1 2) (xDm w) (xMe w) (xMi w) (xCls w) (xSt w)) else none
  | 1 =>
    if xDs w = 0 ∧ xDm w ≠ 0 ∧ xAuxHi w 3 = 0 ∧ (xAux w).extractLsb' 1 2 ≠ 3#2 ∧ xD w = 0 ∧ xB w = 0 ∧ xScope w = 0 ∧ (xMe w = true ∨ xMi w = 0)
    then some (.vstq (xE w) (xA w) ((xAux w).getLsbD 0) ((xAux w).extractLsb' 1 2) (xDm w) (xMe w) (xMi w) (xCls w) (xSt w)) else none
  | 2 =>
    if xDs w = 0 ∧ xDm w ≠ 0 ∧ xAux w = 0 ∧ xB w = 0 ∧ xE w = 0 ∧ xScope w = 0 ∧ (xMe w = true ∨ xMi w = 0)
    then some (.vldf16 (xD w) (xA w) (xDm w) (xMe w) (xMi w) (xCls w) (xSt w)) else none
  | 3 =>
    if xDs w = 0 ∧ xDm w ≠ 0 ∧ xAux w = 0 ∧ xD w = 0 ∧ xB w = 0 ∧ xScope w = 0 ∧ (xMe w = true ∨ xMi w = 0)
    then some (.vstf16 (xE w) (xA w) (xDm w) (xMe w) (xMi w) (xCls w) (xSt w)) else none
  | 4 =>
    if xDs w = 0 ∧ xDm w ≠ 0 ∧ xAuxHi w 5 = 0 ∧ (xAux w).extractLsb' 0 3 ≠ 0#3 ∧ xB w = 0 ∧ xE w = 0 ∧ xScope w = 0 ∧ (xMe w = true ∨ xMi w = 0)
    then some (.vlseg (xD w) (xA w) ((xAux w).extractLsb' 0 3) ((xAux w).extractLsb' 3 2) (xDm w) (xMe w) (xMi w) (xCls w) (xSt w)) else none
  | 5 =>
    if xDs w = 0 ∧ xDm w ≠ 0 ∧ xAuxHi w 5 = 0 ∧ (xAux w).extractLsb' 0 3 ≠ 0#3 ∧ xD w = 0 ∧ xB w = 0 ∧ xScope w = 0 ∧ (xMe w = true ∨ xMi w = 0)
    then some (.vsseg (xE w) (xA w) ((xAux w).extractLsb' 0 3) ((xAux w).extractLsb' 3 2) (xDm w) (xMe w) (xMi w) (xCls w) (xSt w)) else none
  | _ => none

/-- VXF, major64 7: the member in W[63:58] (03 R66), reserved fields zero (02 R49, R59). -/
def decVxf (w : BitVec 64) : Option Instr :=
  match (xF6 w).toNat with
  | 0 =>
    if xDs w = 0 ∧ xDm w ≠ 0 ∧ xAux w = 0 ∧ xE w = 0 ∧ xScope w = 0 ∧ xMe w = false ∧ xMi w = 0
    then some (.vpush (xD w) (xB w) (xA w) (xDm w) (xCls w) (xSt w)) else none
  | 1 =>
    if xDs w = 0 ∧ xDm w ≠ 0 ∧ xAux w = 0 ∧ xB w = 0 ∧ xE w = 0 ∧ xScope w = 0 ∧ xCls w = 0 ∧ xMe w = false ∧ xMi w = 0
    then some (.vtake (xD w) (xA w) (xDm w) (xSt w)) else none
  | 2 =>
    if xDs w = 0 ∧ xDm w ≠ 0 ∧ xAux w = 0 ∧ xA w = 0 ∧ xB w = 0 ∧ xE w = 0 ∧ xScope w = 0 ∧ xCls w = 0 ∧ xMe w = false ∧ xMi w = 0
    then some (.vempty (xD w) (xDm w) (xSt w)) else none
  | 3 =>
    if xDs w = 0 ∧ xDm w ≠ 0 ∧ xAux w = 0 ∧ xA w = 0 ∧ xB w = 0 ∧ xE w = 0 ∧ xScope w = 0 ∧ xCls w = 0 ∧ xMe w = false ∧ xMi w = 0
    then some (.vfill (xD w) (xDm w) (xSt w)) else none
  | _ => none

/-- FUT, major64 8: the member in W[63:58] (03 R66), reserved fields zero (02 R49, R59). -/
def decFut (w : BitVec 64) : Option Instr :=
  match (xF6 w).toNat with
  | 0 =>
    if xAux w = 0 ∧ xB w = 0 ∧ xE w = 0 ∧ xMe w = false ∧ xMi w = 0
    then some (.fget (xD w) (xA w) (xImm w) (xScope w) (xCls w) (xSt w)) else none
  | 1 =>
    if xAux w = 0 ∧ xB w = 0 ∧ xE w = 0 ∧ xMe w = false ∧ xMi w = 0
    then some (.ftake (xD w) (xA w) (xImm w) (xScope w) (xCls w) (xSt w)) else none
  | 2 =>
    if xAux w = 0 ∧ xD w = 0 ∧ xE w = 0 ∧ xMe w = false ∧ xMi w = 0
    then some (.fgive (xB w) (xA w) (xImm w) (xScope w) (xCls w) (xSt w)) else none
  | 3 =>
    if xAux w = 0 ∧ xD w = 0 ∧ xB w = 0 ∧ xE w = 0 ∧ xMe w = false ∧ xMi w = 0
    then some (.fempty (xA w) (xImm w) (xScope w) (xCls w) (xSt w)) else none
  | 4 =>
    if xAux w = 0 ∧ xB w = 0 ∧ xE w = 0 ∧ xMe w = false ∧ xMi w = 0
    then some (.fpeek (xD w) (xA w) (xImm w) (xScope w) (xCls w) (xSt w)) else none
  | _ => none

/-- STRM, major64 9: the member in W[63:58] (03 R66), reserved fields zero (02 R49, R59). -/
def decStrm (w : BitVec 64) : Option Instr :=
  match (xF6 w).toNat with
  | 0 =>
    if xAux w = 0 ∧ xB w = 0 ∧ xE w = 0 ∧ xScope w = 0 ∧ xCls w = 0 ∧ xMe w = false ∧ xMi w = 0
    then some (.sbind (xD w) (xA w) (xImm w) (xSt w)) else none
  | 1 =>
    if xImm w = 0 ∧ xAux w = 0 ∧ xA w = 0 ∧ xB w = 0 ∧ xE w = 0 ∧ xScope w = 0 ∧ xCls w = 0 ∧ xMe w = false ∧ xMi w = 0
    then some (.sunbind (xD w) (xSt w)) else none
  | 2 =>
    if xImm w = 0 ∧ xAux w = 0 ∧ xA w = 0 ∧ xE w = 0 ∧ xScope w = 0 ∧ xCls w = 0 ∧ xMe w = false ∧ xMi w = 0
    then some (.sstat (xD w) (xB w) (xSt w)) else none
  | 3 =>
    if xImm w = 0 ∧ xAux w = 0 ∧ xA w = 0 ∧ xB w = 0 ∧ xE w = 0 ∧ xScope w = 0 ∧ xCls w = 0 ∧ xMe w = false ∧ xMi w = 0
    then some (.sflush (xD w) (xSt w)) else none
  | _ => none

/-- TILE, major64 10: the member in W[63:58] (03 R66), reserved fields zero (02 R49, R59). -/
def decTile (w : BitVec 64) : Option Instr :=
  match (xF6 w).toNat with
  | 0 =>
    if xImmHi w 1 = 0 ∧ xAux w = 0 ∧ xScope w = 0 ∧ xMe w = false ∧ xMi w = 0
    then some (.tplanar (xD w) (xA w) (xB w) (xE w) (xImmB w 0) (xCls w) (xSt w)) else none
  | 1 =>
    if xImm w = 0 ∧ xAux w = 0 ∧ xB w = 0 ∧ xE w = 0 ∧ xMe w = false ∧ xMi w = 0
    then some (.tpost (xD w) (xA w) (xScope w) (xCls w) (xSt w)) else none
  | 2 =>
    if xImm w = 0 ∧ xAux w = 0 ∧ xD w = 0 ∧ xB w = 0 ∧ xE w = 0 ∧ xScope w = 0 ∧ xMe w = false ∧ xMi w = 0
    then some (.tzero (xA w) (xCls w) (xSt w)) else none
  | 3 =>
    if xImm w = 0 ∧ xAux w = 0 ∧ xD w = 0 ∧ xE w = 0 ∧ xScope w = 0 ∧ xMe w = false ∧ xMi w = 0
    then some (.trenorm (xA w) (xB w) (xCls w) (xSt w)) else none
  | 4 =>
    if xImm w = 0 ∧ xAux w = 0 ∧ xE w = 0 ∧ xScope w = 0 ∧ (xMe w = true ∨ xMi w = 0)
    then some (.tload (xD w) (xA w) (xB w) (xMe w) (xMi w) (xCls w) (xSt w)) else none
  | 5 =>
    if xImmHi w 6 = 0 ∧ 1 ≤ ((xImm w).extractLsb' 0 5).toNat ∧ ((xImm w).extractLsb' 0 5).toNat ≤ 25 ∧ xAux w = 0 ∧ xD w = 0 ∧ xE w = 0 ∧ xScope w = 0 ∧ xMe w = false ∧ xMi w = 0
    then some (.tinit (xA w) (xB w) ((xImm w).extractLsb' 0 5) (xImmB w 5) (xCls w) (xSt w)) else none
  | 6 =>
    if xImm w = 0 ∧ xAux w = 0 ∧ xB w = 0 ∧ xE w = 0 ∧ xScope w = 0 ∧ xMe w = false ∧ xMi w = 0
    then some (.tstat (xD w) (xA w) (xCls w) (xSt w)) else none
  | 7 =>
    if xImm w = 0 ∧ xAux w = 0 ∧ xE w = 0 ∧ xScope w = 0 ∧ xMe w = false ∧ xMi w = 0
    then some (.tflags (xD w) (xA w) (xB w) (xCls w) (xSt w)) else none
  | _ => none

/-- ENG, major64 11: the member in W[63:58] (03 R66), reserved fields zero (02 R49, R59). -/
def decEng (w : BitVec 64) : Option Instr :=
  match (xF6 w).toNat with
  | 0 =>
    if xImm w = 0 ∧ xAux w = 0 ∧ xB w = 0 ∧ xE w = 0 ∧ xScope w = 0 ∧ xCls w = 0 ∧ xMe w = false ∧ xMi w = 0
    then some (.epost (xD w) (xA w) (xSt w)) else none
  | 1 =>
    if xImmHi w 1 = 0 ∧ xAux w = 0 ∧ xB w = 0 ∧ xE w = 0 ∧ xScope w = 0 ∧ xCls w = 0 ∧ xMe w = false ∧ xMi w = 0
    then some (.esusp (xD w) (xA w) (xImmB w 0) (xSt w)) else none
  | 2 =>
    if xImmHi w 1 = 0 ∧ xAux w = 0 ∧ xB w = 0 ∧ xE w = 0 ∧ xScope w = 0 ∧ xCls w = 0 ∧ xMe w = false ∧ xMi w = 0
    then some (.eresm (xD w) (xA w) (xImmB w 0) (xSt w)) else none
  | 3 =>
    if xImmHi w 2 = 0 ∧ xAux w = 0 ∧ xB w = 0 ∧ xE w = 0 ∧ xScope w = 0 ∧ xCls w = 0 ∧ xMe w = false ∧ xMi w = 0
    then some (.estat (xD w) (xA w) ((xImm w).extractLsb' 0 2) (xSt w)) else none
  | 4 =>
    if xAux w = 0 ∧ xE w = 0 ∧ xMe w = false ∧ xMi w = 0
    then some (.ewait (xD w) (xA w) (xB w) (xImm w) (xScope w) (xCls w) (xSt w)) else none
  | _ => none

/-- LOCK, major64 12: the member in W[63:58] (03 R66), reserved fields zero (02 R49, R59). -/
def decLock (w : BitVec 64) : Option Instr :=
  match (xF6 w).toNat with
  | 0 =>
    if xImm w = 0 ∧ xAuxHi w 3 = 0 ∧ (xAux w).extractLsb' 0 3 ≠ 0#3 ∧ (xAux w).extractLsb' 0 3 ≠ 7#3 ∧ xScope w ≠ 0 ∧ xB w = 0 ∧ xE w = 0 ∧ xCls w = 0 ∧ xMe w = false ∧ xMi w = 0
    then some (.lkacq (xD w) (xA w) ((xAux w).extractLsb' 0 3) (xScope w) (xSt w)) else none
  | 1 =>
    if xImm w = 0 ∧ xAuxHi w 3 = 0 ∧ (xAux w).extractLsb' 0 3 ≠ 0#3 ∧ (xAux w).extractLsb' 0 3 ≠ 7#3 ∧ xScope w ≠ 0 ∧ xB w = 0 ∧ xE w = 0 ∧ xCls w = 0 ∧ xMe w = false ∧ xMi w = 0
    then some (.lktry (xD w) (xA w) ((xAux w).extractLsb' 0 3) (xScope w) (xSt w)) else none
  | 2 =>
    if xImm w = 0 ∧ xAux w = 0 ∧ xScope w ≠ 0 ∧ xB w = 0 ∧ xE w = 0 ∧ xCls w = 0 ∧ xMe w = false ∧ xMi w = 0
    then some (.lkrel (xD w) (xA w) (xScope w) (xSt w)) else none
  | 3 =>
    if xImm w = 0 ∧ xAuxHi w 3 = 0 ∧ (xAux w).extractLsb' 0 3 ≠ 0#3 ∧ (xAux w).extractLsb' 0 3 ≠ 7#3 ∧ xScope w ≠ 0 ∧ xB w = 0 ∧ xE w = 0 ∧ xCls w = 0 ∧ xMe w = false ∧ xMi w = 0
    then some (.lkup (xD w) (xA w) ((xAux w).extractLsb' 0 3) (xScope w) (xSt w)) else none
  | 4 =>
    if xImm w = 0 ∧ xAuxHi w 3 = 0 ∧ (xAux w).extractLsb' 0 3 ≠ 0#3 ∧ (xAux w).extractLsb' 0 3 ≠ 7#3 ∧ xScope w ≠ 0 ∧ xB w = 0 ∧ xE w = 0 ∧ xCls w = 0 ∧ xMe w = false ∧ xMi w = 0
    then some (.lkdown (xD w) (xA w) ((xAux w).extractLsb' 0 3) (xScope w) (xSt w)) else none
  | 5 =>
    if xImm w = 0 ∧ xAux w = 0 ∧ xScope w ≠ 0 ∧ xA w = 0 ∧ xB w = 0 ∧ xE w = 0 ∧ xCls w = 0 ∧ xMe w = false ∧ xMi w = 0
    then some (.lkrelall (xD w) (xScope w) (xSt w)) else none
  | 6 =>
    if xImm w = 0 ∧ xAux w = 0 ∧ xScope w ≠ 0 ∧ xB w = 0 ∧ xE w = 0 ∧ xCls w = 0 ∧ xMe w = false ∧ xMi w = 0
    then some (.lkstat (xD w) (xA w) (xScope w) (xSt w)) else none
  | _ => none

/-- SCHED, major64 13: the member in W[63:58] (03 R66), reserved fields zero (02 R49, R59). -/
def decSched (w : BitVec 64) : Option Instr :=
  match (xF6 w).toNat with
  | 0 =>
    if xImmHi w 1 = 0 ∧ xAux w = 0 ∧ xB w = 0 ∧ xE w = 0 ∧ xScope w = 0 ∧ xCls w = 0 ∧ xMe w = false ∧ xMi w = 0
    then some (.nlaunch (xD w) (xA w) (xImmB w 0) (xSt w)) else none
  | 1 =>
    if xImm w = 0 ∧ xAux w = 0 ∧ xD w = 0 ∧ xE w = 0 ∧ xScope w = 0 ∧ xCls w = 0 ∧ xMe w = false ∧ xMi w = 0
    then some (.llease (xA w) (xB w) (xSt w)) else none
  | 2 =>
    if xImmHi w 3 = 0 ∧ xAux w = 0 ∧ xD w = 0 ∧ xB w = 0 ∧ xE w = 0 ∧ xScope w = 0 ∧ xCls w = 0 ∧ xMe w = false ∧ xMi w = 0
    then some (.bset ((xImm w).extractLsb' 0 3) (xA w) (xSt w)) else none
  | 3 =>
    if xImmHi w 3 = 0 ∧ xAux w = 0 ∧ xScope w ≠ 0 ∧ xA w = 0 ∧ xB w = 0 ∧ xE w = 0 ∧ xCls w = 0 ∧ xMe w = false ∧ xMi w = 0
    then some (.barr (xD w) ((xImm w).extractLsb' 0 3) (xScope w) (xSt w)) else none
  | 4 =>
    if xImmHi w 3 = 0 ∧ xAux w = 0 ∧ xScope w ≠ 0 ∧ xD w = 0 ∧ xB w = 0 ∧ xE w = 0 ∧ xCls w = 0 ∧ xMe w = false ∧ xMi w = 0
    then some (.bwait ((xImm w).extractLsb' 0 3) (xA w) (xScope w) (xSt w)) else none
  | 5 =>
    if xImmHi w 3 = 0 ∧ xAux w = 0 ∧ xScope w ≠ 0 ∧ xD w = 0 ∧ xA w = 0 ∧ xB w = 0 ∧ xE w = 0 ∧ xCls w = 0 ∧ xMe w = false ∧ xMi w = 0
    then some (.bsync ((xImm w).extractLsb' 0 3) (xScope w) (xSt w)) else none
  | 6 =>
    if xImmHi w 6 = 0 ∧ xAux w = 0 ∧ xA w = 0 ∧ xB w = 0 ∧ xE w = 0 ∧ xScope w = 0 ∧ xCls w = 0 ∧ xMe w = false ∧ xMi w = 0
    then some (.tsread (xD w) ((xImm w).extractLsb' 0 6) (xSt w)) else none
  | _ => none

/-- The instruction of a 64-bit word, or none where the encoding is reserved (02 R49, R50, R51, R52, R59). -/
def decode64 (w : BitVec 64) : Option Instr :=
  match (xMaj w).toNat with
  | 1 => decImm w
  | 2 => decLdx w
  | 3 => decAmo w
  | 4 => decVamo w
  | 5 => decVlink w
  | 6 => decVldx w
  | 7 => decVxf w
  | 8 => decFut w
  | 9 => decStrm w
  | 10 => decTile w
  | 11 => decEng w
  | 12 => decLock w
  | 13 => decSched w
  | 14 => decXv w
  | 15 => decXvi w
  | _ => none

/-- The little-endian value of some bytes (00 R6). -/
def leNat : List Byte → Nat
  | [] => 0
  | b :: bs => b.toNat + 256 * leNat bs

/-- The first n bytes of a value, least significant first (00 R6). -/
def leBytes : Nat → Nat → List Byte
  | 0, _ => []
  | n + 1, v => BitVec.ofNat 8 v :: leBytes n (v / 256)

/-- The length in bytes that the first parcel states (02 R43). -/
def parcelLength (p : BitVec 16) : Nat :=
  if p.getLsbD 15 then (if p.getLsbD 14 then 8 else 4) else 2

/-- An instruction and its length from the first bytes of a list (02 R43). -/
def decode (bs : List Byte) : Except DecodeErr (Instr × Nat) :=
  if bs.length < 2 then .error .short
  else
    let p := BitVec.ofNat 16 (leNat (bs.take 2))
    let n := parcelLength p
    if bs.length < n then .error .short
    else
      let r := if n = 2 then decode16 p
        else if n = 4 then decode32 (BitVec.ofNat 32 (leNat (bs.take 4)))
        else decode64 (BitVec.ofNat 64 (leNat (bs.take 8)))
      match r with
      | some i => .ok (i, n)
      | none => .error .reserved

/-- The 32-bit word of an instruction that has one (02 Table 02-1, 03 R64). -/
def encode32 : Instr → Option (BitVec 32)
  | .add d a b st => some (mk32 (b) (a) (d) (0#1) st 1 (0#6))
  | .sub d a b st => some (mk32 (b) (a) (d) (0#1) st 1 (1#6))
  | .and d a b st => some (mk32 (b) (a) (d) (0#1) st 1 (2#6))
  | .or d a b st => some (mk32 (b) (a) (d) (0#1) st 1 (3#6))
  | .xor d a b st => some (mk32 (b) (a) (d) (0#1) st 1 (4#6))
  | .andn d a b st => some (mk32 (b) (a) (d) (0#1) st 1 (5#6))
  | .sll d a b st => some (mk32 (b) (a) (d) (0#1) st 1 (6#6))
  | .srl d a b st => some (mk32 (b) (a) (d) (0#1) st 1 (7#6))
  | .sra d a b st => some (mk32 (b) (a) (d) (0#1) st 1 (8#6))
  | .ror d a b st => some (mk32 (b) (a) (d) (0#1) st 1 (9#6))
  | .slt d a b st => some (mk32 (b) (a) (d) (0#1) st 1 (10#6))
  | .sltn d a b st => some (mk32 (b) (a) (d) (0#1) st 1 (11#6))
  | .min d a b st => some (mk32 (b) (a) (d) (0#1) st 1 (12#6))
  | .max d a b st => some (mk32 (b) (a) (d) (0#1) st 1 (13#6))
  | .minn d a b st => some (mk32 (b) (a) (d) (0#1) st 1 (14#6))
  | .maxn d a b st => some (mk32 (b) (a) (d) (0#1) st 1 (15#6))
  | .mul d a b st => some (mk32 (b) (a) (d) (0#1) st 1 (16#6))
  | .mulh d a b st => some (mk32 (b) (a) (d) (0#1) st 1 (17#6))
  | .mulhn d a b st => some (mk32 (b) (a) (d) (0#1) st 1 (18#6))
  | .div d a b st => some (mk32 (b) (a) (d) (0#1) st 1 (19#6))
  | .divn d a b st => some (mk32 (b) (a) (d) (0#1) st 1 (20#6))
  | .rem d a b st => some (mk32 (b) (a) (d) (0#1) st 1 (21#6))
  | .remn d a b st => some (mk32 (b) (a) (d) (0#1) st 1 (22#6))
  | .clz d a st => some (mk32 (0#5) (a) (d) (0#1) st 1 (23#6))
  | .ctz d a st => some (mk32 (0#5) (a) (d) (0#1) st 1 (24#6))
  | .cpop d a st => some (mk32 (0#5) (a) (d) (0#1) st 1 (25#6))
  | .sextb d a st => some (mk32 (0#5) (a) (d) (0#1) st 1 (26#6))
  | .sexth d a st => some (mk32 (0#5) (a) (d) (0#1) st 1 (27#6))
  | .sextw d a st => some (mk32 (0#5) (a) (d) (0#1) st 1 (28#6))
  | .bswap d a st => some (mk32 (0#5) (a) (d) (0#1) st 1 (29#6))
  | .csel d a b st => some (mk32 (b) (a) (d) (0#1) st 1 (30#6))
  | .slli d a h st => some (mk32 (h.extractLsb' 0 5) (a) (d) (h.extractLsb' 5 1) st 2 (0#6))
  | .srli d a h st => some (mk32 (h.extractLsb' 0 5) (a) (d) (h.extractLsb' 5 1) st 2 (1#6))
  | .srai d a h st => some (mk32 (h.extractLsb' 0 5) (a) (d) (h.extractLsb' 5 1) st 2 (2#6))
  | .rori d a h st => some (mk32 (h.extractLsb' 0 5) (a) (d) (h.extractLsb' 5 1) st 2 (3#6))
  | .addi d a i st => some (mk32 (i.extractLsb' 7 5) (a) (d) (i.extractLsb' 6 1) st 3 (i.extractLsb' 0 6))
  | .andi d a i st => some (mk32 (i.extractLsb' 7 5) (a) (d) (i.extractLsb' 6 1) st 4 (i.extractLsb' 0 6))
  | .ori d a i st => some (mk32 (i.extractLsb' 7 5) (a) (d) (i.extractLsb' 6 1) st 5 (i.extractLsb' 0 6))
  | .xori d a i st => some (mk32 (i.extractLsb' 7 5) (a) (d) (i.extractLsb' 6 1) st 6 (i.extractLsb' 0 6))
  | .slti d a i st => some (mk32 (i.extractLsb' 7 5) (a) (d) (i.extractLsb' 6 1) st 7 (i.extractLsb' 0 6))
  | .sltin d a i st => some (mk32 (i.extractLsb' 7 5) (a) (d) (i.extractLsb' 6 1) st 8 (i.extractLsb' 0 6))
  | .movhi d i st => some (mk32 (i.extractLsb' 12 5) (i.extractLsb' 7 5) (d) (i.extractLsb' 6 1) st 9 (i.extractLsb' 0 6))
  | .pgrel d i st => some (mk32 (i.extractLsb' 12 5) (i.extractLsb' 7 5) (d) (i.extractLsb' 6 1) st 10 (i.extractLsb' 0 6))
  | .jal d i st => some (mk32 (i.extractLsb' 12 5) (i.extractLsb' 7 5) (d) (i.extractLsb' 6 1) st 11 (i.extractLsb' 0 6))
  | .jalr d a i st => some (mk32 (i.extractLsb' 7 5) (a) (d) (i.extractLsb' 6 1) st 12 (i.extractLsb' 0 6))
  | .beq a b i st => some (mk32 (i.extractLsb' 7 5) (a) (b) (i.extractLsb' 6 1) st 13 (i.extractLsb' 0 6))
  | .bne a b i st => some (mk32 (i.extractLsb' 7 5) (a) (b) (i.extractLsb' 6 1) st 14 (i.extractLsb' 0 6))
  | .blt a b i st => some (mk32 (i.extractLsb' 7 5) (a) (b) (i.extractLsb' 6 1) st 15 (i.extractLsb' 0 6))
  | .bge a b i st => some (mk32 (i.extractLsb' 7 5) (a) (b) (i.extractLsb' 6 1) st 16 (i.extractLsb' 0 6))
  | .bltn a b i st => some (mk32 (i.extractLsb' 7 5) (a) (b) (i.extractLsb' 6 1) st 17 (i.extractLsb' 0 6))
  | .bgen a b i st => some (mk32 (i.extractLsb' 7 5) (a) (b) (i.extractLsb' 6 1) st 18 (i.extractLsb' 0 6))
  | .sbnz a b i st => some (mk32 (i.extractLsb' 7 5) (a) (b) (i.extractLsb' 6 1) st 19 (i.extractLsb' 0 6))
  | .ld8 d a o c st => some (mk32 (c ++ 0#1) (a) (d) (o.extractLsb' 6 1) st 20 (o.extractLsb' 0 6))
  | .ld8s d a o c st => some (mk32 (c ++ 1#1) (a) (d) (o.extractLsb' 6 1) st 20 (o.extractLsb' 0 6))
  | .ld16 d a o c st => some (mk32 (c ++ 0#1) (a) (d) (o.extractLsb' 6 1) st 21 (o.extractLsb' 0 6))
  | .ld16s d a o c st => some (mk32 (c ++ 1#1) (a) (d) (o.extractLsb' 6 1) st 21 (o.extractLsb' 0 6))
  | .ld32 d a o c st => some (mk32 (c ++ 0#1) (a) (d) (o.extractLsb' 6 1) st 22 (o.extractLsb' 0 6))
  | .ld32s d a o c st => some (mk32 (c ++ 1#1) (a) (d) (o.extractLsb' 6 1) st 22 (o.extractLsb' 0 6))
  | .ld64 d a o c st => some (mk32 (c ++ 0#1) (a) (d) (o.extractLsb' 6 1) st 23 (o.extractLsb' 0 6))
  | .st8 d a o c st => some (mk32 (c ++ 0#1) (a) (d) (o.extractLsb' 6 1) st 24 (o.extractLsb' 0 6))
  | .st16 d a o c st => some (mk32 (c ++ 0#1) (a) (d) (o.extractLsb' 6 1) st 25 (o.extractLsb' 0 6))
  | .st32 d a o c st => some (mk32 (c ++ 0#1) (a) (d) (o.extractLsb' 6 1) st 26 (o.extractLsb' 0 6))
  | .st64 d a o c st => some (mk32 (c ++ 0#1) (a) (d) (o.extractLsb' 6 1) st 27 (o.extractLsb' 0 6))
  | .fadd d a b p st => some (mk32 (b) (a) (d) (BitVec.ofBool p) st 28 (0#6))
  | .fsub d a b p st => some (mk32 (b) (a) (d) (BitVec.ofBool p) st 28 (1#6))
  | .fmul d a b p st => some (mk32 (b) (a) (d) (BitVec.ofBool p) st 28 (2#6))
  | .fdiv d a b p st => some (mk32 (b) (a) (d) (BitVec.ofBool p) st 28 (3#6))
  | .fsqrt d a p st => some (mk32 (0#5) (a) (d) (BitVec.ofBool p) st 28 (4#6))
  | .fmin d a b p st => some (mk32 (b) (a) (d) (BitVec.ofBool p) st 28 (5#6))
  | .fmax d a b p st => some (mk32 (b) (a) (d) (BitVec.ofBool p) st 28 (6#6))
  | .feq d a b p st => some (mk32 (b) (a) (d) (BitVec.ofBool p) st 28 (7#6))
  | .flt d a b p st => some (mk32 (b) (a) (d) (BitVec.ofBool p) st 28 (8#6))
  | .fle d a b p st => some (mk32 (b) (a) (d) (BitVec.ofBool p) st 28 (9#6))
  | .fclass d a p st => some (mk32 (0#5) (a) (d) (BitVec.ofBool p) st 28 (10#6))
  | .fsgnj d a b p st => some (mk32 (b) (a) (d) (BitVec.ofBool p) st 28 (11#6))
  | .fsgnjn d a b p st => some (mk32 (b) (a) (d) (BitVec.ofBool p) st 28 (12#6))
  | .fsgnjx d a b p st => some (mk32 (b) (a) (d) (BitVec.ofBool p) st 28 (13#6))
  | .fcvtfi d a p st => some (mk32 (0#5) (a) (d) (BitVec.ofBool p) st 28 (14#6))
  | .fcvtfn d a p st => some (mk32 (0#5) (a) (d) (BitVec.ofBool p) st 28 (15#6))
  | .fcvtif d a p st => some (mk32 (0#5) (a) (d) (BitVec.ofBool p) st 28 (16#6))
  | .fcvtnf d a p st => some (mk32 (0#5) (a) (d) (BitVec.ofBool p) st 28 (17#6))
  | .fcvtff d a p st => some (mk32 (0#5) (a) (d) (BitVec.ofBool p) st 28 (18#6))
  | .fcvtbf d a p st => some (mk32 (0#5) (a) (d) (BitVec.ofBool p) st 28 (19#6))
  | .fcvtfb d a p st => some (mk32 (0#5) (a) (d) (BitVec.ofBool p) st 28 (20#6))
  | .ffma32 d a b e v st => some (mk32 (b) (a) (d) (v.extractLsb' 1 1) st 29 (e ++ v.extractLsb' 0 1))
  | .ffma64 d a b e v st => some (mk32 (b) (a) (d) (v.extractLsb' 1 1) st 30 (e ++ v.extractLsb' 0 1))
  | .svc st => some (mk32 (0#5) (0#5) (0#5) (0#1) st 31 (0#6))
  | .tret st => some (mk32 (0#5) (0#5) (0#5) (0#1) st 31 (1#6))
  | .brk st => some (mk32 (0#5) (0#5) (0#5) (0#1) st 31 (2#6))
  | .nap st => some (mk32 (0#5) (0#5) (0#5) (0#1) st 31 (3#6))
  | .kend st => some (mk32 (0#5) (0#5) (0#5) (0#1) st 31 (4#6))
  | .iflush st => some (mk32 (0#5) (0#5) (0#5) (0#1) st 31 (5#6))
  | .uret st => some (mk32 (0#5) (0#5) (0#5) (0#1) st 31 (6#6))
  | .yield st => some (mk32 (0#5) (0#5) (0#5) (0#1) st 31 (7#6))
  | .iprf a o st => some (mk32 (0#5) (a) (0#5) (o.extractLsb' 6 1) st 32 (o.extractLsb' 0 6))
  | .dprf a o c st => some (mk32 (c ++ 0#1) (a) (0#5) (o.extractLsb' 6 1) st 33 (o.extractLsb' 0 6))
  | .fence k e st => some (mk32 (k.extractLsb' 11 5) (k.extractLsb' 6 5) (0#3 ++ e) (0#1) st 34 (k.extractLsb' 0 6))
  | .fenceacq k e st => some (mk32 (k.extractLsb' 11 5) (k.extractLsb' 6 5) (1#3 ++ e) (0#1) st 34 (k.extractLsb' 0 6))
  | .fencerel k e st => some (mk32 (k.extractLsb' 11 5) (k.extractLsb' 6 5) (2#3 ++ e) (0#1) st 34 (k.extractLsb' 0 6))
  | .vdrain k e st => some (mk32 (k.extractLsb' 11 5) (k.extractLsb' 6 5) (3#3 ++ e) (0#1) st 34 (k.extractLsb' 0 6))
  | .csrrw d a c st => some (mk32 (c.extractLsb' 7 5) (a) (d) (c.extractLsb' 6 1) st 35 (c.extractLsb' 0 6))
  | .csrrs d a c st => some (mk32 (c.extractLsb' 7 5) (a) (d) (c.extractLsb' 6 1) st 36 (c.extractLsb' 0 6))
  | .csrrc d a c st => some (mk32 (c.extractLsb' 7 5) (a) (d) (c.extractLsb' 6 1) st 37 (c.extractLsb' 0 6))
  | .vsetl d a st => some (mk32 (0#5) (a) (d) (0#1) st 38 (0#6))
  | .vsetvt d a st => some (mk32 (0#5) (a) (d) (0#1) st 38 (1#6))
  | .vsetty d t st => some (mk32 (t) (0#5) (d) (0#1) st 38 (2#6))
  | .vsetdie a b st => some (mk32 (b) (a) (0#5) (0#1) st 38 (3#6))
  | .vaddVv d a b m st => some (mk32 (b) (a) (d) (BitVec.ofBool m) st 39 (0#6))
  | .vaddVs d a b m st => some (mk32 (b) (a) (d) (BitVec.ofBool m) st 40 (0#6))
  | .vaddVi d b i m st => some (mk32 (b) (i) (d) (BitVec.ofBool m) st 41 (0#6))
  | .vsubVv d a b m st => some (mk32 (b) (a) (d) (BitVec.ofBool m) st 39 (1#6))
  | .vsubVs d a b m st => some (mk32 (b) (a) (d) (BitVec.ofBool m) st 40 (1#6))
  | .vsubVi d b i m st => some (mk32 (b) (i) (d) (BitVec.ofBool m) st 41 (1#6))
  | .vrsubVv d a b m st => some (mk32 (b) (a) (d) (BitVec.ofBool m) st 39 (2#6))
  | .vrsubVs d a b m st => some (mk32 (b) (a) (d) (BitVec.ofBool m) st 40 (2#6))
  | .vrsubVi d b i m st => some (mk32 (b) (i) (d) (BitVec.ofBool m) st 41 (2#6))
  | .vmulVv d a b m st => some (mk32 (b) (a) (d) (BitVec.ofBool m) st 39 (3#6))
  | .vmulVs d a b m st => some (mk32 (b) (a) (d) (BitVec.ofBool m) st 40 (3#6))
  | .vmulVi d b i m st => some (mk32 (b) (i) (d) (BitVec.ofBool m) st 41 (3#6))
  | .vmulhVv d a b m st => some (mk32 (b) (a) (d) (BitVec.ofBool m) st 39 (4#6))
  | .vmulhVs d a b m st => some (mk32 (b) (a) (d) (BitVec.ofBool m) st 40 (4#6))
  | .vmulhVi d b i m st => some (mk32 (b) (i) (d) (BitVec.ofBool m) st 41 (4#6))
  | .vmulhnVv d a b m st => some (mk32 (b) (a) (d) (BitVec.ofBool m) st 39 (5#6))
  | .vmulhnVs d a b m st => some (mk32 (b) (a) (d) (BitVec.ofBool m) st 40 (5#6))
  | .vmulhnVi d b i m st => some (mk32 (b) (i) (d) (BitVec.ofBool m) st 41 (5#6))
  | .vmacVv d a b m st => some (mk32 (b) (a) (d) (BitVec.ofBool m) st 39 (6#6))
  | .vmacVs d a b m st => some (mk32 (b) (a) (d) (BitVec.ofBool m) st 40 (6#6))
  | .vmacVi d b i m st => some (mk32 (b) (i) (d) (BitVec.ofBool m) st 41 (6#6))
  | .vandVv d a b m st => some (mk32 (b) (a) (d) (BitVec.ofBool m) st 39 (7#6))
  | .vandVs d a b m st => some (mk32 (b) (a) (d) (BitVec.ofBool m) st 40 (7#6))
  | .vandVi d b i m st => some (mk32 (b) (i) (d) (BitVec.ofBool m) st 41 (7#6))
  | .vorVv d a b m st => some (mk32 (b) (a) (d) (BitVec.ofBool m) st 39 (8#6))
  | .vorVs d a b m st => some (mk32 (b) (a) (d) (BitVec.ofBool m) st 40 (8#6))
  | .vorVi d b i m st => some (mk32 (b) (i) (d) (BitVec.ofBool m) st 41 (8#6))
  | .vxorVv d a b m st => some (mk32 (b) (a) (d) (BitVec.ofBool m) st 39 (9#6))
  | .vxorVs d a b m st => some (mk32 (b) (a) (d) (BitVec.ofBool m) st 40 (9#6))
  | .vxorVi d b i m st => some (mk32 (b) (i) (d) (BitVec.ofBool m) st 41 (9#6))
  | .vsllVv d a b m st => some (mk32 (b) (a) (d) (BitVec.ofBool m) st 39 (10#6))
  | .vsllVs d a b m st => some (mk32 (b) (a) (d) (BitVec.ofBool m) st 40 (10#6))
  | .vsllVi d b i m st => some (mk32 (b) (i) (d) (BitVec.ofBool m) st 41 (10#6))
  | .vsrlVv d a b m st => some (mk32 (b) (a) (d) (BitVec.ofBool m) st 39 (11#6))
  | .vsrlVs d a b m st => some (mk32 (b) (a) (d) (BitVec.ofBool m) st 40 (11#6))
  | .vsrlVi d b i m st => some (mk32 (b) (i) (d) (BitVec.ofBool m) st 41 (11#6))
  | .vsraVv d a b m st => some (mk32 (b) (a) (d) (BitVec.ofBool m) st 39 (12#6))
  | .vsraVs d a b m st => some (mk32 (b) (a) (d) (BitVec.ofBool m) st 40 (12#6))
  | .vsraVi d b i m st => some (mk32 (b) (i) (d) (BitVec.ofBool m) st 41 (12#6))
  | .vminVv d a b m st => some (mk32 (b) (a) (d) (BitVec.ofBool m) st 39 (13#6))
  | .vminVs d a b m st => some (mk32 (b) (a) (d) (BitVec.ofBool m) st 40 (13#6))
  | .vminVi d b i m st => some (mk32 (b) (i) (d) (BitVec.ofBool m) st 41 (13#6))
  | .vmaxVv d a b m st => some (mk32 (b) (a) (d) (BitVec.ofBool m) st 39 (14#6))
  | .vmaxVs d a b m st => some (mk32 (b) (a) (d) (BitVec.ofBool m) st 40 (14#6))
  | .vmaxVi d b i m st => some (mk32 (b) (i) (d) (BitVec.ofBool m) st 41 (14#6))
  | .vminnVv d a b m st => some (mk32 (b) (a) (d) (BitVec.ofBool m) st 39 (15#6))
  | .vminnVs d a b m st => some (mk32 (b) (a) (d) (BitVec.ofBool m) st 40 (15#6))
  | .vminnVi d b i m st => some (mk32 (b) (i) (d) (BitVec.ofBool m) st 41 (15#6))
  | .vmaxnVv d a b m st => some (mk32 (b) (a) (d) (BitVec.ofBool m) st 39 (16#6))
  | .vmaxnVs d a b m st => some (mk32 (b) (a) (d) (BitVec.ofBool m) st 40 (16#6))
  | .vmaxnVi d b i m st => some (mk32 (b) (i) (d) (BitVec.ofBool m) st 41 (16#6))
  | .vdivVv d a b m st => some (mk32 (b) (a) (d) (BitVec.ofBool m) st 39 (17#6))
  | .vdivVs d a b m st => some (mk32 (b) (a) (d) (BitVec.ofBool m) st 40 (17#6))
  | .vdivVi d b i m st => some (mk32 (b) (i) (d) (BitVec.ofBool m) st 41 (17#6))
  | .vdivnVv d a b m st => some (mk32 (b) (a) (d) (BitVec.ofBool m) st 39 (18#6))
  | .vdivnVs d a b m st => some (mk32 (b) (a) (d) (BitVec.ofBool m) st 40 (18#6))
  | .vdivnVi d b i m st => some (mk32 (b) (i) (d) (BitVec.ofBool m) st 41 (18#6))
  | .vremVv d a b m st => some (mk32 (b) (a) (d) (BitVec.ofBool m) st 39 (19#6))
  | .vremVs d a b m st => some (mk32 (b) (a) (d) (BitVec.ofBool m) st 40 (19#6))
  | .vremVi d b i m st => some (mk32 (b) (i) (d) (BitVec.ofBool m) st 41 (19#6))
  | .vremnVv d a b m st => some (mk32 (b) (a) (d) (BitVec.ofBool m) st 39 (20#6))
  | .vremnVs d a b m st => some (mk32 (b) (a) (d) (BitVec.ofBool m) st 40 (20#6))
  | .vremnVi d b i m st => some (mk32 (b) (i) (d) (BitVec.ofBool m) st 41 (20#6))
  | .vsaddVv d a b m st => some (mk32 (b) (a) (d) (BitVec.ofBool m) st 39 (21#6))
  | .vsaddVs d a b m st => some (mk32 (b) (a) (d) (BitVec.ofBool m) st 40 (21#6))
  | .vsaddVi d b i m st => some (mk32 (b) (i) (d) (BitVec.ofBool m) st 41 (21#6))
  | .vssubVv d a b m st => some (mk32 (b) (a) (d) (BitVec.ofBool m) st 39 (22#6))
  | .vssubVs d a b m st => some (mk32 (b) (a) (d) (BitVec.ofBool m) st 40 (22#6))
  | .vssubVi d b i m st => some (mk32 (b) (i) (d) (BitVec.ofBool m) st 41 (22#6))
  | .vmergeVv d a b st => some (mk32 (b) (a) (d.1) (BitVec.ofBool d.2) st 39 (23#6))
  | .vmergeVs d a b st => some (mk32 (b) (a) (d.1) (BitVec.ofBool d.2) st 40 (23#6))
  | .vmergeVi d b i st => some (mk32 (b) (i) (d.1) (BitVec.ofBool d.2) st 41 (23#6))
  | .vmvVv d a m st => some (mk32 (0#5) (a) (d) (BitVec.ofBool m) st 39 (24#6))
  | .vmvVs d a m st => some (mk32 (0#5) (a) (d) (BitVec.ofBool m) st 40 (24#6))
  | .vmvVi d i m st => some (mk32 (0#5) (i) (d) (BitVec.ofBool m) st 41 (24#6))
  | .vseqVv d a b m st => some (mk32 (b) (a) (d) (BitVec.ofBool m) st 39 (25#6))
  | .vseqVs d a b m st => some (mk32 (b) (a) (d) (BitVec.ofBool m) st 40 (25#6))
  | .vseqVi d b i m st => some (mk32 (b) (i) (d) (BitVec.ofBool m) st 41 (25#6))
  | .vsneVv d a b m st => some (mk32 (b) (a) (d) (BitVec.ofBool m) st 39 (26#6))
  | .vsneVs d a b m st => some (mk32 (b) (a) (d) (BitVec.ofBool m) st 40 (26#6))
  | .vsneVi d b i m st => some (mk32 (b) (i) (d) (BitVec.ofBool m) st 41 (26#6))
  | .vsltVv d a b m st => some (mk32 (b) (a) (d) (BitVec.ofBool m) st 39 (27#6))
  | .vsltVs d a b m st => some (mk32 (b) (a) (d) (BitVec.ofBool m) st 40 (27#6))
  | .vsltVi d b i m st => some (mk32 (b) (i) (d) (BitVec.ofBool m) st 41 (27#6))
  | .vsltnVv d a b m st => some (mk32 (b) (a) (d) (BitVec.ofBool m) st 39 (28#6))
  | .vsltnVs d a b m st => some (mk32 (b) (a) (d) (BitVec.ofBool m) st 40 (28#6))
  | .vsltnVi d b i m st => some (mk32 (b) (i) (d) (BitVec.ofBool m) st 41 (28#6))
  | .vsleVv d a b m st => some (mk32 (b) (a) (d) (BitVec.ofBool m) st 39 (29#6))
  | .vsleVs d a b m st => some (mk32 (b) (a) (d) (BitVec.ofBool m) st 40 (29#6))
  | .vsleVi d b i m st => some (mk32 (b) (i) (d) (BitVec.ofBool m) st 41 (29#6))
  | .vslenVv d a b m st => some (mk32 (b) (a) (d) (BitVec.ofBool m) st 39 (30#6))
  | .vslenVs d a b m st => some (mk32 (b) (a) (d) (BitVec.ofBool m) st 40 (30#6))
  | .vslenVi d b i m st => some (mk32 (b) (i) (d) (BitVec.ofBool m) st 41 (30#6))
  | .vfaddVv d a b m st => some (mk32 (b) (a) (d) (BitVec.ofBool m) st 42 (0#6))
  | .vfaddVs d a b m st => some (mk32 (b) (a) (d) (BitVec.ofBool m) st 43 (0#6))
  | .vfsubVv d a b m st => some (mk32 (b) (a) (d) (BitVec.ofBool m) st 42 (1#6))
  | .vfsubVs d a b m st => some (mk32 (b) (a) (d) (BitVec.ofBool m) st 43 (1#6))
  | .vfmulVv d a b m st => some (mk32 (b) (a) (d) (BitVec.ofBool m) st 42 (2#6))
  | .vfmulVs d a b m st => some (mk32 (b) (a) (d) (BitVec.ofBool m) st 43 (2#6))
  | .vfdivVv d a b m st => some (mk32 (b) (a) (d) (BitVec.ofBool m) st 42 (3#6))
  | .vfdivVs d a b m st => some (mk32 (b) (a) (d) (BitVec.ofBool m) st 43 (3#6))
  | .vfsqrt d a m st => some (mkUnary d a m st (4#6))
  | .vfrsqe d a m st => some (mkUnary d a m st (5#6))
  | .vfrece d a m st => some (mkUnary d a m st (6#6))
  | .vfexp d a m st => some (mkUnary d a m st (7#6))
  | .vfexp2 d a m st => some (mkUnary d a m st (8#6))
  | .vflog2 d a m st => some (mkUnary d a m st (9#6))
  | .vfminVv d a b m st => some (mk32 (b) (a) (d) (BitVec.ofBool m) st 42 (10#6))
  | .vfminVs d a b m st => some (mk32 (b) (a) (d) (BitVec.ofBool m) st 43 (10#6))
  | .vfmaxVv d a b m st => some (mk32 (b) (a) (d) (BitVec.ofBool m) st 42 (11#6))
  | .vfmaxVs d a b m st => some (mk32 (b) (a) (d) (BitVec.ofBool m) st 43 (11#6))
  | .vfsgnjVv d a b m st => some (mk32 (b) (a) (d) (BitVec.ofBool m) st 42 (12#6))
  | .vfsgnjVs d a b m st => some (mk32 (b) (a) (d) (BitVec.ofBool m) st 43 (12#6))
  | .vfsgnjnVv d a b m st => some (mk32 (b) (a) (d) (BitVec.ofBool m) st 42 (13#6))
  | .vfsgnjnVs d a b m st => some (mk32 (b) (a) (d) (BitVec.ofBool m) st 43 (13#6))
  | .vfsgnjxVv d a b m st => some (mk32 (b) (a) (d) (BitVec.ofBool m) st 42 (14#6))
  | .vfsgnjxVs d a b m st => some (mk32 (b) (a) (d) (BitVec.ofBool m) st 43 (14#6))
  | .vfeqVv d a b m st => some (mk32 (b) (a) (d) (BitVec.ofBool m) st 42 (15#6))
  | .vfeqVs d a b m st => some (mk32 (b) (a) (d) (BitVec.ofBool m) st 43 (15#6))
  | .vfneVv d a b m st => some (mk32 (b) (a) (d) (BitVec.ofBool m) st 42 (16#6))
  | .vfneVs d a b m st => some (mk32 (b) (a) (d) (BitVec.ofBool m) st 43 (16#6))
  | .vfltVv d a b m st => some (mk32 (b) (a) (d) (BitVec.ofBool m) st 42 (17#6))
  | .vfltVs d a b m st => some (mk32 (b) (a) (d) (BitVec.ofBool m) st 43 (17#6))
  | .vfleVv d a b m st => some (mk32 (b) (a) (d) (BitVec.ofBool m) st 42 (18#6))
  | .vfleVs d a b m st => some (mk32 (b) (a) (d) (BitVec.ofBool m) st 43 (18#6))
  | .vfclass d a m st => some (mkUnary d a m st (19#6))
  | .vfcvt d a m st => some (mkUnary d a m st (20#6))
  | .vfround d a m st => some (mkUnary d a m st (21#6))
  | .vfmergeVv d a b st => some (mk32 (b) (a) (d.1) (BitVec.ofBool d.2) st 42 (22#6))
  | .vfmergeVs d a b st => some (mk32 (b) (a) (d.1) (BitVec.ofBool d.2) st 43 (22#6))
  | .vfmaccVv d a b m st => some (mk32 (b) (a) (d) (BitVec.ofBool m) st 44 (0#6))
  | .vfnmaccVv d a b m st => some (mk32 (b) (a) (d) (BitVec.ofBool m) st 44 (1#6))
  | .vfmsacVv d a b m st => some (mk32 (b) (a) (d) (BitVec.ofBool m) st 44 (2#6))
  | .vfnmsacVv d a b m st => some (mk32 (b) (a) (d) (BitVec.ofBool m) st 44 (3#6))
  | .vfmaccVs d a b m st => some (mk32 (b) (a) (d) (BitVec.ofBool m) st 44 (4#6))
  | .vfnmaccVs d a b m st => some (mk32 (b) (a) (d) (BitVec.ofBool m) st 44 (5#6))
  | .vfmsacVs d a b m st => some (mk32 (b) (a) (d) (BitVec.ofBool m) st 44 (6#6))
  | .vfnmsacVs d a b m st => some (mk32 (b) (a) (d) (BitVec.ofBool m) st 44 (7#6))
  | .vredsum d a b m st => some (mk32 (b) (a) (d) (BitVec.ofBool m) st 45 (0#6))
  | .vredand d a b m st => some (mk32 (b) (a) (d) (BitVec.ofBool m) st 45 (1#6))
  | .vredor d a b m st => some (mk32 (b) (a) (d) (BitVec.ofBool m) st 45 (2#6))
  | .vredxor d a b m st => some (mk32 (b) (a) (d) (BitVec.ofBool m) st 45 (3#6))
  | .vredmin d a b m st => some (mk32 (b) (a) (d) (BitVec.ofBool m) st 45 (4#6))
  | .vredmax d a b m st => some (mk32 (b) (a) (d) (BitVec.ofBool m) st 45 (5#6))
  | .vredminn d a b m st => some (mk32 (b) (a) (d) (BitVec.ofBool m) st 45 (6#6))
  | .vredmaxn d a b m st => some (mk32 (b) (a) (d) (BitVec.ofBool m) st 45 (7#6))
  | .vfredsum d a b m st => some (mk32 (b) (a) (d) (BitVec.ofBool m) st 45 (8#6))
  | .vfredmin d a b m st => some (mk32 (b) (a) (d) (BitVec.ofBool m) st 45 (9#6))
  | .vfredmax d a b m st => some (mk32 (b) (a) (d) (BitVec.ofBool m) st 45 (10#6))
  | .vscan d a m st => some (mk32 (0#5) (a) (d) (BitVec.ofBool m) st 45 (11#6))
  | .vfscan d a m st => some (mk32 (0#5) (a) (d) (BitVec.ofBool m) st 45 (12#6))
  | .vsmx d a b m st => some (mk32 (b) (a) (d) (BitVec.ofBool m) st 45 (13#6))
  | .vslideup d a b m st => some (mk32 (b) (a) (d) (BitVec.ofBool m) st 46 (0#6))
  | .vslidedn d a b m st => some (mk32 (b) (a) (d) (BitVec.ofBool m) st 46 (1#6))
  | .vslide1up d a b m st => some (mk32 (b) (a) (d) (BitVec.ofBool m) st 46 (2#6))
  | .vslide1dn d a b m st => some (mk32 (b) (a) (d) (BitVec.ofBool m) st 46 (3#6))
  | .vrgath d a b m st => some (mk32 (b) (a) (d) (BitVec.ofBool m) st 46 (4#6))
  | .vcompress d a m st => some (mk32 (0#5) (a) (d) (BitVec.ofBool m) st 46 (5#6))
  | .vexpand d a m st => some (mk32 (0#5) (a) (d) (BitVec.ofBool m) st 46 (6#6))
  | .vzip d a b m st => some (mk32 (b) (a) (d) (BitVec.ofBool m) st 46 (7#6))
  | .vunzipe d a m st => some (mk32 (0#5) (a) (d) (BitVec.ofBool m) st 46 (8#6))
  | .vunzipo d a m st => some (mk32 (0#5) (a) (d) (BitVec.ofBool m) st 46 (9#6))
  | .vdrot d a m st => some (mk32 (0#5) (a) (d) (BitVec.ofBool m) st 46 (10#6))
  | .vsplat d a m st => some (mk32 (0#5) (a) (d) (BitVec.ofBool m) st 46 (11#6))
  | .vid d m st => some (mk32 (0#5) (0#5) (d) (BitVec.ofBool m) st 46 (12#6))
  | .vins d a b m st => some (mk32 (b) (a) (d) (BitVec.ofBool m) st 46 (13#6))
  | .vext d a b st => some (mk32 (b) (a) (d) (0#1) st 46 (14#6))
  | .mand d a b st => some (mk32 (b) (a) (d) (0#1) st 47 (0#6))
  | .mor d a b st => some (mk32 (b) (a) (d) (0#1) st 47 (1#6))
  | .mxor d a b st => some (mk32 (b) (a) (d) (0#1) st 47 (2#6))
  | .mandn d a b st => some (mk32 (b) (a) (d) (0#1) st 47 (3#6))
  | .mnot d a st => some (mk32 (0#5) (a) (d) (0#1) st 47 (4#6))
  | .mset d st => some (mk32 (0#5) (0#5) (d) (0#1) st 47 (5#6))
  | .mclr d st => some (mk32 (0#5) (0#5) (d) (0#1) st 47 (6#6))
  | .mmv d a st => some (mk32 (0#5) (a) (d) (0#1) st 47 (7#6))
  | .mpop d a st => some (mk32 (0#5) (a) (d) (0#1) st 47 (8#6))
  | .mfirst d a st => some (mk32 (0#5) (a) (d) (0#1) st 47 (9#6))
  | .msbf d a st => some (mk32 (0#5) (a) (d) (0#1) st 47 (10#6))
  | .mfromv d a st => some (mk32 (0#5) (a) (d) (0#1) st 47 (11#6))
  | .mtov d a st => some (mk32 (0#5) (a) (d) (0#1) st 47 (12#6))
  | .vld16 d a c m st => some (mk32 (0#5) (a) (d) (BitVec.ofBool m) st 48 (c ++ 0#2))
  | .vlds16 d a b c m st => some (mk32 (b) (a) (d) (BitVec.ofBool m) st 48 (c ++ 1#2))
  | .vldx16 d a b c m st => some (mk32 (b) (a) (d) (BitVec.ofBool m) st 48 (c ++ 2#2))
  | .vldff16 d a c m st => some (mk32 (0#5) (a) (d) (BitVec.ofBool m) st 48 (c ++ 3#2))
  | .vld32 d a c m st => some (mk32 (0#5) (a) (d) (BitVec.ofBool m) st 49 (c ++ 0#2))
  | .vlds32 d a b c m st => some (mk32 (b) (a) (d) (BitVec.ofBool m) st 49 (c ++ 1#2))
  | .vldx32 d a b c m st => some (mk32 (b) (a) (d) (BitVec.ofBool m) st 49 (c ++ 2#2))
  | .vldff32 d a c m st => some (mk32 (0#5) (a) (d) (BitVec.ofBool m) st 49 (c ++ 3#2))
  | .vld64 d a c m st => some (mk32 (0#5) (a) (d) (BitVec.ofBool m) st 50 (c ++ 0#2))
  | .vlds64 d a b c m st => some (mk32 (b) (a) (d) (BitVec.ofBool m) st 50 (c ++ 1#2))
  | .vldx64 d a b c m st => some (mk32 (b) (a) (d) (BitVec.ofBool m) st 50 (c ++ 2#2))
  | .vldff64 d a c m st => some (mk32 (0#5) (a) (d) (BitVec.ofBool m) st 50 (c ++ 3#2))
  | .vst16 d a c m st => some (mk32 (0#5) (a) (d) (BitVec.ofBool m) st 51 (c ++ 0#2))
  | .vsts16 d a b c m st => some (mk32 (b) (a) (d) (BitVec.ofBool m) st 51 (c ++ 1#2))
  | .vstxo16 d a b c m st => some (mk32 (b) (a) (d) (BitVec.ofBool m) st 51 (c ++ 2#2))
  | .vstxa16 d a b c m st => some (mk32 (b) (a) (d) (BitVec.ofBool m) st 51 (c ++ 3#2))
  | .vst32 d a c m st => some (mk32 (0#5) (a) (d) (BitVec.ofBool m) st 52 (c ++ 0#2))
  | .vsts32 d a b c m st => some (mk32 (b) (a) (d) (BitVec.ofBool m) st 52 (c ++ 1#2))
  | .vstxo32 d a b c m st => some (mk32 (b) (a) (d) (BitVec.ofBool m) st 52 (c ++ 2#2))
  | .vstxa32 d a b c m st => some (mk32 (b) (a) (d) (BitVec.ofBool m) st 52 (c ++ 3#2))
  | .vst64 d a c m st => some (mk32 (0#5) (a) (d) (BitVec.ofBool m) st 53 (c ++ 0#2))
  | .vsts64 d a b c m st => some (mk32 (b) (a) (d) (BitVec.ofBool m) st 53 (c ++ 1#2))
  | .vstxo64 d a b c m st => some (mk32 (b) (a) (d) (BitVec.ofBool m) st 53 (c ++ 2#2))
  | .vstxa64 d a b c m st => some (mk32 (b) (a) (d) (BitVec.ofBool m) st 53 (c ++ 3#2))
  | _ => none

/-- The compressed word of an instruction that has one (02 R53). -/
def encode16 : Instr → Option (BitVec 16)
  | .cIllegal a b => some (mk16 0 a b)
  | .cAdd a b => some (mk16 1 a b)
  | .cSub a b => some (mk16 2 a b)
  | .cMv a b => some (mk16 3 a b)
  | .cAddi a i => some (mk16 4 a i)
  | .cLi a i => some (mk16 5 a i)
  | .cSlli a h => some (mk16 6 a h)
  | .cSrli a h => some (mk16 7 a h)
  | .cAnd a b => some (mk16 8 a b)
  | .cOr a b => some (mk16 9 a b)
  | .cXor a b => some (mk16 10 a b)
  | .cLd64 a b => some (mk16 11 a b)
  | .cSt64 a b => some (mk16 12 a b)
  | .cBeqz a i => some (mk16 13 a i)
  | .cBnez a i => some (mk16 14 a i)
  | .cJ i => some (mk16 15 (i.extractLsb' 5 5) (i.extractLsb' 0 5))
  | .cJr a => some (mk16 16 a 0)
  | .cVsetl a b => some (mk16 17 a b)
  | .cVadd a b => some (mk16 18 a b)
  | .cVfadd a b => some (mk16 19 a b)
  | .cVmv a b => some (mk16 20 a b)
  | .cKend => some (mk16 21 0 0)
  | .cNop => some (mk16 22 0 0)
  | _ => none

/-- The 64-bit word of an instruction that has one (02 R48 to R52, 03 R66). -/
def encode64 : Instr → Option (BitVec 64)
  | .ldi d imm st => some (imm ++ d ++ 3#2 ++ st ++ 1#6 ++ 0#6)
  | .ldih d imm st => some (0#22 ++ imm ++ d ++ 3#2 ++ st ++ 1#6 ++ 1#6)
  | .xv f6 op ds vm dm cls me mi b a d st =>
    some (mk64 f6 (op ++ ds ++ vm) (dm.extractLsb' 6 2) cls (BitVec.ofBool me) mi 0 b a d st 14
      (dm.extractLsb' 0 6))
  | .xvi op d a f6 imm st => some (imm ++ f6 ++ a ++ d ++ 3#2 ++ st ++ 15#6 ++ op)
  | .lacq d a imm w scope cls st =>
    some (mk64 0 (imm) scope cls (0) 0 0 0 a d st 2 (0#4 ++ w))
  | .srel b a imm w scope cls st =>
    some (mk64 1 (imm) scope cls (0) 0 0 b a 0 st 2 (0#4 ++ w))
  | .aswap d a b imm ord wide scope cls st =>
    some (mk64 0 (imm) scope cls (0) 0 0 b a d st 3 (0#3 ++ BitVec.ofBool wide ++ ord))
  | .aadd d a b imm ord wide scope cls st =>
    some (mk64 1 (imm) scope cls (0) 0 0 b a d st 3 (0#3 ++ BitVec.ofBool wide ++ ord))
  | .aand d a b imm ord wide scope cls st =>
    some (mk64 2 (imm) scope cls (0) 0 0 b a d st 3 (0#3 ++ BitVec.ofBool wide ++ ord))
  | .aor d a b imm ord wide scope cls st =>
    some (mk64 3 (imm) scope cls (0) 0 0 b a d st 3 (0#3 ++ BitVec.ofBool wide ++ ord))
  | .axor d a b imm ord wide scope cls st =>
    some (mk64 4 (imm) scope cls (0) 0 0 b a d st 3 (0#3 ++ BitVec.ofBool wide ++ ord))
  | .amin d a b imm ord wide scope cls st =>
    some (mk64 5 (imm) scope cls (0) 0 0 b a d st 3 (0#3 ++ BitVec.ofBool wide ++ ord))
  | .amax d a b imm ord wide scope cls st =>
    some (mk64 6 (imm) scope cls (0) 0 0 b a d st 3 (0#3 ++ BitVec.ofBool wide ++ ord))
  | .aminn d a b imm ord wide scope cls st =>
    some (mk64 7 (imm) scope cls (0) 0 0 b a d st 3 (0#3 ++ BitVec.ofBool wide ++ ord))
  | .amaxn d a b imm ord wide scope cls st =>
    some (mk64 8 (imm) scope cls (0) 0 0 b a d st 3 (0#3 ++ BitVec.ofBool wide ++ ord))
  | .ainc d a b imm ord wide scope cls st =>
    some (mk64 9 (imm) scope cls (0) 0 0 b a d st 3 (0#3 ++ BitVec.ofBool wide ++ ord))
  | .adec d a b imm ord wide scope cls st =>
    some (mk64 10 (imm) scope cls (0) 0 0 b a d st 3 (0#3 ++ BitVec.ofBool wide ++ ord))
  | .abadd d a b e imm ord wide scope cls st =>
    some (mk64 11 (imm) scope cls (0) 0 e b a d st 3 (0#3 ++ BitVec.ofBool wide ++ ord))
  | .acas d a b e imm ord wide scope cls st =>
    some (mk64 12 (imm) scope cls (0) 0 e b a d st 3 (0#3 ++ BitVec.ofBool wide ++ ord))
  | .ll d a imm ord wide scope cls st =>
    some (mk64 13 (imm) scope cls (0) 0 0 0 a d st 3 (0#3 ++ BitVec.ofBool wide ++ ord))
  | .sc d a b imm ord wide scope cls st =>
    some (mk64 14 (imm) scope cls (0) 0 0 b a d st 3 (0#3 ++ BitVec.ofBool wide ++ ord))
  | .vaadd d a b e ret dm me mi scope cls st =>
    some (mk64 0 (0#3 ++ dm) scope cls (BitVec.ofBool me) mi e b a d st 4 (0#5 ++ BitVec.ofBool ret))
  | .vaand d a b e ret dm me mi scope cls st =>
    some (mk64 1 (0#3 ++ dm) scope cls (BitVec.ofBool me) mi e b a d st 4 (0#5 ++ BitVec.ofBool ret))
  | .vaor d a b e ret dm me mi scope cls st =>
    some (mk64 2 (0#3 ++ dm) scope cls (BitVec.ofBool me) mi e b a d st 4 (0#5 ++ BitVec.ofBool ret))
  | .vaxor d a b e ret dm me mi scope cls st =>
    some (mk64 3 (0#3 ++ dm) scope cls (BitVec.ofBool me) mi e b a d st 4 (0#5 ++ BitVec.ofBool ret))
  | .vamin d a b e ret dm me mi scope cls st =>
    some (mk64 4 (0#3 ++ dm) scope cls (BitVec.ofBool me) mi e b a d st 4 (0#5 ++ BitVec.ofBool ret))
  | .vamax d a b e ret dm me mi scope cls st =>
    some (mk64 5 (0#3 ++ dm) scope cls (BitVec.ofBool me) mi e b a d st 4 (0#5 ++ BitVec.ofBool ret))
  | .vaswap d a b e ret dm me mi scope cls st =>
    some (mk64 6 (0#3 ++ dm) scope cls (BitVec.ofBool me) mi e b a d st 4 (0#5 ++ BitVec.ofBool ret))
  | .vainc d a b e ret dm me mi scope cls st =>
    some (mk64 7 (0#3 ++ dm) scope cls (BitVec.ofBool me) mi e b a d st 4 (0#5 ++ BitVec.ofBool ret))
  | .vabadd d a b e ret dm me mi scope cls st =>
    some (mk64 8 (0#3 ++ dm) scope cls (BitVec.ofBool me) mi e b a d st 4 (0#5 ++ BitVec.ofBool ret))
  | .vfaadd d a b e ret dm me mi scope cls st =>
    some (mk64 9 (0#3 ++ dm) scope cls (BitVec.ofBool me) mi e b a d st 4 (0#5 ++ BitVec.ofBool ret))
  | .vfamax d a b e ret dm me mi scope cls st =>
    some (mk64 10 (0#3 ++ dm) scope cls (BitVec.ofBool me) mi e b a d st 4 (0#5 ++ BitVec.ofBool ret))
  | .vgl d a b dm me mi scope cls st =>
    some (mk64 0 (0#3 ++ dm) scope cls (BitVec.ofBool me) mi 0 b a d st 5 (0))
  | .vsc d a b e dm me mi scope cls st =>
    some (mk64 1 (0#3 ++ dm) scope cls (BitVec.ofBool me) mi e b a d st 5 (0))
  | .vldq d a q8 grp dm me mi cls st =>
    some (mk64 0 (0#3 ++ dm) 0 cls (BitVec.ofBool me) mi 0 0 a d st 6 (0#3 ++ grp ++ BitVec.ofBool q8))
  | .vstq e a q8 grp dm me mi cls st =>
    some (mk64 1 (0#3 ++ dm) 0 cls (BitVec.ofBool me) mi e 0 a 0 st 6 (0#3 ++ grp ++ BitVec.ofBool q8))
  | .vldf16 d a dm me mi cls st =>
    some (mk64 2 (0#3 ++ dm) 0 cls (BitVec.ofBool me) mi 0 0 a d st 6 (0))
  | .vstf16 e a dm me mi cls st =>
    some (mk64 3 (0#3 ++ dm) 0 cls (BitVec.ofBool me) mi e 0 a 0 st 6 (0))
  | .vlseg d a f w dm me mi cls st =>
    some (mk64 4 (0#3 ++ dm) 0 cls (BitVec.ofBool me) mi 0 0 a d st 6 (0#1 ++ w ++ f))
  | .vsseg e a f w dm me mi cls st =>
    some (mk64 5 (0#3 ++ dm) 0 cls (BitVec.ofBool me) mi e 0 a 0 st 6 (0#1 ++ w ++ f))
  | .vpush d b a dm cls st =>
    some (mk64 0 (0#3 ++ dm) 0 cls (0) 0 0 b a d st 7 (0))
  | .vtake d a dm st =>
    some (mk64 1 (0#3 ++ dm) 0 0 (0) 0 0 0 a d st 7 (0))
  | .vempty d dm st =>
    some (mk64 2 (0#3 ++ dm) 0 0 (0) 0 0 0 0 d st 7 (0))
  | .vfill d dm st =>
    some (mk64 3 (0#3 ++ dm) 0 0 (0) 0 0 0 0 d st 7 (0))
  | .fget d a imm scope cls st =>
    some (mk64 0 (imm) scope cls (0) 0 0 0 a d st 8 (0))
  | .ftake d a imm scope cls st =>
    some (mk64 1 (imm) scope cls (0) 0 0 0 a d st 8 (0))
  | .fgive b a imm scope cls st =>
    some (mk64 2 (imm) scope cls (0) 0 0 b a 0 st 8 (0))
  | .fempty a imm scope cls st =>
    some (mk64 3 (imm) scope cls (0) 0 0 0 a 0 st 8 (0))
  | .fpeek d a imm scope cls st =>
    some (mk64 4 (imm) scope cls (0) 0 0 0 a d st 8 (0))
  | .sbind d a imm st =>
    some (mk64 0 (imm) 0 0 (0) 0 0 0 a d st 9 (0))
  | .sunbind d st =>
    some (mk64 1 (0) 0 0 (0) 0 0 0 0 d st 9 (0))
  | .sstat d b st =>
    some (mk64 2 (0) 0 0 (0) 0 0 b 0 d st 9 (0))
  | .sflush d st =>
    some (mk64 3 (0) 0 0 (0) 0 0 0 0 d st 9 (0))
  | .tplanar d a b e keep cls st =>
    some (mk64 0 (0#10 ++ BitVec.ofBool keep) 0 cls (0) 0 e b a d st 10 (0))
  | .tpost d a scope cls st =>
    some (mk64 1 (0) scope cls (0) 0 0 0 a d st 10 (0))
  | .tzero a cls st =>
    some (mk64 2 (0) 0 cls (0) 0 0 0 a 0 st 10 (0))
  | .trenorm a b cls st =>
    some (mk64 3 (0) 0 cls (0) 0 0 b a 0 st 10 (0))
  | .tload d a b me mi cls st =>
    some (mk64 4 (0) 0 cls (BitVec.ofBool me) mi 0 b a d st 10 (0))
  | .tinit a b p role cls st =>
    some (mk64 5 (0#5 ++ BitVec.ofBool role ++ p) 0 cls (0) 0 0 b a 0 st 10 (0))
  | .tstat d a cls st =>
    some (mk64 6 (0) 0 cls (0) 0 0 0 a d st 10 (0))
  | .tflags d a b cls st =>
    some (mk64 7 (0) 0 cls (0) 0 0 b a d st 10 (0))
  | .epost d a st =>
    some (mk64 0 (0) 0 0 (0) 0 0 0 a d st 11 (0))
  | .esusp d a all st =>
    some (mk64 1 (0#10 ++ BitVec.ofBool all) 0 0 (0) 0 0 0 a d st 11 (0))
  | .eresm d a all st =>
    some (mk64 2 (0#10 ++ BitVec.ofBool all) 0 0 (0) 0 0 0 a d st 11 (0))
  | .estat d a sel st =>
    some (mk64 3 (0#9 ++ sel) 0 0 (0) 0 0 0 a d st 11 (0))
  | .ewait d a b imm scope cls st =>
    some (mk64 4 (imm) scope cls (0) 0 0 b a d st 11 (0))
  | .lkacq d a mode scope st =>
    some (mk64 0 (0) scope 0 (0) 0 0 0 a d st 12 (0#3 ++ mode))
  | .lktry d a mode scope st =>
    some (mk64 1 (0) scope 0 (0) 0 0 0 a d st 12 (0#3 ++ mode))
  | .lkrel d a scope st =>
    some (mk64 2 (0) scope 0 (0) 0 0 0 a d st 12 (0))
  | .lkup d a mode scope st =>
    some (mk64 3 (0) scope 0 (0) 0 0 0 a d st 12 (0#3 ++ mode))
  | .lkdown d a mode scope st =>
    some (mk64 4 (0) scope 0 (0) 0 0 0 a d st 12 (0#3 ++ mode))
  | .lkrelall d scope st =>
    some (mk64 5 (0) scope 0 (0) 0 0 0 0 d st 12 (0))
  | .lkstat d a scope st =>
    some (mk64 6 (0) scope 0 (0) 0 0 0 a d st 12 (0))
  | .nlaunch d a sup st =>
    some (mk64 0 (0#10 ++ BitVec.ofBool sup) 0 0 (0) 0 0 0 a d st 13 (0))
  | .llease a b st =>
    some (mk64 1 (0) 0 0 (0) 0 0 b a 0 st 13 (0))
  | .bset n a st =>
    some (mk64 2 (0#8 ++ n) 0 0 (0) 0 0 0 a 0 st 13 (0))
  | .barr d n scope st =>
    some (mk64 3 (0#8 ++ n) scope 0 (0) 0 0 0 0 d st 13 (0))
  | .bwait n a scope st =>
    some (mk64 4 (0#8 ++ n) scope 0 (0) 0 0 0 a 0 st 13 (0))
  | .bsync n scope st =>
    some (mk64 5 (0#8 ++ n) scope 0 (0) 0 0 0 0 0 st 13 (0))
  | .tsread d k st =>
    some (mk64 6 (0#5 ++ k) 0 0 (0) 0 0 0 0 d st 13 (0))
  | _ => none

/-- The bytes of an instruction in memory order (02 R43); none for a device event. -/
def encode (i : Instr) : Option (List Byte) :=
  match encode32 i with
  | some w => some (leBytes 4 w.toNat)
  | none =>
    match encode16 i with
    | some p => some (leBytes 2 p.toNat)
    | none =>
      match encode64 i with
      | some w => some (leBytes 8 w.toNat)
      | none => none

/-- What the decoder reads from an instruction whose bits are w, as the opcode table numbers them;
every bit from nbits on is zero. -/
def decodeTableWord (nbits w : Nat) : Option Instr :=
  match decode (leBytes 8 (w % 2 ^ nbits)) with
  | .ok (i, _) => some i
  | .error _ => none

end

end Sys2Proof
end

