-- ==== Sys2Proof/Machine/Fetch.lean ====
section
/-! DEFINITION. Instruction fetch: the instruction cache, parcels, and the instruction at an address
(02 R43, R44; 19 R418 to R420). -/

namespace Sys2Proof.Machine

/-- The instruction TLB of the running core. -/
def State.itlb (s : State) : TlbId := .itlb s.at_

/-- The cached line that holds an address. -/
def icacheFind (s : State) (va : Nat) : Option ILine :=
  s.core.icache.find? (fun l => l.line == va / 64 && l.asid == s.core.sup.asid)

/-- A line put into its set, which keeps the four used last (19 R418). -/
def icachePut (l : ILine) (c : Core) : Core :=
  let rest := c.icache.filter (fun x => !(x.line == l.line && x.asid == l.asid))
  let set := (rest.filter (fun x => x.line % 128 == l.line % 128)).take 3
  { c with icache := l :: set ++ rest.filter (fun x => x.line % 128 != l.line % 128) }

/-- The line of a place read from memory; a line with a poisoned unit is not kept. -/
def fillFrom (s : State) (va : Nat) (p : Place) : State :=
  let base := p.loc / 64 * 64
  if anyPoisoned s.dev 64 base then s
  else
    (s.mapDev (readLine sqdDie base)).mapCore (icachePut ⟨va / 64, s.core.sup.asid, BitVec.ofNat 512 (readNat s.dev.mem p.key 64 base)⟩)

/-- The fill in flight of the line that holds an address. -/
def fillOf (s : State) (va : Nat) : Option IFill :=
  s.core.fills.find? (fun f => f.line == va / 64 && f.asid == s.core.sup.asid)

/-- A fill in flight ends: its line is cached, where it is not already and no unit of it is poisoned (19 R418). -/
def fillDone (f : IFill) (s : State) : State :=
  let s := s.mapCore (fun c => { c with fills := c.fills.filter (· != f) })
  if (icacheFind s (64 * f.line)).isSome then s else fillFrom s (64 * f.line) ⟨f.loc, f.key, true, none⟩

/-- A fill of the line of an address asked for at a place: its data come later (19 R418). -/
def fillAsk (s : State) (va : Nat) (p : Place) : State :=
  s.mapCore (fun c => { c with fills := c.fills ++ [⟨va / 64, s.core.sup.asid, p.loc / 64 * 64, p.key⟩] })

/-- A demand fetch joins the fill in flight of its line, which is no miss (19 R418). -/
def joinFill (s : State) (va : Nat) : State :=
  if (icacheFind s va).isSome then s
  else
    match fillOf s va with
    | some f => fillDone f s
    | none => s

/-- One more demand fetch that missed (19 R420). -/
def countMiss (s : State) : State := s.mapCsr (fun c => { c with ifmiss := c.ifmiss + 1 })

/-- Two bytes at an address fetched on demand at a level (19 R418, 02 R44). -/
def fetchParcel (lvl : Level) (s : State) (va : Word) : State × Except Cause (BitVec 16) :=
  let s := joinFill s va.toNat
  match icacheFind s va.toNat with
  | some l => (s.mapCore (icachePut l), .ok (l.data.extractLsb' (va.toNat % 64 * 8) 16))
  | none =>
    let s := countMiss s
    match translate s { s.ctx with level := lvl } s.itlb .exec va with
    | (s, .error c) => (s, .error c)
    | (s, .ok p) =>
      if anyPoisoned s.dev 2 p.loc then (s.mapDev (logUnmapped p.loc), .error .poison)
      else
        let s := setAD p s
        let v := readNat s.dev.mem p.key 2 p.loc
        (fillFrom s va.toNat p, .ok (BitVec.ofNat 16 v))

/-- n parcels from an address on; a failure names the first parcel that could not be fetched (02 R44). -/
def fetchParcels (lvl : Level) : Nat → State → Word → State × Except (Cause × Word) (List (BitVec 16))
  | 0, s, _ => (s, .ok [])
  | n + 1, s, va =>
    match fetchParcel lvl s va with
    | (s, .error c) => (s, .error (c, va))
    | (s, .ok p) =>
      match fetchParcels lvl n s (va + 2) with
      | (s, .error e) => (s, .error e)
      | (s, .ok ps) => (s, .ok (p :: ps))

/-- The bytes of some parcels, little-endian (02 R43). -/
def parcelBytes (ps : List (BitVec 16)) : List Byte :=
  ps.flatMap (fun p => [p.extractLsb' 0 8, p.extractLsb' 8 8])

/-- The bytes of the instruction at an address, whose first parcel states its length (02 R43, R44). -/
def fetchBytes (lvl : Level) (s : State) (va : Word) : State × Except (Cause × Word) (List Byte) :=
  match fetchParcel lvl s va with
  | (s, .error c) => (s, .error (c, va))
  | (s, .ok p) =>
    match fetchParcels lvl (parcelLength p / 2 - 1) s (va + 2) with
    | (s, .error e) => (s, .error e)
    | (s, .ok ps) => (s, .ok (parcelBytes (p :: ps)))

/-- What a fetch ends in: an instruction, an encoding that is reserved, or a cause with its value. -/
inductive Fetched where
  | instr (i : Instr)
  | reserved
  | failed (c : Cause) (v : Word)
  deriving DecidableEq, Repr

noncomputable section

/-- The instruction at an address, fetched at a level. -/
def fetchAt (lvl : Level) (s : State) (va : Word) : State × Fetched :=
  match fetchBytes lvl s va with
  | (s, .error (c, v)) => (s, .failed c v)
  | (s, .ok bs) =>
    match decode bs with
    | .ok (i, _) => (s, .instr i)
    | .error _ => (s, .reserved)

/-- The instruction at the running thread's pc. -/
def fetchPc (s : State) : State × Fetched := fetchAt s.core.level s s.core.th.pc

end

end Sys2Proof.Machine
end

