-- ==== Sys2Proof/Machine/Fence.lean ====
section
/-! DEFINITION. Fences, `vdrain` and prefetches (05 R139 to R142). Accesses perform when their instruction runs, so a fence acts
only on the caches the model keeps, on TIME and on the Catalogue (log 5). -/

namespace Sys2Proof.Machine

/-- A fence of any kind: the Catalogue's load entries of its classes go, the coalescing buffer drains (05 R126, R141). -/
def fenceCommon (k : BitVec 16) (s : State) : State := if k = 0 then s else (catFence k s).release

/-- `fence` (05 R141). -/
def execFence (k : BitVec 16) (_e st : BitVec 2) (s : State) : Result :=
  .next (scalar [] s (fun s => retire st 4 (fenceCommon k s)))

/-- `fenceacq` (05 R141). -/
def execFenceacq (k : BitVec 16) (e st : BitVec 2) (s : State) : Result :=
  .next (scalar [] s (fun s =>
    let s := fenceCommon k s
    let own := s.dev.joins.any (fun j => j.seen && j.isOf s.core.th)
    retire st 4 (if k = 0 then s else if e = 0 && !own then s.raiseFloor 0 else s.acquire)))

/-- `fencerel` (05 R141). -/
def execFencerel (k : BitVec 16) (_e st : BitVec 2) (s : State) : Result :=
  .next (scalar [] s (fun s => retire st 4 (fenceCommon k s)))

/-- `vdrain` (05 R142). -/
def execVdrain (k : BitVec 16) (_e st : BitVec 2) (s : State) : Result :=
  .next (scalar [] s (fun s => if memoryQueued k s then waiting s else retire st 4 (fenceCommon k s)))

/-- A prefetch whose address fails is dropped (05 R139, 19 R420). -/
def dropPrefetch (s : State) : State := s.mapCsr (fun c => { c with ipdrop := c.ipdrop + 1 })

/-- `iprf`: it sets no A bit and orders nothing; the line it asks for comes later, and one on its way is not asked for again
(05 R139, 19 R418). -/
def execIprf (a : Reg) (o : BitVec 7) (st : BitVec 2) (s : State) : Result :=
  .next (scalar [a] s (fun s =>
    let va := opVal s 0 a + offUnits o 64
    let s := match icacheFind s va.toNat with
      | some l => s.mapCore (icachePut l)
      | none =>
        if (fillOf s va.toNat).isSome then s
        else
          match translate s s.ctx s.itlb .exec va with
          | (s, .error _) => dropPrefetch s
          | (s, .ok p) =>
            if anyPoisoned s.dev 64 (p.loc / 64 * 64) then dropPrefetch (s.mapDev (logUnmapped p.loc)) else fillAsk s va.toNat p
    retire st 4 s))

/-- `dprf`: into the core's tile-buffer ways or the home L2 slice (05 R139). -/
def execDprf (a : Reg) (o : BitVec 7) (c : BitVec 4) (st : BitVec 2) (s : State) : Result :=
  unlessReserved (decide (2 ≤ c.toNat)) (fun s => .next (scalar [a] s (fun s =>
    let va := opVal s 0 a + offUnits o 64
    let s := match translate s s.ctx s.dtlb .read va with
      | (s, .error _) => s
      | (s, .ok p) =>
        if anyPoisoned s.dev 64 (p.loc / 64 * 64) || isSram p.loc then s.mapDev (logUnmapped p.loc)
        else if c = 0 then noteLoad p s
        else s.mapDev (readLine sqdDie p.loc)
    retire st 4 s))) s

end Sys2Proof.Machine
end

