-- ==== Sys2Proof/Machine/Fpu.lean ====
section
/-! DEFINITION. Scalar floating point (05 R127 to R129, Tables 05-5 and 05-6). -/

namespace Sys2Proof.Machine

/-- The format p selects. -/
def fmtOf (p : Bool) : Fmt := if p then f64 else f32

/-- The bits of a register a format reads. -/
def fbits (f : Fmt) (x : Word) : Nat := x.toNat % 2 ^ f.width

/-- A register read as a value of a format under FTZ. -/
def fval (f : Fmt) (s : State) (x : Word) : Fv := unpack f s.csr.ftz (fbits f x)

/-- A floating-point result, written with its flags (05 R127). -/
def fpResult (d : Reg) (st : BitVec 2) (r : Nat × Flags) (s : State) : State :=
  retire st 4 (writeLat (raise r.2 s) d .fp (BitVec.ofNat 64 r.1))

/-- A two-operand member over the values in a format. -/
def fpu2 (f : Fmt) (op : Rm → Bool → Fv → Fv → Nat × Flags) (d a b : Reg) (st : BitVec 2) (s : State) : Result :=
  .next (scalar [a, b] s (fun s =>
    fpResult d st (op (Rm.of s.csr.frm) s.csr.ftz (fval f s (opVal s 0 a)) (fval f s (opVal s 1 b))) s))

/-- A one-operand member over the value in a format. -/
def fpu1 (f : Fmt) (op : Rm → Bool → Fv → Nat × Flags) (d a : Reg) (st : BitVec 2) (s : State) : Result :=
  .next (scalar [a] s (fun s =>
    fpResult d st (op (Rm.of s.csr.frm) s.csr.ftz (fval f s (opVal s 0 a))) s))

/-- A compare as a result. -/
def cmpResult (r : Bool × Flags) : Nat × Flags := (if r.1 then 1 else 0, r.2)

/-- A sign-injection member: bits of gs1 under a sign made of the two signs (05 Table 05-5). -/
def fpuSign (sg : Bool → Bool → Bool) (d a b : Reg) (p : Bool) (st : BitVec 2) (s : State) : Result :=
  let f := fmtOf p
  .next (scalar [a, b] s (fun s =>
    let x := fbits f (opVal s 0 a)
    let y := fbits f (opVal s 1 b)
    fpResult d st (withSign f (sg (signBit f x) (signBit f y)) x, 0) s))

/-- A member that reads its operand as bits and ignores FTZ. -/
def fpuBits (op : Rm → Bool → Word → Nat × Flags) (d a : Reg) (st : BitVec 2) (s : State) : Result :=
  .next (scalar [a] s (fun s => fpResult d st (op (Rm.of s.csr.frm) s.csr.ftz (opVal s 0 a)) s))

/-- `fadd` (05 Table 05-5). -/
def execFadd (d a b : Reg) (p : Bool) (st : BitVec 2) (s : State) : Result :=
  fpu2 (fmtOf p) (fun rm ftz x y => fvAdd (fmtOf p) rm ftz x y) d a b st s

/-- `fsub` (05 Table 05-5). -/
def execFsub (d a b : Reg) (p : Bool) (st : BitVec 2) (s : State) : Result :=
  fpu2 (fmtOf p) (fun rm ftz x y => fvAdd (fmtOf p) rm ftz x y.neg) d a b st s

/-- `fmul` (05 Table 05-5). -/
def execFmul (d a b : Reg) (p : Bool) (st : BitVec 2) (s : State) : Result :=
  fpu2 (fmtOf p) (fun rm ftz x y => fvMul (fmtOf p) rm ftz x y) d a b st s

/-- `fdiv` (05 Table 05-5). -/
def execFdiv (d a b : Reg) (p : Bool) (st : BitVec 2) (s : State) : Result :=
  fpu2 (fmtOf p) (fun rm ftz x y => fvDiv (fmtOf p) rm ftz x y) d a b st s

/-- `fmin` (05 Table 05-5). -/
def execFmin (d a b : Reg) (p : Bool) (st : BitVec 2) (s : State) : Result :=
  fpu2 (fmtOf p) (fun _ _ x y => fvMinMax (fmtOf p) false x y) d a b st s

/-- `fmax` (05 Table 05-5). -/
def execFmax (d a b : Reg) (p : Bool) (st : BitVec 2) (s : State) : Result :=
  fpu2 (fmtOf p) (fun _ _ x y => fvMinMax (fmtOf p) true x y) d a b st s

/-- `feq` (05 Table 05-5). -/
def execFeq (d a b : Reg) (p : Bool) (st : BitVec 2) (s : State) : Result :=
  fpu2 (fmtOf p) (fun _ _ x y => cmpResult (fvEq x y)) d a b st s

/-- `flt` (05 Table 05-5). -/
def execFlt (d a b : Reg) (p : Bool) (st : BitVec 2) (s : State) : Result :=
  fpu2 (fmtOf p) (fun _ _ x y => cmpResult (fvLt x y)) d a b st s

/-- `fle` (05 Table 05-5). -/
def execFle (d a b : Reg) (p : Bool) (st : BitVec 2) (s : State) : Result :=
  fpu2 (fmtOf p) (fun _ _ x y => cmpResult (fvLe x y)) d a b st s

/-- `fsqrt` (05 Table 05-5). -/
def execFsqrt (d a : Reg) (p : Bool) (st : BitVec 2) (s : State) : Result :=
  fpu1 (fmtOf p) (fun rm ftz x => fvSqrt (fmtOf p) rm ftz x) d a st s

/-- `fclass` (05 Table 05-6). -/
def execFclass (d a : Reg) (p : Bool) (st : BitVec 2) (s : State) : Result :=
  fpuBits (fun _ _ x => (fclassOf (fmtOf p) (fbits (fmtOf p) x), 0)) d a st s

/-- `fsgnj` (05 Table 05-5). -/
def execFsgnj (d a b : Reg) (p : Bool) (st : BitVec 2) (s : State) : Result := fpuSign (fun _ y => y) d a b p st s

/-- `fsgnjn` (05 Table 05-5). -/
def execFsgnjn (d a b : Reg) (p : Bool) (st : BitVec 2) (s : State) : Result := fpuSign (fun _ y => !y) d a b p st s

/-- `fsgnjx` (05 Table 05-5). -/
def execFsgnjx (d a b : Reg) (p : Bool) (st : BitVec 2) (s : State) : Result :=
  fpuSign (fun x y => x != y) d a b p st s

/-- `fcvtfi`: a signed integer to f (05 R128). -/
def execFcvtfi (d a : Reg) (p : Bool) (st : BitVec 2) (s : State) : Result :=
  fpuBits (fun rm ftz x => fvTo (fmtOf p) rm ftz (intToFv true 64 x.toNat)) d a st s

/-- `fcvtfn`: an unsigned integer to f (05 R128). -/
def execFcvtfn (d a : Reg) (p : Bool) (st : BitVec 2) (s : State) : Result :=
  fpuBits (fun rm ftz x => fvTo (fmtOf p) rm ftz (intToFv false 64 x.toNat)) d a st s

/-- `fcvtif`: f to a signed integer; FTZ does not apply (05 R128). -/
def execFcvtif (d a : Reg) (p : Bool) (st : BitVec 2) (s : State) : Result :=
  fpuBits (fun rm _ x => fvToInt rm true 64 (unpack (fmtOf p) false (fbits (fmtOf p) x))) d a st s

/-- `fcvtnf`: f to an unsigned integer; FTZ does not apply (05 R128). -/
def execFcvtnf (d a : Reg) (p : Bool) (st : BitVec 2) (s : State) : Result :=
  fpuBits (fun rm _ x => fvToInt rm false 64 (unpack (fmtOf p) false (fbits (fmtOf p) x))) d a st s

/-- `fcvtff`: F64 to F32, or F32 to F64 (05 Table 05-5). -/
def execFcvtff (d a : Reg) (p : Bool) (st : BitVec 2) (s : State) : Result :=
  fpu1 (fmtOf (!p)) (fun rm ftz x => fvTo (fmtOf p) rm ftz x) d a st s

/-- `fcvtbf`: f to BF16 (05 Table 05-5). -/
def execFcvtbf (d a : Reg) (p : Bool) (st : BitVec 2) (s : State) : Result :=
  fpu1 (fmtOf p) (fun rm ftz x => fvTo bf16 rm ftz x) d a st s

/-- `fcvtfb`: BF16 to f (05 Table 05-5). -/
def execFcvtfb (d a : Reg) (p : Bool) (st : BitVec 2) (s : State) : Result :=
  fpu1 bf16 (fun rm ftz x => fvTo (fmtOf p) rm ftz x) d a st s

/-- The fused form a variant selects: the product and the addend change sign, NaNs do not (05 R129). -/
def fmaVariant (f : Fmt) (v : BitVec 2) (rm : Rm) (ftz : Bool) (x y z : Fv) : Nat × Flags :=
  fvFma f rm ftz (if v.getLsbD 1 then x.neg else x) y
    (if v.getLsbD 0 != v.getLsbD 1 then z.neg else z)

/-- A scalar fused multiply-add (05 R129). -/
def fpu3 (f : Fmt) (d a b e : Reg) (v st : BitVec 2) (s : State) : Result :=
  .next (scalar [a, b, e] s (fun s =>
    fpResult d st (fmaVariant f v (Rm.of s.csr.frm) s.csr.ftz (fval f s (opVal s 0 a)) (fval f s (opVal s 1 b))
      (fval f s (opVal s 2 e))) s))

/-- `ffma32` (05 R129). -/
def execFfma32 (d a b e : Reg) (v st : BitVec 2) (s : State) : Result := fpu3 f32 d a b e v st s

/-- `ffma64` (05 R129). -/
def execFfma64 (d a b e : Reg) (v st : BitVec 2) (s : State) : Result := fpu3 f64 d a b e v st s

end Sys2Proof.Machine
end

