-- ==== Sys2Proof/Machine/VecForm.lean ====
section
/-! DEFINITION. The forms in which vector instructions enter the queue: their fields and the scalar registers they
capture (02 R46, Table 02-2; 06 R144), and the members of VCFG (06 R151 to R155). -/

namespace Sys2Proof.Machine

/-- A vector instruction's fields and its scalar registers. -/
structure VForm where
  desc : VDesc
  ports : VPorts
  deriving DecidableEq, Repr

/-- No scalar register. -/
def noPorts : VPorts := ⟨none, none, none, []⟩

/-- The fields of a 32-bit form: mask base m0, the die fields of VTYPE. -/
def descOf (op : VOp) (d va : Reg) (b : VSrc) (m : Bool) : VDesc :=
  { op := op, vd := d, va := va, b := b, vc := 0, gd := 0, masked := m, mi := 0, dm := none, ds := none, cls := 0 }

/-- .VV: vs1 and vs2. -/
def fVV (op : VOp) (d a b : Reg) (m : Bool) : VForm := ⟨descOf op d a (.vec b) m, noPorts⟩
/-- .VS: the first source is vs2, the second gs. -/
def fVS (op : VOp) (d a b : Reg) (m : Bool) : VForm := ⟨descOf op d b .gpr m, ⟨some a, none, none, []⟩⟩
/-- .VI: the first source is vs2, the second imm5. -/
def fVI (op : VOp) (d b : Reg) (i : BitVec 5) (m : Bool) : VForm := ⟨descOf op d b (.imm5 i) m, noPorts⟩
/-- One vector or mask source. -/
def fUn (op : VOp) (d a : Reg) (m : Bool) : VForm := ⟨descOf op d a .none m, noPorts⟩
/-- A unary VFP member; its .VS form, which names a scalar register, raises ILLEGAL at row 5 (06 R158, R173). -/
def fUnary (op : VOp) (d : Reg) (a : Reg × Option Reg) (m : Bool) : VForm :=
  match a with
  | (a, none) => fUn op d a m
  | (a, some g) => fVS op d g a m
/-- `vmv.VS`. -/
def fMvS (d a : Reg) (m : Bool) : VForm := ⟨descOf .mv d 0 .gpr m, ⟨some a, none, none, []⟩⟩
/-- `vmv.VI`. -/
def fMvI (d : Reg) (i : BitVec 5) (m : Bool) : VForm := ⟨descOf .mv d 0 (.imm5 i) m, noPorts⟩
/-- vs1 and gs2 to a g register: reductions and `vext`. -/
def fRed (op : VOp) (d a b : Reg) (m : Bool) : VForm :=
  ⟨{ descOf op 0 a .none m with gd := d }, ⟨none, some b, none, [d]⟩⟩
/-- `vsmx`: three g registers are written and two read, g[ga] as its rs2 operand and g[ga + 1] in the place of rs3
(21 Table 21-3; log 71). -/
def fSmx (d a ga : Reg) (m : Bool) : VForm :=
  ⟨{ descOf .smx d a .none m with gd := ga }, ⟨none, some ga, some (ga + 1), [ga, ga + 1, ga + 2]⟩⟩
/-- A slide: vs1 and gs2. -/
def fSlide (op : VOp) (d a b : Reg) (m : Bool) : VForm := ⟨descOf op d a .none m, ⟨none, some b, none, []⟩⟩
/-- gs1 and gs2, and no vector source. -/
def fScalar (op : VOp) (d a b : Reg) (m : Bool) : VForm := ⟨descOf op d 0 .none m, ⟨some a, some b, none, []⟩⟩
/-- One vector or mask source to a g register. -/
def fToG (op : VOp) (d a : Reg) : VForm := ⟨{ descOf op 0 a .none false with gd := d }, ⟨none, none, none, [d]⟩⟩
/-- A unit-stride load. -/
def fLd (op : VOp) (d a : Reg) (c : BitVec 4) (m : Bool) : VForm :=
  ⟨{ descOf op d 0 .none m with cls := c }, ⟨some a, none, none, []⟩⟩
/-- A strided load. -/
def fLds (op : VOp) (d a b : Reg) (c : BitVec 4) (m : Bool) : VForm :=
  ⟨{ descOf op d 0 .none m with cls := c }, ⟨some a, some b, none, []⟩⟩
/-- An indexed load. -/
def fLdx (op : VOp) (d a b : Reg) (c : BitVec 4) (m : Bool) : VForm :=
  ⟨{ descOf op d 0 (.vec b) m with cls := c }, ⟨some a, none, none, []⟩⟩
/-- A unit-stride store of vs3. -/
def fSt (op : VOp) (v a : Reg) (c : BitVec 4) (m : Bool) : VForm :=
  ⟨{ descOf op 0 0 .none m with cls := c, vc := v }, ⟨some a, none, none, []⟩⟩
/-- A strided store. -/
def fSts (op : VOp) (v a b : Reg) (c : BitVec 4) (m : Bool) : VForm :=
  ⟨{ descOf op 0 0 .none m with cls := c, vc := v }, ⟨some a, some b, none, []⟩⟩
/-- A scatter. -/
def fStx (op : VOp) (v a b : Reg) (c : BitVec 4) (m : Bool) : VForm :=
  ⟨{ descOf op 0 0 (.vec b) m with cls := c, vc := v }, ⟨some a, none, none, []⟩⟩
/-- VAMO and VLINK: base gs1, offsets vs2, data vs3 (07 R191, R193). -/
def fAmo (op : VOp) (d a b e : Reg) (dm : BitVec 8) (me : Bool) (mi : BitVec 4) (cls : BitVec 4) : VForm :=
  ⟨{ descOf op d 0 (.vec b) me with vc := e, mi := mi, dm := some dm, cls := cls }, ⟨some a, none, none, []⟩⟩
/-- VLDX: base gs1, a destination or store data (07 R183). -/
def fX (op : VOp) (d e a : Reg) (dm : BitVec 8) (me : Bool) (mi : BitVec 4) (cls : BitVec 4) : VForm :=
  ⟨{ descOf op d 0 .none me with vc := e, mi := mi, dm := some dm, cls := cls }, ⟨some a, none, none, []⟩⟩
/-- `vpush`: peer register vd, peer id gs2, source vs1 (07 R201). -/
def fPush (d b a : Reg) (dm : BitVec 8) (cls : BitVec 4) : VForm :=
  ⟨{ descOf .push d a .none false with dm := some dm, cls := cls }, ⟨none, some b, none, []⟩⟩
/-- The other members of VXF (07 R200). -/
def fXf (op : VOp) (d a : Reg) (dm : BitVec 8) : VForm := ⟨{ descOf op d a .none false with dm := some dm }, noPorts⟩
/-- A TILE member: address gs1, operand gs2, source vs3, perhaps a g result (08 R223). -/
def fTile (op : VOp) (d a b e : Reg) (cls : BitVec 4) (g : Bool) : VForm :=
  ⟨{ descOf op 0 0 .none false with gd := d, vc := e, cls := cls }, ⟨some a, some b, none, if g then [d] else []⟩⟩
/-- `tload` (08 R228). -/
def fTload (d a b : Reg) (me : Bool) (mi : BitVec 4) (cls : BitVec 4) : VForm :=
  ⟨{ descOf .tload d 0 .none me with mi := mi, cls := cls }, ⟨some a, some b, none, []⟩⟩
/-- A posting instruction: records in vs1, a g result (08 R220). -/
def fPost (op : VOp) (d a : Reg) (cls : BitVec 4) : VForm :=
  ⟨{ descOf op 0 a .none false with gd := d, cls := cls }, ⟨none, none, none, [d]⟩⟩
/-- `vsetty` (06 R154). -/
def fSetty (d t : Reg) : VForm := ⟨descOf (.setty t) d 0 .none false, noPorts⟩

/-- A vector instruction of n bytes at issue. -/
def vexec (n : Nat) (st : BitVec 2) (f : VForm) (s : State) : Result := .next (vecEnter n st f.desc f.ports s)

/-! ### VCFG (06 R151 to R155) -/

/-- VTYPE with DM and DS of two registers (06 R155). -/
def dieVtype (v x y : Word) : Word :=
  (v &&& ~~~(0x7FF00#64)) ||| (((y &&& 7) <<< 16) ||| ((x &&& 0xFF) <<< 8))

/-- `vsetl` in a word of n bytes (06 R152). -/
def vsetlForm (n : Nat) (d a : Reg) (st : BitVec 2) (s : State) : Result :=
  .next (scalar [a] s (fun s =>
    let s := writeVl (opVal s 0 a).toNat s
    retire st n (writeLat s d .alu (s.csr.vl.setWidth 64))))

/-- `vsetvt` in a word of n bytes (06 R153). -/
def vsetvtForm (n : Nat) (d a : Reg) (st : BitVec 2) (s : State) : Result :=
  .next (scalar [a] s (fun s =>
    let s := writeVtype (opVal s 0 a) s
    retire st n (writeLat s d .alu (BitVec.ofNat 64 s.vlmax))))

/-- `vsetty` in a word of n bytes: a reserved tag code is an encoding that is reserved (06 R154). -/
def vsettyForm (n : Nat) (d t : Reg) (st : BitVec 2) (s : State) : Result :=
  unlessReserved (Tag.ofCode t.toNat).isNone (vexec n st (fSetty d t)) s

/-- `vsetdie` in a word of n bytes (06 R155). -/
def vsetdieForm (n : Nat) (a b : Reg) (st : BitVec 2) (s : State) : Result :=
  .next (scalar [a, b] s (fun s =>
    retire st n (writeVtype (dieVtype s.csr.vtype (opVal s 0 a) (opVal s 1 b)) s)))

/-- `vsetl` (06 R152). -/
def execVsetl (d a : Reg) (st : BitVec 2) (s : State) : Result := vsetlForm 4 d a st s

/-- `vsetvt` (06 R153). -/
def execVsetvt (d a : Reg) (st : BitVec 2) (s : State) : Result := vsetvtForm 4 d a st s

/-- `vsetty` (06 R154). -/
def execVsetty (d t : Reg) (st : BitVec 2) (s : State) : Result := vsettyForm 4 d t st s

/-- `vsetdie` (06 R155). -/
def execVsetdie (a b : Reg) (st : BitVec 2) (s : State) : Result := vsetdieForm 4 a b st s

/-! ### Compressed spellings (02 Table 02-7) -/

/-- `c.vsetl` (02 Table 02-7, R54). -/
def execCVsetl (a b : Reg) (s : State) : Result := unlessReserved (a == 0) (vsetlForm 2 a b 0) s

/-- `c.vadd` (02 Table 02-7). -/
def execCVadd (a b : Reg) (s : State) : Result := vexec 2 0 (fVV (.int .add) a a b false) s

/-- `c.vfadd` (02 Table 02-7). -/
def execCVfadd (a b : Reg) (s : State) : Result := vexec 2 0 (fVV (.fp .add) a a b false) s

/-- `c.vmv` (02 Table 02-7). -/
def execCVmv (a b : Reg) (s : State) : Result := vexec 2 0 (fUn .mv a b false) s

end Sys2Proof.Machine
end

