-- ==== Sys2Proof/Machine/VecReplay.lean ====
section
/-! DEFINITION. The form every vector instruction enters the queue with, for the XV and XVI words that carry one (02 R51, R52)
and for the queue that `tret` restores (21 R451). -/

namespace Sys2Proof.Machine

noncomputable section

/-- The form of a 16-bit or 32-bit vector instruction, or of a 64-bit one other than XV and XVI. -/
def plainForm : Instr → Option VForm
  | .vaddVv d a b m _ => some (fVV (.int .add) d a b m)
  | .vaddVs d a b m _ => some (fVS (.int .add) d a b m)
  | .vaddVi d b i m _ => some (fVI (.int .add) d b i m)
  | .vsubVv d a b m _ => some (fVV (.int .sub) d a b m)
  | .vsubVs d a b m _ => some (fVS (.int .sub) d a b m)
  | .vsubVi d b i m _ => some (fVI (.int .sub) d b i m)
  | .vrsubVv d a b m _ => some (fVV (.int .rsub) d a b m)
  | .vrsubVs d a b m _ => some (fVS (.int .rsub) d a b m)
  | .vrsubVi d b i m _ => some (fVI (.int .rsub) d b i m)
  | .vmulVv d a b m _ => some (fVV (.int .mul) d a b m)
  | .vmulVs d a b m _ => some (fVS (.int .mul) d a b m)
  | .vmulVi d b i m _ => some (fVI (.int .mul) d b i m)
  | .vmulhVv d a b m _ => some (fVV (.int .mulh) d a b m)
  | .vmulhVs d a b m _ => some (fVS (.int .mulh) d a b m)
  | .vmulhVi d b i m _ => some (fVI (.int .mulh) d b i m)
  | .vmulhnVv d a b m _ => some (fVV (.int .mulhn) d a b m)
  | .vmulhnVs d a b m _ => some (fVS (.int .mulhn) d a b m)
  | .vmulhnVi d b i m _ => some (fVI (.int .mulhn) d b i m)
  | .vmacVv d a b m _ => some (fVV (.int .mac) d a b m)
  | .vmacVs d a b m _ => some (fVS (.int .mac) d a b m)
  | .vmacVi d b i m _ => some (fVI (.int .mac) d b i m)
  | .vandVv d a b m _ => some (fVV (.int .and) d a b m)
  | .vandVs d a b m _ => some (fVS (.int .and) d a b m)
  | .vandVi d b i m _ => some (fVI (.int .and) d b i m)
  | .vorVv d a b m _ => some (fVV (.int .or) d a b m)
  | .vorVs d a b m _ => some (fVS (.int .or) d a b m)
  | .vorVi d b i m _ => some (fVI (.int .or) d b i m)
  | .vxorVv d a b m _ => some (fVV (.int .xor) d a b m)
  | .vxorVs d a b m _ => some (fVS (.int .xor) d a b m)
  | .vxorVi d b i m _ => some (fVI (.int .xor) d b i m)
  | .vsllVv d a b m _ => some (fVV (.int .sll) d a b m)
  | .vsllVs d a b m _ => some (fVS (.int .sll) d a b m)
  | .vsllVi d b i m _ => some (fVI (.int .sll) d b i m)
  | .vsrlVv d a b m _ => some (fVV (.int .srl) d a b m)
  | .vsrlVs d a b m _ => some (fVS (.int .srl) d a b m)
  | .vsrlVi d b i m _ => some (fVI (.int .srl) d b i m)
  | .vsraVv d a b m _ => some (fVV (.int .sra) d a b m)
  | .vsraVs d a b m _ => some (fVS (.int .sra) d a b m)
  | .vsraVi d b i m _ => some (fVI (.int .sra) d b i m)
  | .vminVv d a b m _ => some (fVV (.int .min) d a b m)
  | .vminVs d a b m _ => some (fVS (.int .min) d a b m)
  | .vminVi d b i m _ => some (fVI (.int .min) d b i m)
  | .vmaxVv d a b m _ => some (fVV (.int .max) d a b m)
  | .vmaxVs d a b m _ => some (fVS (.int .max) d a b m)
  | .vmaxVi d b i m _ => some (fVI (.int .max) d b i m)
  | .vminnVv d a b m _ => some (fVV (.int .minn) d a b m)
  | .vminnVs d a b m _ => some (fVS (.int .minn) d a b m)
  | .vminnVi d b i m _ => some (fVI (.int .minn) d b i m)
  | .vmaxnVv d a b m _ => some (fVV (.int .maxn) d a b m)
  | .vmaxnVs d a b m _ => some (fVS (.int .maxn) d a b m)
  | .vmaxnVi d b i m _ => some (fVI (.int .maxn) d b i m)
  | .vdivVv d a b m _ => some (fVV (.int .div) d a b m)
  | .vdivVs d a b m _ => some (fVS (.int .div) d a b m)
  | .vdivVi d b i m _ => some (fVI (.int .div) d b i m)
  | .vdivnVv d a b m _ => some (fVV (.int .divn) d a b m)
  | .vdivnVs d a b m _ => some (fVS (.int .divn) d a b m)
  | .vdivnVi d b i m _ => some (fVI (.int .divn) d b i m)
  | .vremVv d a b m _ => some (fVV (.int .rem) d a b m)
  | .vremVs d a b m _ => some (fVS (.int .rem) d a b m)
  | .vremVi d b i m _ => some (fVI (.int .rem) d b i m)
  | .vremnVv d a b m _ => some (fVV (.int .remn) d a b m)
  | .vremnVs d a b m _ => some (fVS (.int .remn) d a b m)
  | .vremnVi d b i m _ => some (fVI (.int .remn) d b i m)
  | .vsaddVv d a b m _ => some (fVV (.int .sadd) d a b m)
  | .vsaddVs d a b m _ => some (fVS (.int .sadd) d a b m)
  | .vsaddVi d b i m _ => some (fVI (.int .sadd) d b i m)
  | .vssubVv d a b m _ => some (fVV (.int .ssub) d a b m)
  | .vssubVs d a b m _ => some (fVS (.int .ssub) d a b m)
  | .vssubVi d b i m _ => some (fVI (.int .ssub) d b i m)
  | .vmergeVv d a b _ => some (fVV .merge d.1 a b d.2)
  | .vmergeVs d a b _ => some (fVS .merge d.1 a b d.2)
  | .vmergeVi d b i _ => some (fVI .merge d.1 b i d.2)
  | .vmvVv d a m _ => some (fUn .mv d a m)
  | .vmvVs d a m _ => some (fMvS d a m)
  | .vmvVi d i m _ => some (fMvI d i m)
  | .vseqVv d a b m _ => some (fVV (.icmp .eq) d a b m)
  | .vseqVs d a b m _ => some (fVS (.icmp .eq) d a b m)
  | .vseqVi d b i m _ => some (fVI (.icmp .eq) d b i m)
  | .vsneVv d a b m _ => some (fVV (.icmp .ne) d a b m)
  | .vsneVs d a b m _ => some (fVS (.icmp .ne) d a b m)
  | .vsneVi d b i m _ => some (fVI (.icmp .ne) d b i m)
  | .vsltVv d a b m _ => some (fVV (.icmp .lt) d a b m)
  | .vsltVs d a b m _ => some (fVS (.icmp .lt) d a b m)
  | .vsltVi d b i m _ => some (fVI (.icmp .lt) d b i m)
  | .vsltnVv d a b m _ => some (fVV (.icmp .ltn) d a b m)
  | .vsltnVs d a b m _ => some (fVS (.icmp .ltn) d a b m)
  | .vsltnVi d b i m _ => some (fVI (.icmp .ltn) d b i m)
  | .vsleVv d a b m _ => some (fVV (.icmp .le) d a b m)
  | .vsleVs d a b m _ => some (fVS (.icmp .le) d a b m)
  | .vsleVi d b i m _ => some (fVI (.icmp .le) d b i m)
  | .vslenVv d a b m _ => some (fVV (.icmp .len) d a b m)
  | .vslenVs d a b m _ => some (fVS (.icmp .len) d a b m)
  | .vslenVi d b i m _ => some (fVI (.icmp .len) d b i m)
  | .vfaddVv d a b m _ => some (fVV (.fp .add) d a b m)
  | .vfaddVs d a b m _ => some (fVS (.fp .add) d a b m)
  | .vfsubVv d a b m _ => some (fVV (.fp .sub) d a b m)
  | .vfsubVs d a b m _ => some (fVS (.fp .sub) d a b m)
  | .vfmulVv d a b m _ => some (fVV (.fp .mul) d a b m)
  | .vfmulVs d a b m _ => some (fVS (.fp .mul) d a b m)
  | .vfdivVv d a b m _ => some (fVV (.fp .div) d a b m)
  | .vfdivVs d a b m _ => some (fVS (.fp .div) d a b m)
  | .vfsqrt d a m _ => some (fUnary (.fp .sqrt) d a m)
  | .vfrsqe d a m _ => some (fUnary (.fp .rsqe) d a m)
  | .vfrece d a m _ => some (fUnary (.fp .rece) d a m)
  | .vfexp d a m _ => some (fUnary (.fp .exp) d a m)
  | .vfexp2 d a m _ => some (fUnary (.fp .exp2) d a m)
  | .vflog2 d a m _ => some (fUnary (.fp .log2) d a m)
  | .vfminVv d a b m _ => some (fVV (.fp .min) d a b m)
  | .vfminVs d a b m _ => some (fVS (.fp .min) d a b m)
  | .vfmaxVv d a b m _ => some (fVV (.fp .max) d a b m)
  | .vfmaxVs d a b m _ => some (fVS (.fp .max) d a b m)
  | .vfsgnjVv d a b m _ => some (fVV (.fp .sgnj) d a b m)
  | .vfsgnjVs d a b m _ => some (fVS (.fp .sgnj) d a b m)
  | .vfsgnjnVv d a b m _ => some (fVV (.fp .sgnjn) d a b m)
  | .vfsgnjnVs d a b m _ => some (fVS (.fp .sgnjn) d a b m)
  | .vfsgnjxVv d a b m _ => some (fVV (.fp .sgnjx) d a b m)
  | .vfsgnjxVs d a b m _ => some (fVS (.fp .sgnjx) d a b m)
  | .vfeqVv d a b m _ => some (fVV (.fcmp .eq) d a b m)
  | .vfeqVs d a b m _ => some (fVS (.fcmp .eq) d a b m)
  | .vfneVv d a b m _ => some (fVV (.fcmp .ne) d a b m)
  | .vfneVs d a b m _ => some (fVS (.fcmp .ne) d a b m)
  | .vfltVv d a b m _ => some (fVV (.fcmp .lt) d a b m)
  | .vfltVs d a b m _ => some (fVS (.fcmp .lt) d a b m)
  | .vfleVv d a b m _ => some (fVV (.fcmp .le) d a b m)
  | .vfleVs d a b m _ => some (fVS (.fcmp .le) d a b m)
  | .vfclass d a m _ => some (fUnary (.fp .cls) d a m)
  | .vfcvt d a m _ => some (fUnary .fcvt d a m)
  | .vfround d a m _ => some (fUnary (.fp .round) d a m)
  | .vfmergeVv d a b _ => some (fVV .fmerge d.1 a b d.2)
  | .vfmergeVs d a b _ => some (fVS .fmerge d.1 a b d.2)
  | .vfmaccVv d a b m _ => some (fVV (.fma .macc) d a b m)
  | .vfnmaccVv d a b m _ => some (fVV (.fma .nmacc) d a b m)
  | .vfmsacVv d a b m _ => some (fVV (.fma .msac) d a b m)
  | .vfnmsacVv d a b m _ => some (fVV (.fma .nmsac) d a b m)
  | .vfmaccVs d a b m _ => some (fVS (.fma .macc) d a b m)
  | .vfnmaccVs d a b m _ => some (fVS (.fma .nmacc) d a b m)
  | .vfmsacVs d a b m _ => some (fVS (.fma .msac) d a b m)
  | .vfnmsacVs d a b m _ => some (fVS (.fma .nmsac) d a b m)
  | .vredsum d a b m _ => some (fRed (.red .sum) d a b m)
  | .vredand d a b m _ => some (fRed (.red .and) d a b m)
  | .vredor d a b m _ => some (fRed (.red .or) d a b m)
  | .vredxor d a b m _ => some (fRed (.red .xor) d a b m)
  | .vredmin d a b m _ => some (fRed (.red .min) d a b m)
  | .vredmax d a b m _ => some (fRed (.red .max) d a b m)
  | .vredminn d a b m _ => some (fRed (.red .minn) d a b m)
  | .vredmaxn d a b m _ => some (fRed (.red .maxn) d a b m)
  | .vfredsum d a b m _ => some (fRed (.red .fsum) d a b m)
  | .vfredmin d a b m _ => some (fRed (.red .fmin) d a b m)
  | .vfredmax d a b m _ => some (fRed (.red .fmax) d a b m)
  | .vscan d a m _ => some (fUn .scan d a m)
  | .vfscan d a m _ => some (fUn .fscan d a m)
  | .vsmx d a b m _ => some (fSmx d a b m)
  | .vslideup d a b m _ => some (fSlide (.perm .slideup) d a b m)
  | .vslidedn d a b m _ => some (fSlide (.perm .slidedn) d a b m)
  | .vslide1up d a b m _ => some (fSlide (.perm .slide1up) d a b m)
  | .vslide1dn d a b m _ => some (fSlide (.perm .slide1dn) d a b m)
  | .vrgath d a b m _ => some (fVV (.perm .rgath) d a b m)
  | .vcompress d a m _ => some (fUn (.perm .compress) d a m)
  | .vexpand d a m _ => some (fUn (.perm .expand) d a m)
  | .vzip d a b m _ => some (fVV (.perm .zip) d a b m)
  | .vunzipe d a m _ => some (fUn (.perm .unzipe) d a m)
  | .vunzipo d a m _ => some (fUn (.perm .unzipo) d a m)
  | .vdrot d a m _ => some (fUn (.perm .drot) d a m)
  | .vsplat d a m _ => some (fScalar (.perm .splat) d a 0 m)
  | .vid d m _ => some (fScalar (.perm .vid) d 0 0 m)
  | .vins d a b m _ => some (fScalar (.perm .ins) d a b m)
  | .vext d a b _ => some (fRed .ext d a b false)
  | .mand d a b _ => some (fVV (.mask .and) d a b false)
  | .mor d a b _ => some (fVV (.mask .or) d a b false)
  | .mxor d a b _ => some (fVV (.mask .xor) d a b false)
  | .mandn d a b _ => some (fVV (.mask .andn) d a b false)
  | .mnot d a _ => some (fUn (.mask .not) d a false)
  | .mset d _ => some (fUn (.mask .set) d 0 false)
  | .mclr d _ => some (fUn (.mask .clr) d 0 false)
  | .mmv d a _ => some (fUn (.mask .mv) d a false)
  | .mpop d a _ => some (fToG (.mask .pop) d a)
  | .mfirst d a _ => some (fToG (.mask .first) d a)
  | .msbf d a _ => some (fUn (.mask .sbf) d a false)
  | .mfromv d a _ => some (fUn (.mask .fromv) d a false)
  | .mtov d a _ => some (fUn (.mask .tov) d a false)
  | .vld16 d a c m _ => some (fLd (.load .unit 2) d a c m)
  | .vlds16 d a b c m _ => some (fLds (.load .stride 2) d a b c m)
  | .vldx16 d a b c m _ => some (fLdx (.load .index 2) d a b c m)
  | .vldff16 d a c m _ => some (fLd (.loadff 2) d a c m)
  | .vld32 d a c m _ => some (fLd (.load .unit 4) d a c m)
  | .vlds32 d a b c m _ => some (fLds (.load .stride 4) d a b c m)
  | .vldx32 d a b c m _ => some (fLdx (.load .index 4) d a b c m)
  | .vldff32 d a c m _ => some (fLd (.loadff 4) d a c m)
  | .vld64 d a c m _ => some (fLd (.load .unit 8) d a c m)
  | .vlds64 d a b c m _ => some (fLds (.load .stride 8) d a b c m)
  | .vldx64 d a b c m _ => some (fLdx (.load .index 8) d a b c m)
  | .vldff64 d a c m _ => some (fLd (.loadff 8) d a c m)
  | .vst16 d a c m _ => some (fSt (.store .unit 2 true) d a c m)
  | .vsts16 d a b c m _ => some (fSts (.store .stride 2 true) d a b c m)
  | .vstxo16 d a b c m _ => some (fStx (.store .index 2 true) d a b c m)
  | .vstxa16 d a b c m _ => some (fStx (.store .index 2 false) d a b c m)
  | .vst32 d a c m _ => some (fSt (.store .unit 4 true) d a c m)
  | .vsts32 d a b c m _ => some (fSts (.store .stride 4 true) d a b c m)
  | .vstxo32 d a b c m _ => some (fStx (.store .index 4 true) d a b c m)
  | .vstxa32 d a b c m _ => some (fStx (.store .index 4 false) d a b c m)
  | .vst64 d a c m _ => some (fSt (.store .unit 8 true) d a c m)
  | .vsts64 d a b c m _ => some (fSts (.store .stride 8 true) d a b c m)
  | .vstxo64 d a b c m _ => some (fStx (.store .index 8 true) d a b c m)
  | .vstxa64 d a b c m _ => some (fStx (.store .index 8 false) d a b c m)
  | .vaadd d a b e ret dm me mi _ cls _ => some (fAmo (.amo .add ret) d a b e dm me mi cls)
  | .vaand d a b e ret dm me mi _ cls _ => some (fAmo (.amo .and ret) d a b e dm me mi cls)
  | .vaor d a b e ret dm me mi _ cls _ => some (fAmo (.amo .or ret) d a b e dm me mi cls)
  | .vaxor d a b e ret dm me mi _ cls _ => some (fAmo (.amo .xor ret) d a b e dm me mi cls)
  | .vamin d a b e ret dm me mi _ cls _ => some (fAmo (.amo .min ret) d a b e dm me mi cls)
  | .vamax d a b e ret dm me mi _ cls _ => some (fAmo (.amo .max ret) d a b e dm me mi cls)
  | .vaswap d a b e ret dm me mi _ cls _ => some (fAmo (.amo .swap ret) d a b e dm me mi cls)
  | .vainc d a b e ret dm me mi _ cls _ => some (fAmo (.amo .inc ret) d a b e dm me mi cls)
  | .vabadd d a b e ret dm me mi _ cls _ => some (fAmo (.amo .badd ret) d a b e dm me mi cls)
  | .vfaadd d a b e ret dm me mi _ cls _ => some (fAmo (.amo .fadd ret) d a b e dm me mi cls)
  | .vfamax d a b e ret dm me mi _ cls _ => some (fAmo (.amo .fmax ret) d a b e dm me mi cls)
  | .vgl d a b dm me mi _ cls _ => some (fAmo .gl d a b 0 dm me mi cls)
  | .vsc d a b e dm me mi _ cls _ => some (fAmo .sc d a b e dm me mi cls)
  | .vldq d a q8 grp dm me mi cls _ => some (fX (.ldq q8 grp.toNat) d 0 a dm me mi cls)
  | .vstq e a q8 grp dm me mi cls _ => some (fX (.stq q8 grp.toNat) 0 e a dm me mi cls)
  | .vldf16 d a dm me mi cls _ => some (fX .ldf16 d 0 a dm me mi cls)
  | .vstf16 e a dm me mi cls _ => some (fX .stf16 0 e a dm me mi cls)
  | .vlseg d a f w dm me mi cls _ => some (fX (.ldseg (f.toNat + 1) (2 ^ w.toNat)) d 0 a dm me mi cls)
  | .vsseg e a f w dm me mi cls _ => some (fX (.stseg (f.toNat + 1) (2 ^ w.toNat)) 0 e a dm me mi cls)
  | .vpush d b a dm cls _ => some (fPush d b a dm cls)
  | .vtake d a dm _ => some (fXf .take d a dm)
  | .vempty d dm _ => some (fXf .vempty d 0 dm)
  | .vfill d dm _ => some (fXf .vfill d 0 dm)
  | .sbind d a imm _ => some (fScalar (.sbind imm) d a 0 false)
  | .sunbind d _ => some (fScalar .sunbind d 0 0 false)
  | .sstat d b _ => some (fToG .sstat d b)
  | .sflush d _ => some (fScalar .sflush d 0 0 false)
  | .tplanar d a b e keep cls _ => some (fTile (.tplanar keep) d a b e cls true)
  | .tpost d a scope cls _ => some (fPost (.tpost scope) d a cls)
  | .tzero a cls _ => some (fTile .tzero 0 a 0 0 cls false)
  | .trenorm a b cls _ => some (fTile .trenorm 0 a b 0 cls false)
  | .tload d a b me mi cls _ => some (fTload d a b me mi cls)
  | .tinit a b p role cls _ => some (fTile (.tinit p role) 0 a b 0 cls false)
  | .tstat d a cls _ => some (fTile .tstat d a 0 0 cls true)
  | .tflags d a b cls _ => some (fTile .tflags d a b 0 cls true)
  | .epost d a _ => some (fPost .epost d a 0)
  | .cVadd a b => some (fVV (.int .add) a a b false)
  | .cVfadd a b => some (fVV (.fp .add) a a b false)
  | .cVmv a b => some (fUn .mv a b false)
  | .vsetty d t _ => some (fSetty d t)
  | _ => none

/-- The form of an XV word: its inner instruction under its own die fields and mask base (02 R51). -/
def xvForm (f6 op : BitVec 6) (ds : BitVec 3) (vm : BitVec 2) (dm : BitVec 8) (cls : BitVec 4) (me : Bool) (mi : BitVec 4)
    (b a d : Reg) : Option VForm :=
  match (xvInner f6 op vm cls me b a d).bind plainForm with
  | some f =>
    if op.toNat = 0x26 then some f
    else some { f with desc := { f.desc with dm := some dm, ds := some ds, mi := mi } }
  | none => none

/-- The form of an XVI word: its inner .VS member with the immediate as its scalar (02 R52). -/
def xviForm (op : BitVec 6) (d a : Reg) (f6 : BitVec 6) (imm : BitVec 32) : Option VForm :=
  match (xviInner op f6 a d).bind plainForm with
  | some f => some ⟨{ f.desc with b := .imm32 imm, masked := false }, noPorts⟩
  | none => none

/-- The form of any vector instruction (10 R260, 21 R451). -/
def formOf : Instr → Option VForm
  | .xv f6 op ds vm dm cls me mi b a d _ => xvForm f6 op ds vm dm cls me mi b a d
  | .xvi op d a f6 imm _ => xviForm op d a f6 imm
  | i => plainForm i

/-- An instruction without a form, which decoding refuses already, raises ILLEGAL. -/
def formExec (n : Nat) (st : BitVec 2) (f : Option VForm) (s : State) : Result :=
  match f with
  | some f => vexec n st f s
  | none => .next (trap .illegal 0 s)

/-- XV (02 R51): a VCFG member acts as in its 32-bit form (06 R172). -/
def execXv (f6 op : BitVec 6) (ds : BitVec 3) (vm : BitVec 2) (dm : BitVec 8) (cls : BitVec 4) (me : Bool) (mi : BitVec 4)
    (b a d : Reg) (st : BitVec 2) (s : State) : Result :=
  match op.toNat, f6.toNat with
  | 0x26, 0 => vsetlForm 8 d a st s
  | 0x26, 1 => vsetvtForm 8 d a st s
  | 0x26, 2 => vsettyForm 8 d b st s
  | 0x26, 3 => vsetdieForm 8 a b st s
  | _, _ => formExec 8 st (xvForm f6 op ds vm dm cls me mi b a d) s

/-- XVI (02 R52). -/
def execXvi (op : BitVec 6) (d a : Reg) (f6 : BitVec 6) (imm : BitVec 32) (st : BitVec 2) (s : State) : Result :=
  formExec 8 st (xviForm op d a f6 imm) s

end

end Sys2Proof.Machine
end

