-- ==== Sys2Proof/Machine/DevMem.lean ====
section
/-! DEFINITION. How the device's own agents reach memory and threads: updates of completion objects and words, reads by the
walker and the Registrar, and what they leave for a thread (08 R212, R222; 14 R331, R342, R350; 17 R470, R471). -/

namespace Sys2Proof.Machine

/-- An atomic update of the 64-bit word at an address in a poster's context, with release semantics; it is skipped and
logged where it cannot be made (R471). -/
def agentUpdate (ctx : Ctx) (id : TlbId) (a : Word) (f : Word → Word) (s : State) : State :=
  if a = 0 then s
  else
    match translate s ctx id .write a with
    | (s, .error _) => s.mapDev (logError a.toNat 8 4 none)
    | (s, .ok p) =>
      if anyPoisoned s.dev 8 p.loc then s.mapDev (logError a.toNat 8 4 none)
      else
        let s := setAD p s
        rmwBy none s p.key p.loc 8 (f (BitVec.ofNat 64 (readNat s.dev.mem p.key 8 p.loc))).toNat false

/-- A completion object of a thread noted. -/
def addJoin (j : Join) (l : List Join) : List Join :=
  if l.any (fun k => k.nest == j.nest && k.ord == j.ord && k.tid == j.tid && k.loc == j.loc) then l else l ++ [j]

/-- What a finished engine operation of a thread adds to its completion object; the thread may read it with an acquire at
thread scope (08 R212, 18 R412). -/
def joinUpdate (nest ord tid : Nat) (ctx : Ctx) (id : TlbId) (a inc : Word) (s : State) : State :=
  let t := agentUpdate ctx id a (· + inc) s
  match a == 0, translate s ctx id .write a with
  | false, (_, .ok p) =>
    let j : Join := ⟨nest, ord, tid, p.loc, false⟩
    t.mapDev (fun d => { d with joins := addJoin j d.joins })
  | _, _ => t

/-- The completion objects of a thread forgotten: it has ended. -/
def dropJoins (t : Thread) (s : State) : State := s.mapDev (fun d => { d with joins := d.joins.filter (fun j => !j.isOf t) })

/-- The 64-bit word at an address as an agent reads it; none where it cannot be read (14 R331). -/
def agentRead (ctx : Ctx) (id : TlbId) (a : Word) (s : State) : State × Option Word :=
  match translate s ctx id .read a with
  | (s, .error _) => (s, none)
  | (s, .ok p) =>
    if anyPoisoned s.dev 8 p.loc then (s, none)
    else ((setAD p s).mapDev (readLine sqdDie p.loc), some (BitVec.ofNat 64 (readNat s.dev.mem p.key 8 p.loc)))

/-- A poster's context as the walker uses it: no core's windows (17 R470). -/
def Ctx.alien (c : Ctx) : Ctx := { c with core := alienCore }

/-- An update by the walker in the context of a nest. -/
def nestUpdate (n : Nest) (f : Word → Word) (s : State) : State :=
  agentUpdate n.ctx.alien .sqd (n.record.extractLsb' (8 * 0x60) 64) f s

/-- The nest of a sequence number. -/
def nestAt (s : State) (seq : Nat) : Option Nest := s.dev.walker.nests.find? (fun n => n.seq == seq)

/-- A nest changed. -/
def mapNest (seq : Nat) (f : Nest → Nest) (s : State) : State :=
  s.mapDev (fun d => { d with walker := { d.walker with
    nests := d.walker.nests.map (fun n => if n.seq = seq then f n else n) } })

/-- Bits ORed into a nest's completion word. -/
def nestOr (seq : Nat) (bits : Word) (s : State) : State :=
  match nestAt s seq with
  | some n => nestUpdate n (· ||| bits) s
  | none => s

/-! ### Finding a thread -/

/-- Whether a thread is the one of a nest, an ordinal and an id. -/
def Thread.isThe (t : Thread) (nest ord tid : Nat) : Bool := t.nest == nest && t.ord == ord && t.tid == tid

/-- The core that holds a thread, one that has not been set aside from it. -/
def coreOf (s : State) (nest ord tid : Nat) : Option Nat :=
  s.knownCores.find? (fun n => (s.coreAt n).lives && (s.coreAt n).th.isThe nest ord tid)

/-- A note taken by its thread. -/
def Note.apply (n : Note) (t : Thread) : Thread :=
  match n with
  | .trap u => queueUser u t
  | .revoked => { t with revoked := true }
  | .failure code kind utag => if t.fault.isSome then t else { t with fault := some (code, kind, utag) }

/-- A note for a thread: to the thread on its core or in the set-aside list; for one whose context is in a save area it is kept
for its return while its iteration runs (14 R350; 22 R464, R467). -/
def notify (nest ord tid : Nat) (n : Note) (s : State) : State :=
  let keep := fun (s : State) =>
    match nestAt s nest with
    | some k => if k.iters.any (fun i => i.ord == ord)
        then s.mapDev (fun d => { d with away := d.away ++ [⟨nest, ord, tid, n⟩] }) else s
    | none => s
  match coreOf s nest ord tid with
  | some c => if (s.coreAt c).switching then keep s else s.mapThAt c n.apply
  | none =>
    if s.dev.walker.aside.any (fun a => a.th.isThe nest ord tid && a.area.isNone) then
      s.mapDev (fun d => { d with walker := { d.walker with aside := d.walker.aside.map (fun a =>
        if a.th.isThe nest ord tid && a.area.isNone then { a with th := n.apply a.th } else a) } })
    else keep s

/-- The notes kept for the running thread taken by it. -/
def takeNotes (s : State) : State :=
  let t := s.core.th
  let mine := fun (a : Away) => t.isThe a.nest a.ord a.tid
  ((s.dev.away.filter mine).foldl (fun s a => s.mapTh a.note.apply) s).mapDev (fun d =>
    { d with away := d.away.filter (fun a => !mine a) })

/-- The notes kept for a thread dropped. -/
def dropNotes (nest ord tid : Nat) (s : State) : State :=
  s.mapDev (fun d => { d with away := d.away.filter (fun a => !(a.nest == nest && a.ord == ord && a.tid == tid)) })

end Sys2Proof.Machine
end

