-- ==== Sys2Proof/Machine/Lock.lean ====
section
/-! DEFINITION. The Curator: names, modes, requests, grants, wounds and revocations (16 R371 to R380; 08 R211, R244 to R249), and
the return of a wounded tile task to WAITING (16 R368, R370). -/

namespace Sys2Proof.Machine

/-! ### Modes and names -/

/-- The number of a mode (16 R373). -/
def Mode.num : Mode → Nat
  | .nl => 0 | .is => 1 | .ix => 2 | .s => 3 | .six => 4 | .inc => 5 | .x => 6

/-- The mode of a number. -/
def Mode.ofNum : Nat → Mode
  | 1 => .is | 2 => .ix | 3 => .s | 4 => .six | 5 => .inc | 6 => .x | _ => .nl

/-- The intention mode a mode needs on each ancestor (16 R372). -/
def Mode.intent : Mode → Mode
  | .nl => .nl
  | .is | .s => .is
  | .ix | .six | .inc | .x => .ix

/-- Whether a held mode is compatible with a requested one (16 R373, Table 16-3). -/
def modeCompat (cmp : Word) (h q : Mode) : Bool :=
  h == .nl || q == .nl || cmp.getLsbD (6 * (h.num - 1) + (q.num - 1))

/-- The ancestors of a name: its tensor, then its tile (08 R211, 16 R372). -/
def ancestors (n : Word) : List Word :=
  let tensor := n ||| 0xFFFFFFFFFF
  let tile := n ||| 0xFFFF
  if n = tensor then [] else if n = tile then [tensor] else [tensor, tile]

/-- The strongest of some intention modes, IX over IS (16 R372). -/
def strongest (l : List Mode) : Mode := if l.contains .ix then .ix else if l.contains .is then .is else .nl

/-- The key of a requester (16 R374): a lower one is older. -/
def keyLt (a b : Nat × Nat) : Bool := decide (a.1 < b.1) || (a.1 == b.1 && decide (a.2 < b.2))

/-! ### Entries -/

/-- The explicit mode a holder has on a name. -/
def Curator.explOf (c : Curator) (h : Holder) (n : Word) : Mode :=
  match c.held.find? (fun e => e.holder == h && e.name == n) with
  | some e => e.expl
  | none => .nl

/-- The intention mode a holder has on a name: the strongest that a descendant it holds or requests needs (16 R372). -/
def Curator.intentOf (c : Curator) (h : Holder) (n : Word) : Mode :=
  strongest ((c.held.filter (fun e => e.holder == h && (ancestors e.name).contains n)).map (fun e => e.expl.intent) ++
    (c.queue.filter (fun r => r.holder == h && (ancestors r.name).contains n)).map (fun r => r.mode.intent))

/-- The intention mode on a name that what a holder holds explicitly keeps (16 R377). -/
def Curator.keptIntent (c : Curator) (h : Holder) (n : Word) : Mode :=
  strongest ((c.held.filter (fun e => e.holder == h && (ancestors e.name).contains n)).map (fun e => e.expl.intent))

/-- The other holders with an entry on a name. -/
def Curator.holdersOf (c : Curator) (me : Holder) (n : Word) : List Holder :=
  ((c.held.filter (fun e => e.holder != me && (e.name == n || (ancestors e.name).contains n))).map (·.holder)).eraseDups

/-- What a request asks for: its name and every ancestor (16 R372). -/
def LockReq.demands (r : LockReq) : List (Word × Mode) :=
  (ancestors r.name).map (fun a => (a, r.mode.intent)) ++ [(r.name, r.mode)]

/-- The pairs of a holder or waiter and a name that take an entry (16 R371). -/
def Curator.pairs (c : Curator) : List (Holder × Word) :=
  ((c.held.map (fun e => (e.holder, e.name))) ++ (c.queue.map (fun r => (r.holder, r.name)))).flatMap
    (fun p => (p.1, p.2) :: (ancestors p.2).map (fun a => (p.1, a)))

/-- The entries in use once a request has its own. -/
def Curator.used (c : Curator) (r : LockReq) : Nat :=
  ({ c with queue := r :: c.queue.filter (· != r) } : Curator).pairs.eraseDups.length

/-- Whether a request needs an entry that is not in use yet. -/
def Curator.needs (c : Curator) (r : LockReq) : Bool := decide (c.pairs.eraseDups.length < c.used r)

/-- Whether a request is the oldest of those that wait, for a grant or for entries (16 R379). -/
def Curator.oldest (c : Curator) (r : LockReq) : Bool :=
  (c.queue ++ c.starved).all (fun w => !keyLt (w.age, w.tid) (r.age, r.tid))

/-- Whether the entries suffice for a request: it needs none, or those in use stay within the 32,768, of which 64 are for the
oldest one (16 R371, R375, R379). -/
def Curator.fits (c : Curator) (r : LockReq) : Bool :=
  !c.needs r || decide (c.used r ≤ (if c.oldest r then 32768 else 32704))

/-! ### Grants (16 R375, R376) -/

/-- Whether a request comes from a REP task in mode INC. -/
def LockReq.repInc (r : LockReq) : Bool := r.rep && r.mode == .inc

/-- The waiters that a request stands behind; REP INC requests of one name go by key among themselves. -/
def Curator.ahead (c : Curator) (r : LockReq) : List LockReq :=
  (c.queue.takeWhile (· != r)).filter (fun w => w.holder != r.holder && !(r.repInc && w.repInc && w.name == r.name))

/-- Whether a waiter stands in the way of a demand, in either direction of the matrix. -/
def Curator.waiterBlocks (c : Curator) (d : Word × Mode) (w : LockReq) : Bool :=
  w.demands.any (fun e => e.1 == d.1 && !(modeCompat c.cmp e.2 d.2 && modeCompat c.cmp d.2 e.2))

/-- Whether a holder stands in the way of a demand. -/
def Curator.holderBlocks (c : Curator) (d : Word × Mode) (h : Holder) : Bool :=
  !(modeCompat c.cmp (c.explOf h d.1) d.2 && modeCompat c.cmp (c.intentOf h d.1) d.2)

/-- Whether nothing stands in the way of a request (16 R375). -/
def Curator.clear (c : Curator) (r : LockReq) : Bool :=
  r.demands.all (fun d =>
    (c.holdersOf r.holder d.1).all (fun h => !c.holderBlocks d h) &&
      (r.upgrade || (c.ahead r).all (fun w => !c.waiterBlocks d w))) &&
    !(r.repInc && c.queue.any (fun w => w.repInc && w.name == r.name && keyLt (w.age, w.tid) (r.age, r.tid)))

/-- Whether a waiting request can be granted now (16 R375). -/
def Curator.grantable (c : Curator) (r : LockReq) : Bool := c.clear r && c.fits r

/-- The request granted: it leaves the queue and its entry stands. -/
def Curator.grant (c : Curator) (r : LockReq) : Curator :=
  { c with
    queue := c.queue.filter (· != r)
    starved := c.starved.filter (· != r)
    held := if r.upgrade
      then c.held.map (fun e => if e.holder == r.holder && e.name == r.name then { e with expl := r.mode } else e)
      else c.held ++ [⟨r.holder, r.age, r.tid, r.name, r.mode, none⟩] }

/-- A request put into the queue: an upgrade at the head (16 R375). -/
def Curator.enqueue (c : Curator) (r : LockReq) : Curator :=
  { c with queue := if r.upgrade then r :: c.queue else c.queue ++ [r], starved := c.starved.filter (· != r) }

/-- A request that waits for free entries (16 R379). -/
def Curator.starve (c : Curator) (r : LockReq) : Curator :=
  if c.starved.contains r then c else { c with starved := c.starved ++ [r] }

/-- Every entry and request of a holder gone. -/
def Curator.dropHolder (c : Curator) (h : Holder) : Curator :=
  { c with
    held := c.held.filter (fun e => e.holder != h)
    queue := c.queue.filter (fun r => r.holder != h)
    starved := c.starved.filter (fun r => r.holder != h) }

/-! ### Wounds (16 R377) -/

/-- The entries a waiting request wounds: those of strictly younger holders that stand in its way, by an explicit mode, by an
intention mode or by a waiting upgrade. -/
def Curator.woundees (c : Curator) (r : LockReq) : List LockEntry :=
  c.held.filter (fun e =>
    e.holder != r.holder && keyLt (r.age, r.tid) (e.age, e.tid) &&
      r.demands.any (fun d =>
        (e.name == d.1 && !modeCompat c.cmp e.expl d.2) ||
          ((ancestors e.name).contains d.1 && e.expl.intent == c.keptIntent e.holder d.1 &&
            !modeCompat c.cmp e.expl.intent d.2) ||
          ((e.name == d.1 || (ancestors e.name).contains d.1) && c.queue.any (fun w =>
            w.upgrade && w.holder == e.holder && w.name == e.name && c.waiterBlocks d w))))

/-- A tile task changed. -/
def mapTask (id : Nat) (f : TileTask → TileTask) (s : State) : State :=
  s.mapDev (fun d => { d with tasks := d.tasks.map (fun t => if t.id = id then f t else t) })

/-- The tile task of an id. -/
def taskAt (s : State) (id : Nat) : Option TileTask := s.dev.tasks.find? (fun t => t.id == id)

/-- Field of a task's record: an integer of n bits at a byte offset. -/
def TileTask.fld (t : TileTask) (off n : Nat) : Nat := (t.record.toNat >>> (8 * off)) % 2 ^ n

/-- The operation of a task (08 R213). -/
def TileTask.op (t : TileTask) : Nat := t.fld 0 8

/-- Whether a task is a REP MMA-INC task (16 R368). -/
def TileTask.repInc (t : TileTask) : Bool := t.op == 1 && t.fld 1 8 % 2 == 1

/-- The age of a task's poster (14 R333). -/
def TileTask.age (t : TileTask) : Nat := t.nest * 2 ^ 32 + t.ord

/-- Whether a task is older than another: by its poster's key, then by acceptance (14 R340). -/
def TileTask.olderThan (a b : TileTask) : Bool :=
  keyLt (a.age, a.tid) (b.age, b.tid) || (a.age == b.age && a.tid == b.tid && decide (a.id < b.id))

/-- A task back in WAITING: its private tile is discarded, its lock released, its engine and save slot freed, its age
kept (16 R370). -/
def taskReset (id : Nat) (s : State) : State :=
  (mapTask id (fun t => { t with state := .waiting, slice := 0, tile := [] }) s).mapDev
    (fun d => { d with
      cur := d.cur.dropHolder (.task id)
      slots := d.slots.filter (fun p => p.2 != id) })

/-- The younger REP MMA-INC tasks of the same name that run go back to WAITING too (16 R368). -/
def repCascade (t : TileTask) (s : State) : State :=
  if t.repInc then
    ((s.dev.tasks.filter (fun u => u.repInc && u.fld 0x28 64 == t.fld 0x28 64 && u.state == .running
      && t.olderThan u)).map (·.id)).foldl (fun s id => taskReset id s) s
  else s

/-- A task returned to WAITING by a wound or for want of a save slot (16 R368, Table 16-2; 22 R464). -/
def taskReturn (id : Nat) (s : State) : State :=
  match taskAt s id with
  | none => s
  | some t =>
    let s := taskReset id s
    if t.state = .running ∨ t.state = .suspended then repCascade t s else s

/-- One wound: a thread gets WOUND with the name and its grace runs; a task goes back to WAITING unless it finishes
(16 R377, R378, Table 16-2). A wound already outstanding is not made again. -/
def wound (e : LockEntry) (s : State) : State :=
  match e.holder with
  | .thread age tid =>
    if e.wounded.isSome then s
    else
      notify (age / 2 ^ 32) (age % 2 ^ 32) tid (.trap ⟨.wound, e.name⟩) (s.mapDev (fun d => { d with cur := { d.cur with
        held := d.cur.held.map (fun x => if x == e then { x with wounded := some d.clk } else x) } }))
  | .task id =>
    match taskAt s id with
    | some t => if t.state = .finishing then s else taskReturn id s
    | none => s

/-- The wounds a waiting request makes now. -/
def woundFor (r : LockReq) (s : State) : State := (s.dev.cur.woundees r).foldl (fun s e => wound e s) s

/-- The requests that wait, for a grant or for entries (16 R379). -/
def Curator.waiters (c : Curator) : List LockReq := c.queue ++ c.starved

/-- The wounds of every waiting request. -/
def woundAll (s : State) : State := s.dev.cur.waiters.foldl (fun s r => woundFor r s) s

/-! ### What a thread holds -/

/-- The running thread as a holder. -/
def meHolder (s : State) : Holder := .thread (s.core.th.nest * 2 ^ 32 + s.core.th.ord) s.core.th.tid

/-- The running thread's age (14 R333). -/
def myAge (s : State) : Nat := s.core.th.nest * 2 ^ 32 + s.core.th.ord

/-- The entries the running thread holds explicitly. -/
def myLocks (s : State) : List LockEntry := s.dev.cur.held.filter (fun e => e.holder == meHolder s)

/-- The Curator changed. -/
def mapCur (f : Curator → Curator) (s : State) : State := s.mapDev (fun d => { d with cur := f d.cur })

/-- The request of the running thread. -/
def myReq (s : State) (n : Word) (m : Mode) (up : Bool) : LockReq :=
  ⟨meHolder s, myAge s, s.core.th.tid, n, m, up, false⟩

/-! ### The instructions (08 R244 to R249) -/

/-- A LOCK member that a pending revocation answers: it returns REVOKED and does nothing else (08 R245). -/
def lockMember (d a : Reg) (st : BitVec 2) (s : State) (body : Word → State → State) : Result :=
  .next (scalar [a] s (fun s =>
    if s.core.th.revoked && s.core.th.wait.isNone then
      retire st 8 (writeLat (s.mapTh (fun t => { t with revoked := false })) d .interlocked 3)
    else body (opVal s 0 a) s))

/-- The end of a LOCK member with a status. -/
def lockDone (d : Reg) (st : BitVec 2) (v : Word) (s : State) : State := retire st 8 (writeLat s d .interlocked v)

/-- A wait for a grant: the request is queued once entries suffice, wounds what stands in its way from the first on, and is granted
as soon as it can be (08 R246, 16 R375 to R379). -/
def lockWait (d : Reg) (r : LockReq) (scope st : BitVec 2) (s : State) : State :=
  if s.dev.cur.grantable r then lockDone d st 0 (acquireAt scope 0xFFFF (mapCur (·.grant r) s))
  else if s.dev.cur.queue.contains r then waiting (woundFor r s)
  else if s.dev.cur.fits r then waiting (woundFor r (mapCur (·.enqueue r) s))
  else waiting (woundFor r (mapCur (·.starve r) s))

/-- A LOCK member that acquires or releases follows the queued instructions that read gated registers, which are acquires
(18 R409). -/
def afterAcquires (s : State) (act : State → State) : State := if acquiresQueued s then stall s else act s

/-- Whether `lkacq` and `lktry` are misused: an ill-formed name, a name held, or 64 names held (08 R246). -/
def acqMisuse (s : State) (n : Word) : Bool :=
  let l := myLocks s
  !nameOk n || l.any (fun e => e.name == n) || decide (64 ≤ l.length)

/-- `lkacq` (08 R246). -/
def execLkacq (d a : Reg) (mode : BitVec 3) (scope st : BitVec 2) (s : State) : Result :=
  lockMember d a st s (fun n s =>
    if acqMisuse s n then trap .lockmisuse n s
    else afterAcquires s (lockWait d (myReq s n (Mode.ofNum mode.toNat) false) scope st))

/-- `lktry`: it never queues and wounds nobody, and has no use of the reserved entries (08 R246, 16 R379). -/
def execLktry (d a : Reg) (mode : BitVec 3) (scope st : BitVec 2) (s : State) : Result :=
  lockMember d a st s (fun n s =>
    let r := myReq s n (Mode.ofNum mode.toNat) false
    if acqMisuse s n then trap .lockmisuse n s
    else afterAcquires s (fun s =>
      if s.dev.cur.needs r && decide (32704 < s.dev.cur.used r) then lockDone d st 2 s
      else if s.dev.cur.clear r then lockDone d st 0 (acquireAt scope 0xFFFF (mapCur (·.grant r) s))
      else lockDone d st 1 s))

/-- Changes of mode `lkup` permits (08 Table 08-16). -/
def upOk : Mode → Mode → Bool
  | .is, .ix | .is, .s | .is, .six | .is, .x => true
  | .ix, .six | .ix, .x => true
  | .s, .six | .s, .x => true
  | .six, .x => true
  | .inc, .x => true
  | _, _ => false

/-- Changes of mode `lkdown` permits (08 Table 08-16). -/
def downOk : Mode → Mode → Bool
  | .ix, .is => true
  | .s, .is => true
  | .six, .is | .six, .ix | .six, .s => true
  | .x, .is | .x, .ix | .x, .s | .x, .six | .x, .inc => true
  | _, _ => false

/-- `lkup` (08 R247). -/
def execLkup (d a : Reg) (mode : BitVec 3) (scope st : BitVec 2) (s : State) : Result :=
  lockMember d a st s (fun n s =>
    let m := Mode.ofNum mode.toNat
    if upOk (s.dev.cur.explOf (meHolder s) n) m then afterAcquires s (lockWait d (myReq s n m true) scope st)
    else trap .lockmisuse n s)

/-- `lkdown`: a release (08 R247). -/
def execLkdown (d a : Reg) (mode : BitVec 3) (_scope st : BitVec 2) (s : State) : Result :=
  lockMember d a st s (fun n s =>
    let m := Mode.ofNum mode.toNat
    let me := meHolder s
    if downOk (s.dev.cur.explOf me n) m then
      afterAcquires s (fun s => lockDone d st 0 (mapCur (fun c => { c with held := c.held.map (fun e =>
        if e.holder == me && e.name == n then { e with expl := m } else e) }) s.release))
    else trap .lockmisuse n s)

/-- `lkrel` (08 R248). -/
def execLkrel (d a : Reg) (_scope st : BitVec 2) (s : State) : Result :=
  lockMember d a st s (fun n s =>
    let me := meHolder s
    if s.dev.cur.explOf me n == .nl then trap .lockmisuse n s
    else
      afterAcquires s (fun s => lockDone d st 0
        (mapCur (fun c => { c with held := c.held.filter (fun e => !(e.holder == me && e.name == n)) }) s.release)))

/-- Bit 63 of the result of `lkrelall` and `lkstat`: a pending revocation, which they clear (08 R245). -/
def revokedBit (s : State) : Word := if s.core.th.revoked then 2 ^ 63 else 0

/-- `lkrelall` (08 R248). -/
def execLkrelall (d : Reg) (_scope st : BitVec 2) (s : State) : Result :=
  .next (scalar [] s (fun s => afterAcquires s (fun s =>
    let me := meHolder s
    let v := BitVec.ofNat 64 (myLocks s).length ||| revokedBit s
    lockDone d st v ((mapCur (fun c => { c with held := c.held.filter (fun e => e.holder != me) }) s.release).mapTh
      (fun t => { t with revoked := false })))))

/-- What `lkstat` returns for a name (08 R249). -/
def lockStat (s : State) (n : Word) : Word :=
  let l := myLocks s
  let mine := l.find? (fun e => e.name == n)
  BitVec.ofNat 64 (((mine.map (fun e => e.expl.num)).getD 0)
    + (if ((mine.map (fun e => e.wounded.isSome)).getD false) then 256 else 0) + l.length % 256 * 65536) ||| revokedBit s

/-- `lkstat`: it never waits (08 R249). -/
def execLkstat (d a : Reg) (_scope st : BitVec 2) (s : State) : Result :=
  .next (scalar [a] s (fun s =>
    lockDone d st (lockStat s (opVal s 0 a)) (s.mapTh (fun t => { t with revoked := false }))))

/-! ### Moves of the Curator -/

/-- The task a request belongs to becomes READY with its lock (16 Table 16-2). -/
def grantTask (r : LockReq) (id : Nat) (s : State) : State :=
  mapTask id (fun t => { t with state := .ready }) (mapCur (·.grant r) s)

/-- The first request of a task that can be granted. -/
def taskGrantable (s : State) : Option (LockReq × Nat) :=
  s.dev.cur.queue.findSome? (fun r =>
    match r.holder with
    | .task id => if s.dev.cur.grantable r then some (r, id) else none
    | .thread _ _ => none)

/-- The core whose thread waits for a request. -/
def lockCore (s : State) (r : LockReq) : Option Nat :=
  match r.holder with
  | .thread age tid => (coreOf s (age / 2 ^ 32) (age % 2 ^ 32) tid).filter (fun c => (s.coreAt c).th.wait.isSome)
  | .task _ => none

/-- The core of the first request of a thread that can be granted. -/
def threadGrantable (s : State) : Option Nat :=
  s.dev.cur.queue.findSome? (fun r => if s.dev.cur.grantable r then lockCore s r else none)

/-- The revocation of a wounded name once its grace has passed (16 R378). -/
def revoke (name : Word) (tid : Nat) (s : State) : State :=
  match s.dev.cur.held.find? (fun e => e.name == name && e.tid == tid &&
      (match e.wounded with
       | some t => decide (t + s.dev.cur.grace.toNat ≤ s.dev.clk)
       | none => false)) with
  | some e =>
    match e.holder with
    | .thread age tid =>
      notify (age / 2 ^ 32) (age % 2 ^ 32) tid .revoked (mapCur (fun c => { c with held := c.held.filter (· != e) }) s)
    | .task _ => s
  | none => s

end Sys2Proof.Machine
end

