-- ==== Sys2Proof/Machine/EngScalar.lean ====
section
/-! DEFINITION. The scalar members of ENG: suspension, status and joins of engine operations (08 R233 to R235, R209). -/

namespace Sys2Proof.Machine

/-- Whether an older `tpost` or `epost` is still in the queue (08 R209). -/
def postsQueued (s : State) : Bool :=
  (s.core.th.viq.drop s.core.th.held).any (fun e =>
    match e.desc.op with
    | .tpost _ => true
    | .epost => true
    | _ => false)

/-- Whether a copy is one of the running thread. -/
def myCopy (s : State) (c : CopyCmd) : Bool :=
  c.nest == s.core.th.nest && c.ord == s.core.th.ord && c.tid == s.core.th.tid && c.state != .finished

/-- The user tag of a copy. -/
def CopyCmd.utag (c : CopyCmd) : Word := c.record.extractLsb' (8 * 0x30) 64

/-- The user tag of a task. -/
def TileTask.utag (t : TileTask) : Word := t.record.extractLsb' (8 * 0x38) 64

/-- Copies changed where a condition holds, and how many those were. -/
def changeCopies (p : CopyCmd → Bool) (f : CopyCmd → CopyCmd) (s : State) : State × Nat :=
  (s.mapDev (fun d => { d with copies := d.copies.map (fun c => if p c then f c else c) }),
    (s.dev.copies.filter p).length)

/-- Poison units that some bytes cover whole lose their mark (20 R440). -/
def clearUnits (locs : List Nat) (m : Mem) : Mem :=
  { m with poison := m.poison.filter (fun u => !(List.range (poisonUnit u)).all (fun i => locs.contains (u + i))) }

/-- Buffered bytes written (17 R400). -/
def writeBuf (bs : List BufByte) (s : State) : State :=
  bs.foldl (fun s b => storeBy none s b.key b.loc 1 b.val false)
    (s.mapDev (fun d => { d with mem := clearUnits (bs.map (·.loc)) d.mem }))

/-- The buffers of some copies written and empty: so they stand at a suspension (08 R217, 17 R400). -/
def flushCopies (p : CopyCmd → Bool) (s : State) : State :=
  let s := (s.dev.copies.filter p).foldl (fun s c => writeBuf c.buf s) s
  (changeCopies p (fun c => { c with buf := [] }) s).1

/-- `esusp`: a running copy stands at a 256-byte boundary whenever an instruction runs (08 R233). -/
def execEsusp (d a : Reg) (all : Bool) (st : BitVec 2) (s : State) : Result :=
  .next (scalar [a] s (fun s =>
    if postsQueued s then waiting s
    else
      let u := opVal s 0 a
      let hit := fun (c : CopyCmd) => myCopy s c && !c.suspended && (all || c.utag == u)
      let (s, n) := changeCopies hit (fun c => { c with suspended := true, state := .queued }) (flushCopies hit s)
      retire st 8 (writeLat s d .interlocked (BitVec.ofNat 64 n))))

/-- `eresm` (08 R233). -/
def execEresm (d a : Reg) (all : Bool) (st : BitVec 2) (s : State) : Result :=
  .next (scalar [a] s (fun s =>
    if postsQueued s then waiting s
    else
      let u := opVal s 0 a
      let (s, n) := changeCopies (fun c => myCopy s c && c.suspended && (all || c.utag == u))
        (fun c => { c with suspended := false }) s
      retire st 8 (writeLat s d .interlocked (BitVec.ofNat 64 n))))

/-- The value of a selector of `estat` (08 R234). -/
def estatValue (s : State) (sel : BitVec 2) (u : Word) : Word :=
  match sel.toNat with
  | 0 => BitVec.ofNat 64 (copyFree s + (s.dev.copies.filter (fun c => myCopy s c && c.suspended)).length * 2 ^ 8
      + tileFree s * 2 ^ 16)
  | 1 =>
    match s.dev.copies.find? (fun c => myCopy s c && c.utag == u) with
    | some c => BitVec.ofNat 64 c.progress
    | none => BitVec.allOnes 64
  | 2 =>
    match s.core.th.fault with
    | some (code, kind, _) => BitVec.ofNat 64 (code + 256 * kind)
    | none => 0
  | _ =>
    match s.core.th.fault with
    | some (_, _, t) => t
    | none => 0

/-- `estat`; selector 3 empties the fault record (08 R234). -/
def execEstat (d a : Reg) (sel : BitVec 2) (st : BitVec 2) (s : State) : Result :=
  .next (scalar [a] s (fun s =>
    if postsQueued s then waiting s
    else
      let v := estatValue s sel (opVal s 0 a)
      let s := if sel = 3 then s.mapTh (fun t => { t with fault := none }) else s
      retire st 8 (writeLat s d .interlocked v)))

/-- `ewait`: an acquire that also invalidates the lines the thread's own operations may have changed (08 R235, 18 R412). -/
def execEwait (d a b : Reg) (imm : BitVec 11) (scope : BitVec 2) (cls : BitVec 4) (st : BitVec 2) (s : State) : Result :=
  .next (orderedAccess [a, b] s (fun s =>
    let va := opVal s 0 a + offUnits imm 8
    match loadScalar s .read va 8 with
    | (s, .error c) => trap c va s
    | (s, .ok (_, v)) =>
      if (BitVec.ofNat 32 v - (opVal s 1 b).setWidth 32).toNat < 2 ^ 31 then
        retire st 8 (writeLat (acquireAt scope (clsMask cls) s).acquire d .interlocked (BitVec.ofNat 64 v))
      else waitOrEmpty (va + 2) s))

end Sys2Proof.Machine
end

