-- ==== Sys2Proof/Machine/Nest.lean ====
section
/-! DEFINITION. Nest records, their checks and acceptance, conditions and ends of nests (14 R328 to R332, R341, R342, Table 14-1;
08 R250, R251). -/

namespace Sys2Proof.Machine

/-- An integer of n bits at a byte offset of a nest record (14 Table 14-6). -/
def recF (r : BitVec 1024) (off n : Nat) : Nat := r.toNat / 2 ^ (8 * off) % 2 ^ n

/-- A field of a nest's record. -/
def Nest.fld (n : Nest) (off w : Nat) : Nat := recF n.record off w

/-- A word of a nest's record. -/
def Nest.word (n : Nest) (off : Nat) : Word := BitVec.ofNat 64 (n.fld off 64)

/-- A bit of a nest's FLAGS. -/
def Nest.flag (n : Nest) (k : Nat) : Bool := n.record.getLsbD k

/-- The priority of a nest. -/
def Nest.prio (n : Nest) : Nat := n.fld 1 3

/-- The number of stages. -/
def Nest.stages (n : Nest) : Nat := n.fld 6 8

/-- The extent of loop l; 1 for an unused loop. -/
def Nest.ext (n : Nest) (l : Nat) : Nat := if l < n.fld 4 8 then n.fld (8 + 4 * l) 32 else 1

/-- The number of iterations (14 R330). -/
def Nest.count (n : Nest) : Nat := n.ext 0 * n.ext 1 * n.ext 2 * n.ext 3

/-- The cores per cluster of stage s. -/
def Nest.share (n : Nest) (s : Nat) : Nat := n.fld 0x70 32 / 16 ^ s % 16

/-- Whether an address is zero or a multiple of 8 that lies in neither the scratch nor the CSM window (14 Table 14-1). -/
def recAddrOk (a : Nat) : Bool := a % 8 == 0 && windowOf a != some 1 && windowOf a != some 2

/-- The checks of Table 14-1. -/
def recordOk (r : BitVec 1024) : Bool :=
  let f := recF r
  let fl := f 0 32
  let bit := fun k => fl / 2 ^ k % 2 == 1
  let loops := f 4 8
  let stages := f 6 8
  let ext := fun l => f (8 + 4 * l) 32
  let split := f 0x70 32
  let nib := fun s => split / 16 ^ s % 16
  let used := (List.range 4).filter (· < loops)
  let unused := (List.range 4).filter (loops ≤ ·)
  let own := (List.range 8).filter (· < stages)
  fl / 16 % 16 == 0 && fl / 2 ^ 15 == 0 && (!bit 13 || bit 12) &&
    decide (1 ≤ loops) && decide (loops ≤ 4) && decide (f 5 8 ≤ 3) && (f 5 8 != 2 || decide (2 ≤ loops)) &&
    decide (1 ≤ stages) && decide (stages ≤ 8) && f 7 8 == 0 &&
    used.all (fun l => ext l != 0) && decide ((used.map ext).foldl (· * ·) 1 ≤ 2 ^ 32 - 1) &&
    unused.all (fun l => ext l == 0 && f (0x18 + 4 * l) 32 == 0) &&
    f 0x28 64 != 0 && f 0x28 64 % 2 == 0 && f 0x30 64 % 64 == 0 &&
    decide (1 ≤ f 0x38 8) && decide (f 0x38 8 ≤ f 0x39 8) && decide (f 0x39 8 ≤ 32) &&
    recAddrOk (f 0x40 64) && recAddrOk (f 0x50 64) && recAddrOk (f 0x60 64) && ((f 0x50 64 != 0) == bit 11) &&
    (if bit 12 then decide (2 ≤ f 0x6C 16) else f 0x68 32 == 0 && f 0x6C 16 == 0) && f 0x6E 16 == 0 &&
    own.all (fun s => decide (1 ≤ nib s) && decide (nib s ≤ 8)) && (own.map nib).foldl (· + ·) 0 == 8 &&
    split / 16 ^ stages == 0 && f 0x74 32 != 0 && f 0x78 64 == 0

/-- The places the walker's queue of a priority has left (14 R329). -/
def nestRoom (s : State) (prio : Nat) : Bool := decide ((s.dev.walker.nests.filter (fun n => n.prio == prio)).length < 128)

/-- The members of a gang known when its nest is accepted: this device and those whose acknowledgements came before (14 R346). -/
def firstAcks (s : State) (r : BitVec 1024) : List (BitVec 16) :=
  if r.getLsbD 12 then
    (Config.fabricNumber :: ((s.dev.walker.early.filter (fun e => e.1.toNat == recF r 0x68 32)).map (·.2))).eraseDups
  else []

/-- A nest as it is accepted (14 R330). -/
def newNest (s : State) (ctx : Ctx) (r : BitVec 1024) : Nest :=
  { seq := s.dev.walker.nextSeq, record := r, ctx := ctx, eligible := false, aborted := false, nextOrd := 0
    lastCluster := none, iters := [], postedAt := s.dev.clk
    acks := firstAcks s r, gangFormed := !r.getLsbD 12 || decide (recF r 0x6C 16 ≤ (firstAcks s r).length), gangLate := false, badWait := false, rank := none }

/-- MSI-X of a nest: only with a completion word and the flag (14 R342). -/
def nestMsix (n : Nest) (s : State) : State :=
  if n.word 0x60 ≠ 0 ∧ n.flag 14 then
    s.mapDev (fun d => { d with host := { d.host with msix := d.host.msix ++ [n.prio] } })
  else s

/-- The end of a nest: the last write of its completion word, MSI-X, and its place is free (14 R329, R342). -/
def nestClose (n : Nest) (bits : Word) (s : State) : State :=
  (nestMsix n (nestUpdate n (· ||| (bits ||| 0x100)) s)).mapDev (fun d =>
    { d with
      walker := { d.walker with nests := d.walker.nests.filter (fun k => k.seq != n.seq) }
      away := d.away.filter (fun a => a.nest != n.seq)
      fabric := { d.fabric with acked := d.fabric.acked.filter (fun a => a.seq != n.seq) } })

/-- A nest becomes eligible: its condition word is read, once (14 R331, R332). -/
def becomeEligible (seq : Nat) (s : State) : State :=
  match nestAt s seq with
  | none => s
  | some n =>
    let s := mapNest seq (fun n => { n with eligible := true }) s
    if n.flag 11 then
      match agentRead n.ctx.alien .sqd (n.word 0x50) s with
      | (s, some v) => if v = n.word 0x58 then s else nestClose n 0x200 s
      | (s, none) => nestClose n 0x800 (s.mapDev (logError (n.fld 0x50 64) 8 5 none))
    else s

/-- A checked record accepted in a context; one without a wait word is eligible at once (14 R330, R331). A gang refuses this
device's acknowledgement where it comes late for the others, and the nest never starts (14 R348). -/
def nestAccept (ctx : Ctx) (r : BitVec 1024) (s : State) : State :=
  let n := newNest s ctx r
  let s := s.mapDev (fun d => { d with walker := { d.walker with
    nests := d.walker.nests ++ [n], nextSeq := d.walker.nextSeq + 1
    early := d.walker.early.filter (fun e => !(n.flag 12 && e.1.toNat == n.fld 0x68 32)) } })
  if n.flag 12 && Config.ackRefused n.seq then nestClose n 0x1800 s
  else if n.word 0x40 = 0 then becomeEligible n.seq s else s

/-- The priority of a record of the user form: never above the poster's (08 R250). -/
def capPrio (p : Nat) (r : BitVec 1024) : BitVec 1024 :=
  let q := recF r 1 3
  if p < q then BitVec.ofNat 1024 (r.toNat - (q - p) * 256) else r

/-- A record posted by a thread, with the value of gd (08 R250). -/
def postRecord (sup : Bool) (r : BitVec 1024) (s : State) : State × Word :=
  let r := if sup then r else capPrio s.core.th.prio r
  if !sup && (r.getLsbD 12 || r.getLsbD 13) then (s, 2 ^ 63 + 3)
  else if !recordOk r then (s, 2 ^ 63 + 2)
  else if !nestRoom s (recF r 1 3) then (s, 2 ^ 63 + 1)
  else (nestAccept s.ctx r s, BitVec.ofNat 64 s.dev.walker.nextSeq)

/-- `nlaunch` (08 R250). -/
def execNlaunch (d a : Reg) (sup : Bool) (st : BitVec 2) (s : State) : Result :=
  .next (if sup && s.core.level == .user then trap .priv 0 s else scalar [a] s (fun s =>
    let va := opVal s 0 a
    if va.toNat % 128 != 0 then trap .align va s
    else
      match translate s s.ctx s.dtlb .read va with
      | (s, .error c) => trap c va s
      | (s, .ok p) =>
        if anyPoisoned s.dev 128 p.loc then trap .poison va (s.mapDev (logUnmapped p.loc))
        else if storesQueued s || acquiresQueued s then waiting s
        else
          let s := (noteLoad p (setAD p s)).release
          let (s, v) := postRecord sup (BitVec.ofNat 1024 (readNat s.dev.mem p.key 128 p.loc)) s
          retire st 8 (writeLat s d .interlocked v)))

/-- MIN lowered toward the columns a cluster has (14 R338). -/
def lowerMin (s : State) : State :=
  let c := s.at_ / 8
  let total := (s.occupants c).foldl (fun n k => n + (s.coreAt (8 * c + k)).th.csr.leaseMin.toNat) 0
  let ended := total - (s.cluster c).cols
  s.mapCsr (fun k => { k with leaseMin := BitVec.ofNat 8 (max 1 (k.leaseMin.toNat - ended)) })

/-- `llease` (08 R251). -/
def execLlease (a b : Reg) (st : BitVec 2) (s : State) : Result :=
  .next (scalar [a, b] s (fun s =>
    let mn := (opVal s 0 a).toNat % 256
    let pf := (opVal s 1 b).toNat % 256
    retire st 8 (retarget (s.at_ / 8) (lowerMin (setLease mn pf s)))))

end Sys2Proof.Machine
end

