-- ==== Sys2Proof/Machine/Walker.lean ====
section
/-! DEFINITION. The walker: walk orders, dispatch, resumption, ends of threads, iterations and nests, gangs
(14 R331 to R337, R341 to R348; 10 R287; 22 R465, R466; 05 R135). -/

namespace Sys2Proof.Machine

/-! ### Walk orders (14 R333) -/

/-- Lexicographic indices of an ordinal. -/
def Nest.lex (n : Nest) (o : Nat) : List Nat :=
  [o / (n.ext 1 * n.ext 2 * n.ext 3), o / (n.ext 2 * n.ext 3) % n.ext 1, o / n.ext 3 % n.ext 2, o % n.ext 3]

/-- The pair at a position of the Morton order over X0 × X1, within a block of side 2^b based at (a0, a1). -/
def mortonPair (x0 x1 : Nat) : Nat → Nat → Nat → Nat → Nat × Nat
  | 0, a0, a1, _ => (a0, a1)
  | b + 1, a0, a1, q =>
    let h := 2 ^ b
    let cnt := fun (u v : Nat) => min (x0 - (a0 + u * h)) h * min (x1 - (a1 + v * h)) h
    if q < cnt 0 0 then mortonPair x0 x1 b a0 a1 q
    else
      let q := q - cnt 0 0
      if q < cnt 0 1 then mortonPair x0 x1 b a0 (a1 + h) q
      else
        let q := q - cnt 0 1
        if q < cnt 1 0 then mortonPair x0 x1 b (a0 + h) a1 q
        else mortonPair x0 x1 b (a0 + h) (a1 + h) (q - cnt 1 0)

/-- The indices of loops 0 to 3 of an ordinal. -/
def Nest.indices (n : Nest) (o : Nat) : List Nat :=
  match n.fld 5 8 with
  | 0 => n.lex o
  | 1 => n.lex (n.count - 1 - o)
  | 2 =>
    let inner := n.ext 2 * n.ext 3
    let p := mortonPair (n.ext 0) (n.ext 1) 32 0 0 (o / inner)
    [p.1, p.2, o % inner / n.ext 3, o % n.ext 3]
  | _ =>
    let m := n.lex o
    let i := fun k => m.getD k 0
    let flip := fun (p l : Nat) => if p % 2 = 1 then n.ext l - 1 - i l else i l
    [i 0, flip (i 0) 1, flip (i 0 * n.ext 1 + i 1) 2, flip ((i 0 * n.ext 1 + i 1) * n.ext 2 + i 2) 3]

/-! ### Hosts (14 R334, R337) -/

/-- Whether a thread of a nest holds the id of a core that it does not occupy (14 R337). -/
def idTaken (s : State) (seq k : Nat) : Bool :=
  s.knownCores.any (fun j => j != k && (s.coreAt j).occupied && (s.coreAt j).th.nest == seq && (s.coreAt j).th.tid == k) ||
    s.dev.walker.aside.any (fun a => a.th.nest == seq && a.th.tid == k)

/-- The cores of stage st's share in cluster c (13 R316). -/
def Nest.shareCores (n : Nest) (c st : Nat) : List Nat :=
  let base := ((List.range st).map n.share).foldl (· + ·) 0
  (List.range (n.share st)).map (fun i => 8 * c + base + i)

/-- The sum of MIN over a cluster's live threads. -/
def minSum (s : State) (c : Nat) : Nat :=
  (s.occupants c).foldl (fun n k => n + (s.coreAt (8 * c + k)).th.csr.leaseMin.toNat) 0

/-- MIN and PREF of a nest's threads as a cluster with so many columns stores them (01 R30). -/
def Nest.lease (n : Nest) (cols : Nat) : Nat × Nat := adjustLease cols (n.fld 0x38 8) (n.fld 0x39 8)

/-- The cores an iteration of a nest would take in a cluster, one for each stage, when it can host it. -/
def hostCores (s : State) (n : Nest) (c : Nat) : Option (List Nat) :=
  let picks := (List.range n.stages).map (fun st =>
    (n.shareCores c st).find? (fun k => (s.coreAt k).vacant && !idTaken s n.seq k))
  if picks.all (·.isSome) && decide (minSum s c + n.stages * (n.lease (s.cluster c).cols).1 ≤ (s.cluster c).cols) then
    some (picks.filterMap id)
  else none

/-- The clusters of a nest's mask in the order the walker tries them. -/
def Nest.clusterOrder (n : Nest) : List Nat :=
  let first := match n.lastCluster with
    | some l => l + 1
    | none => 0
  ((List.range 32).map (fun i => (first + i) % 32)).filter (fun c => n.record.getLsbD (8 * 0x74 + c))

/-- The cluster and cores that host the next iteration of a nest. -/
def Nest.place (n : Nest) (s : State) : Option (Nat × List Nat) :=
  n.clusterOrder.findSome? (fun c => (hostCores s n c).map (fun k => (c, k)))

/-- Whether a nest has an iteration to dispatch now (14 R331, R346, R348). -/
def Nest.wants (n : Nest) : Bool :=
  n.eligible && !n.aborted && decide (n.nextOrd < n.count) && (n.gangFormed || n.flag 13)

/-- The core that can host a set-aside thread: of its stage's share in its cluster, where its MIN columns are free (14 R337). -/
def asideHost (s : State) (a : Aside) : Option Nat :=
  let c := a.core / 8
  match nestAt s a.th.nest with
  | some n =>
    if minSum s c + a.th.csr.leaseMin.toNat ≤ (s.cluster c).cols then
      (n.shareCores c a.th.stage).find? (fun k => (s.coreAt k).vacant)
    else none
  | none => none

/-- Whether the context of a set-aside thread is complete: a handler that stores it says so in the state word of its area
(21 Table 21-2, R454; log 54). -/
def asideSaved (s : State) (a : Aside) : Bool :=
  match a.area with
  | some o => decide (dspRead s (o + 0x138) 8 = 1) && (assocGet s.dev.blocks o).isSome
  | none => true

/-- The core a set-aside thread resumes on, 512 cycles after it was set aside or later (14 R337). -/
def resumeCore (s : State) (a : Aside) : Option Nat :=
  if a.since + 512 ≤ s.dev.clk ∧ asideSaved s a = true then asideHost s a else none

/-- What the walker does next: a resumption or a dispatch. -/
inductive WMove where
  | resume (a : Aside) (core : Nat)
  | dispatch (seq cluster : Nat) (cores : List Nat)
  deriving DecidableEq, Repr

/-- The first candidate at a priority that can be hosted: set-aside threads in the order of setting aside, then nests by sequence
(14 R334, R336). -/
def walkerAt (s : State) (p : Nat) : Option WMove :=
  match (s.dev.walker.aside.filter (fun a => a.th.prio == p)).findSome? (fun a => (resumeCore s a).map (WMove.resume a)) with
  | some m => some m
  | none =>
    (s.dev.walker.nests.filter (fun n => n.prio == p && n.wants)).findSome? (fun n =>
      (n.place s).map (fun q => .dispatch n.seq q.1 q.2))

/-- The first candidate from priority 7 down. -/
def walkerMove (s : State) : Option WMove := [7, 6, 5, 4, 3, 2, 1, 0].findSome? (walkerAt s)

/-! ### Dispatch (14 R335, R341; 01 R41, R42) -/

/-- The rank of this device in a nest's gang: the position of its fabric number; while some members of an eager gang are still
unknown, how many of those come before it is free, and what the first dispatch found holds for the others (14 R346, R348). -/
def Nest.position (n : Nest) : BitVec 16 :=
  if !n.flag 12 then 0
  else if let some r := n.rank then r
  else
    let below := (n.acks.filter (fun f => decide (f.toNat < Config.fabricNumber.toNat))).length
    let unknown := n.fld 0x6C 16 - n.acks.length
    BitVec.ofNat 16 (below + (Config.gangRank n.seq).toNat % (unknown + 1))

/-- A thread at its first instruction (01 R41, R42; 14 R335). -/
def Nest.thread (n : Nest) (ord stage core clk cols : Nat) (ways : BitVec 16) : Thread :=
  let lease := n.lease cols
  let ix := n.indices ord
  let g := fun (k : Nat) => match k with
    | 5 => BitVec.ofNat 64 stage
    | 6 => BitVec.ofNat 64 core
    | 7 => n.word 0x30
    | 8 => n.position.setWidth 64
    | _ => if 1 ≤ k ∧ k ≤ 4 then BitVec.ofNat 64 (ix.getD (k - 1) 0 * n.fld (0x18 + 4 * (k - 1)) 32) else 0
  { Thread.start with
    g := Vector.ofFn (fun (i : Fin 32) => g i.val)
    pc := n.word 0x28
    csr := { Csrs.start with
      vtype := 0xFF18 + (if n.flag 2 then 0x40 else 0)
      leasePref := BitVec.ofNat 8 lease.2
      leaseMin := BitVec.ofNat 8 lease.1
      leaseGranted := BitVec.ofNat 8 lease.1
      pairctl := 0x08000000 + (if n.flag 1 then 1 else 0)
      kslice := BitVec.ofNat 32 (n.fld 0x3C 32)
      tbcfg := ways
      threadid := BitVec.ofNat 16 (stage * 256 + core)
      nestid := BitVec.ofNat 64 n.seq
      gangrank := n.position }
    floor := BitVec.ofNat 64 (ticks clk)
    nest := n.seq, ord := ord, stage := stage, tid := core, prio := n.prio, minCols := lease.1
    vlfix := n.flag 3, cycleFrom := clk }

/-- A core at the start of a thread: caches of the core stay, what belongs to a thread begins anew. -/
def Core.enter (c : Core) (t : Thread) (l : Level) : Core :=
  { c with
    th := t, run := .live, level := l, preempt := false, preemptStop := false, gangfail := none, tblines := [], coalesce := []
    lead := none, leadV := Vector.replicate 32 VReg.zero, refork := t.csr.pairctl.getLsbD 0, diverged := false, cat := Catalogue.start, out := false }

/-- The scratch ways of the thread now on the core: another's data is saved, its own stays, the rest reads as zero; ways of
`kept` keep what they hold (17 R386, 22 R466). -/
def enterWays (kept : BitVec 16) (s : State) : State :=
  let m := s.csr.tbcfg
  let own := ownWays s
  let s := claimWays m s
  s.mapDev (clearWays s.at_ (m &&& ~~~(own ||| kept)))

/-- One stage thread of an iteration put on its core; its start is an acquire of what the launch released, for TIME too (18 R410,
R413). -/
def startThread (n : Nest) (ord : Nat) (p : Nat × Nat) (s : State) : State :=
  s.onCore p.2 (fun s =>
    let s := s.mapCore (fun c => c.enter (n.thread ord p.1 p.2 s.dev.clk (s.cluster (p.2 / 8)).cols (BitVec.ofNat 16 (n.fld 0x3A 16))) .user)
    enterWays 0 ((s.mapCsr (fun c => { c with tbcfg := c.tbcfg &&& ~~~(reservedWays s) })).raiseFloor 0))

/-- Whether a cluster holds no thread, live or set aside, and no unfinished tile task (14 R341). -/
def clusterEmpty (s : State) (c : Nat) : Bool :=
  (s.occupants c).isEmpty && !s.dev.walker.aside.any (fun a => a.core / 8 == c) && !s.dev.tasks.any (fun t => t.cluster == c)

/-- One iteration dispatched to a cluster (14 R334). -/
def dispatch (seq c : Nat) (cores : List Nat) (s : State) : State :=
  match nestAt s seq with
  | none => s
  | some n =>
    let s := if clusterEmpty s c then s.mapCluster c (fun k => { k with tokens := Vector.replicate 64 0 }) else s
    let s := ((List.range n.stages).zip cores).foldl (fun s p => startThread n n.nextOrd p s) s
    let s := mapNest seq (fun n => { n with
      rank := some n.position, nextOrd := n.nextOrd + 1, lastCluster := some c, iters := n.iters ++ [⟨n.nextOrd, n.stages, false, false⟩] }) s
    retarget c s

/-- A set-aside thread put back on a core on its MIN columns, its queued entries too (10 R269; 14 R337; 22 R466). -/
def resume (a : Aside) (core : Nat) (s : State) : State :=
  let s := s.mapDev (fun d => { d with walker := { d.walker with aside := d.walker.aside.filter (· != a) } })
  let s := s.onCore core (fun s =>
    let t := { a.th with
      cycleFrom := s.dev.clk
      viq := a.th.viq.map (fun e => { e with granted := a.th.csr.leaseMin })
      csr := { a.th.csr with leaseGranted := a.th.csr.leaseMin } }
    enterWays 0 (s.mapCore (fun c => c.enter t a.level)).acquire)
  retarget (core / 8) s

/-- A request for pre-emption: a candidate no cluster can host while a thread of lower priority occupies a core of its
mask (14 R345). -/
def wantsRoom (s : State) (n : Nest) : Bool :=
  n.wants && (n.place s).isNone && !s.dev.walker.requests.any (fun r => r.2.1 == n.seq) &&
    s.knownCores.any (fun k => n.record.getLsbD (8 * 0x74 + k / 8) && (s.coreAt k).lives
      && decide ((s.coreAt k).th.prio < n.prio))

/-- The same for a set-aside thread that finds no core (14 R345). -/
def asideWantsRoom (s : State) (a : Aside) : Bool :=
  match nestAt s a.th.nest with
  | some n =>
    (asideHost s a).isNone && !a.asked &&
      s.knownCores.any (fun k => n.record.getLsbD (8 * 0x74 + k / 8) && (s.coreAt k).lives
        && decide ((s.coreAt k).th.prio < n.prio))
  | none => false

/-- A request for pre-emption on behalf of a nest. -/
def postRequest (n : Nest) (s : State) : State :=
  s.mapDev (fun d => { d with walker := { d.walker with
    requests := d.walker.requests ++ [(n.prio, n.seq, BitVec.ofNat 32 (n.fld 0x74 32))] } })

/-- The requests for pre-emption the walker posts now: one for each candidate (14 R345). -/
def postRequests (s : State) : State :=
  let wants := s.dev.walker.aside.filter (asideWantsRoom s)
  let s := wants.foldl (fun s a => match nestAt s a.th.nest with
    | some n => postRequest n s
    | none => s) s
  let s := s.mapDev (fun d => { d with walker := { d.walker with
    aside := d.walker.aside.map (fun a => if wants.contains a then { a with asked := true } else a) } })
  (s.dev.walker.nests.filter (wantsRoom s)).foldl (fun s n => postRequest n s) s

/-! ### Ends of threads and iterations (14 R342, R343; 05 R135) -/

/-- What an iteration leaves in the completion word once all its threads have ended (14 R342). -/
def iterEnd (seq ord : Nat) (s : State) : State :=
  match nestAt s seq with
  | none => s
  | some n =>
    match n.iters.find? (fun i => i.ord == ord) with
    | none => s
    | some i =>
      if i.left ≠ 0 then s
      else
        let s := mapNest seq (fun n => { n with iters := n.iters.filter (fun i => i.ord != ord) }) s
        if i.faulted then
          nestUpdate n (fun w => (if w.toNat / 2 ^ 16 % 2 ^ 16 = 65535 then w else w + 0x10000) ||| 0x400) s
        else if i.lost then s
        else nestUpdate n (· + 0x100000000) s

/-- One thread of an iteration has ended, by `kend` or otherwise. -/
def threadEnded (seq ord : Nat) (f : Iter → Iter) (s : State) : State :=
  iterEnd seq ord (mapNest seq (fun n => { n with iters := n.iters.map (fun i =>
    if i.ord = ord then f { i with left := i.left - 1 } else i) }) s)

/-- The core whose turn it is left free (14 R334, R336). -/
def vacate (s : State) : State :=
  let s := (abandonWait s).mapCore (fun c =>
    { c with
      run := .idle, level := .user, preempt := false, preemptStop := false, gangfail := none, lead := none, refork := false, diverged := false
      out := false, coalesce := [], tblines := []
      th := { c.th with viq := [], streams := [], utq := [], resv := none, vresv := [], lat := [], arrival := none } })
  retarget (s.at_ / 8) (dspWrite s (reqOff + 8 * s.at_) 8 0)

/-- The core whose turn it is left free by a thread that has ended. -/
def freeCore (s : State) : State :=
  let t := s.core.th
  vacate (dropJoins t (dropNotes t.nest t.ord t.tid s))

/-- Whether the running thread's iteration is to end without counting (14 R342, R343). -/
def iterLost (s : State) : Bool :=
  match nestAt s s.core.th.nest with
  | some n => n.iters.any (fun i => i.ord == s.core.th.ord && i.lost)
  | none => true

/-- The thread of the core whose turn it is has ended without counting, while the trap handler runs on in its place
(14 R342, R343). -/
def lostHere (s : State) : State :=
  let t := s.core.th
  let s := dropJoins t (dropNotes t.nest t.ord t.tid s)
  let s := (s.mapDev (fun d => { d with blocks := d.blocks.filter (fun b => b.2 != t.who) })).mapCore (fun c => { c with out := true })
  retarget (s.at_ / 8) (threadEnded t.nest t.ord (fun i => { i with lost := true }) s)

/-- A copy discarded while suspended: its slot is free and its object counts a failure (22 R465). -/
def discardCopy (c : CopyCmd) (s : State) : State :=
  let s := s.mapDev (fun d => { d with copies := d.copies.filter (fun x => x.id != c.id) })
  agentUpdate c.ctx (.block c.cluster 0) (c.record.extractLsb' (8 * 0x28) 64) (· + 0x100000001) s

/-- The suspended copies among some copies discarded. -/
def discardCopies (p : CopyCmd → Bool) (s : State) : State :=
  (s.dev.copies.filter (fun c => c.suspended && p c)).foldl (fun s c => discardCopy c s) s

/-- `kend` retires: FLAGS, its suspended copies, its bindings and traps, the core, the iteration (05 R135, 14 R342). -/
def kendRetire (s : State) : State :=
  let t := s.core.th
  let s := s.release
  let s := discardCopies (fun c => c.nest == t.nest && c.ord == t.ord && c.tid == t.tid) s
  let s := nestOr t.nest (t.csr.fflags.setWidth 64) s
  let s := freeCore (s.tick 1)
  threadEnded t.nest t.ord id s

/-- Set-aside threads dropped without counting, with the contexts in their save areas (14 R342, R343). -/
def dropAside (p : Thread → Bool) (s : State) : State :=
  (s.dev.walker.aside.filter (fun a => p a.th)).foldl (fun s a =>
    threadEnded a.th.nest a.th.ord (fun i => { i with lost := true })
      (dropJoins a.th <| dropNotes a.th.nest a.th.ord a.th.tid (s.mapDev (fun d => { d with
        blocks := d.blocks.filter (fun b => some b.1 != a.area)
        walker := { d.walker with aside := d.walker.aside.filter (· != a) } })))) s

/-- PREEMPT for every live thread of a kind. -/
def preemptAll (p : Thread → Bool) (s : State) : State :=
  s.knownCores.foldl (fun s n => if (s.coreAt n).lives && p (s.coreAt n).th then raisePreempt n false s else s) s

/-- Firmware ends the thread of the core whose turn it is after a fault, and with it the whole iteration; in an aborted nest
nothing counts (14 R342, R343). -/
def faultEnd (s : State) : State :=
  let t := s.core.th
  let ab := ((nestAt s t.nest).map (·.aborted)).getD true
  let out := s.core.out
  let s := freeCore s
  let mark := fun (i : Iter) => { i with faulted := i.faulted || !ab, lost := true }
  let s := mapNest t.nest (fun n => { n with iters := n.iters.map (fun i => if i.ord = t.ord then mark i else i) }) s
  let mate := fun (u : Thread) => u.nest == t.nest && u.ord == t.ord
  let s := preemptAll mate (dropAside mate s)
  if out then s else threadEnded t.nest t.ord id s

/-- The tile tasks of an aborted nest discarded (22 R465). -/
def discardTasks (seq : Nat) (s : State) : State :=
  (s.dev.tasks.filter (fun t => t.nest == seq)).foldl (fun s t =>
    s.mapDev (fun d => { d with
      tasks := d.tasks.filter (fun u => u.id != t.id)
      slots := d.slots.filter (fun p => p.2 != t.id)
      cur := d.cur.dropHolder (.task t.id) })) s

/-- A nest aborted: none of its iterations counts any more (14 R343). -/
def nestAbort (seq : Nat) (s : State) : State :=
  let s := mapNest seq (fun n => { n with aborted := true, iters := n.iters.map (fun i => { i with lost := true }) }) s
  let mine := fun (t : Thread) => t.nest == seq
  preemptAll mine (dropAside mine (discardCopies (fun c => c.nest == seq) (discardTasks seq s)))

/-- Whether an operation posted with JOIN by a nest's threads has not finished (14 R342). -/
def joinLeft (s : State) (seq : Nat) : Bool :=
  s.dev.tasks.any (fun t => t.nest == seq && t.record.getLsbD 11) || s.dev.copies.any (fun c => c.nest == seq && c.record.getLsbD 11)

/-- Whether a nest can receive DONE now. -/
def nestReady (s : State) (n : Nest) : Bool :=
  n.iters.isEmpty && (n.aborted || (n.eligible && decide (n.count ≤ n.nextOrd) && !joinLeft s n.seq))

/-- DONE, with ABORTED for an aborted nest (14 R342, R343). -/
def nestDone (seq : Nat) (s : State) : State :=
  match nestAt s seq with
  | some n => if nestReady s n then nestClose n (if n.aborted then 0x800 else 0) s else s
  | none => s

/-! ### Waits, features, gangs -/

/-- The walker reads the wait word of a waiting nest (14 R331). -/
def waitRead (seq : Nat) (s : State) : State :=
  match nestAt s seq with
  | none => s
  | some n =>
    if n.eligible then s
    else
      match agentRead n.ctx.alien .sqd (n.word 0x40) s with
      | (s, some v) => if (n.word 0x48).toNat ≤ v.toNat then becomeEligible seq s else s
      | (s, none) =>
        if n.badWait then s
        else mapNest seq (fun n => { n with badWait := true }) (s.mapDev (logError (n.fld 0x40 64) 8 5 none))

/-- Whether a core's thread of a nest has taken FEATURE (10 R287). -/
def tookFeature (c : Core) (seq : Nat) : Bool :=
  c.occupied && c.th.nest == seq && c.level != .user && c.sup.scause == 0x15

/-- FEATURE: the iteration ends, and it and all not yet dispatched go to another device of the gang, or the nest ends with
FAULTED where there is none; iterations that run go on (10 R287). -/
def featureEnd (seq : Nat) (s : State) : State :=
  match s.knownCores.find? (fun k => tookFeature (s.coreAt k) seq), nestAt s seq with
  | some k, some n =>
    let t := (s.coreAt k).th
    let handed := n.flag 12 && Config.peerHas s.free
    let s := mapNest seq (fun n => { n with nextOrd := n.count }) (if handed then s.draw else nestOr seq 0x400 s.draw)
    let s := s.onCore k freeCore
    let mate := fun (u : Thread) => u.nest == t.nest && u.ord == t.ord
    threadEnded t.nest t.ord (fun i => { i with lost := true }) (preemptAll mate (dropAside mate s))
  | _, _ => s

/-- GANGTO in core cycles: 100 µs (14 R346). -/
def gangTo : Nat := 175000

/-- An acknowledgement of a member arrives; one that comes before this device has accepted the nest is kept, a late one is
refused (14 R346, R348). -/
def gangAck (gid : BitVec 32) (f : BitVec 16) (s : State) : State :=
  match s.dev.walker.nests.find? (fun n => n.flag 12 && n.fld 0x68 32 == gid.toNat && !n.gangFormed && !n.gangLate
      && decide (s.dev.clk < n.postedAt + gangTo)) with
  | some n =>
    mapNest n.seq (fun n =>
      let acks := if n.acks.contains f then n.acks else n.acks ++ [f]
      { n with acks := acks, gangFormed := decide (n.fld 0x6C 16 ≤ acks.length) }) s
  | none =>
    if s.dev.walker.nests.any (fun n => n.flag 12 && n.fld 0x68 32 == gid.toNat) || s.dev.walker.early.contains (gid, f) then s
    else s.mapDev (fun d => { d with walker := { d.walker with early := d.walker.early ++ [(gid, f)] } })

/-- GANGTO passes for a nest whose gang has not formed (14 R347, R348). -/
def gangTimeout (seq : Nat) (s : State) : State :=
  match nestAt s seq with
  | some n =>
    if n.gangFormed ∨ n.gangLate ∨ s.dev.clk < n.postedAt + gangTo then s
    else if n.flag 13 then mapNest seq (fun n => { n with gangLate := true }) s
    else nestClose n 0x1800 s
  | none => s

end Sys2Proof.Machine
end

