-- ==== Sys2Proof/Machine/Sys.lean ====
section
/-! DEFINITION. The system functions (05 R131 to R138; 20 R430 to R432; 21 R451, R452; 14 R336) and their compressed spellings. -/

namespace Sys2Proof.Machine

/-- A function above the current level raises PRIV (05 R131). -/
def privileged (s : State) (body : State → State) : Result :=
  if s.core.level = .user then .next (trap .priv 0 s) else .next (body s)

/-- `svc` (05 R132). -/
def execSvc (_st : BitVec 2) (s : State) : Result := .next (trap .svc 0 s)

/-- `brk` (05 R132). -/
def execBrk (_st : BitVec 2) (s : State) : Result := .next (trap .brk 0 s)

/-- Whether TIMER is raised (20 R431). -/
def timerDue (s : State) : Bool := decide (s.core.sup.timecmp.toNat ≤ s.time.toNat)

/-- Whether an asynchronous cause is pending for the core (05 R134, 20 R431). -/
def asyncPending (s : State) : Bool :=
  s.core.preempt || s.core.hostint.isSome || s.core.gangfail.isSome || timerDue s

/-- `nap`: issue stops until an asynchronous cause is pending (05 R134). -/
def execNap (st : BitVec 2) (s : State) : Result :=
  privileged s (fun s =>
    if asyncPending s then retire st 4 (s.mapCore (fun c => { c with run := .live }))
    else (waiting s).mapCore (fun c => { c with run := .napping }))

/-- `iflush` (05 R136). -/
def execIflush (st : BitVec 2) (s : State) : Result :=
  privileged s (fun s =>
    let n := s.at_
    let s := s.mapDev (fun d => { d with tlbs := d.tlbs.filter (fun e => e.tlb != .itlb n) })
    retire st 4 (wantFork (s.mapCore (fun c => { c with icache := [], fills := [] }))))

/-! ### kend (05 R135) -/

/-- The lowest name of some entries. -/
def lowestName : List LockEntry → Option Word
  | [] => none
  | e :: l =>
    match lowestName l with
    | some n => some (if e.name.toNat < n.toNat then e.name else n)
    | none => some e.name

/-- Whether an operation that the running thread posted with JOIN has not finished; a copy suspended by `esusp` counts as
finished (05 R135, 22 R465). -/
def joinMine (s : State) : Bool :=
  let t := s.core.th
  s.dev.tasks.any (fun k => t.isThe k.nest k.ord k.tid && k.record.getLsbD 11) ||
    s.dev.copies.any (fun c => t.isThe c.nest c.ord c.tid && c.record.getLsbD 11 && !c.suspended)

/-- Whether `kend` can retire: the queue is empty, no unmasked user-level trap is to be delivered first, and its JOIN
operations have finished (05 R135). -/
def kendReady (s : State) : Bool :=
  s.core.th.viq.isEmpty && (s.core.level != .user || (utFirst s.core.th).isNone) && !joinMine s

/-- A handler whose thread a pre-emption has set aside leaves the core once its own vector work is done (14 R336; log 54). -/
def handlerLeaves (s : State) : State := if vecBusy s then waiting s else vacate ((s.tick 1).release)

/-- `kend` as every spelling of it acts; the thread of a handler that has been set aside does not end by it (log 54). -/
def kendAct (s : State) : State :=
  if s.core.out then handlerLeaves s
  else if s.csr.utActive then trap .illegal 0 s
  else
    match lowestName (myLocks s) with
    | some n => trap .lockmisuse n s
    | none => if kendReady s then kendRetire s else waiting s

/-- `kend` (05 R135). -/
def execKend (_st : BitVec 2) (s : State) : Result := .next (kendAct s)

/-- `c.kend` (02 Table 02-7). -/
def execCKend (s : State) : Result := .next (kendAct s)

/-- The all-zero parcel and its kin raise ILLEGAL (02 Table 02-7, R59). -/
def execCIllegal (_a _b : Reg) (s : State) : Result := .next (trap .illegal 0 s)

/-! ### uret (05 R137) and yield (05 R138) -/

/-- Where a handler returns to: UTPC, or the scalar address a trap taken at VCP left, where UTPC still names the head of the
queue (07 R199, log 31). -/
def uretPc (t : Thread) : Word :=
  match t.uvec, t.viq with
  | some next, e :: _ => if e.pc = t.csr.utpc then next else t.csr.utpc
  | _, _ => t.csr.utpc

/-- The return itself. A trap that UTVEC = 0 leaves undelivered stays queued and is met at the next boundary (14 R349, R350). -/
def uretAct (s : State) : State :=
  let s := settle s
  let s := s.mapTh (fun t => { t with bank := none, csr := { t.csr with utActive := false, instret := t.csr.instret + 1 } })
  match (if s.core.level = .user ∧ s.csr.utvec ≠ 0 then utFirst s.core.th else none) with
  | some u => deliverUser u.cause u.value s.csr.utpc (s.mapTh (fun t => unqueueUser u { t with din := t.din + 1 }))
  | none =>
    let s := wantFork (s.mapTh (fun t => { t with pc := uretPc t, held := 0, uvec := none, wait := none, din := t.din + 1 }))
    (s.tick 1).draw

/-- `uret`: a pending unmasked trap is delivered before the instruction at UTPC (05 R137). -/
def execUret (_st : BitVec 2) (s : State) : Result :=
  if !s.csr.utActive then .next (trap .illegal 0 s)
  else if s.csr.utpc.getLsbD 0 then .next (trap .align s.csr.utpc s)
  else .next (uretAct s)

/-- The thread set aside with its whole state, and its core free (14 R336; 22 R467, R469). -/
def setAside (s : State) : State :=
  let s := leaveWays (bankCycles (settle (catLoads s)))
  let t := { s.core.th with resv := none, vresv := [], wait := none }
  let a : Aside := ⟨t, s.core.level, s.at_, s.dev.clk, none, false⟩
  vacate (s.mapDev (fun d => { d with walker := { d.walker with aside := d.walker.aside ++ [a] } }))

/-- `yield` (05 R138); a handler whose thread a pre-emption has set aside only leaves the core (14 R336; log 54). -/
def execYield (st : BitVec 2) (s : State) : Result :=
  .next (if s.core.out then handlerLeaves s else setAside (retire st 4 (squashLead s)))

/-! ### tret (05 R133; 20 R432; 10 R264; 21 R451, R452) -/

/-- The words of the private image in a save area. -/
def readImage (s : State) (o : Nat) : List Word :=
  (List.range 128).map (fun k => BitVec.ofNat 64 (dspRead s (o + 0x400 + 8 * k) 8) ^^^ Config.imageMask k)

/-- k entries of the SRQ of a save area from one on: destination and value. -/
def srqSlice (s : State) (o start k : Nat) : List (Reg × Option Word) :=
  (List.range k).map (fun i =>
    let a := o + 0x1440 + 16 * (start + i)
    (BitVec.ofNat 5 (dspRead s (a + 8) 1), if dspRead s (a + 9) 1 % 2 = 1 then some (BitVec.ofNat 64 (dspRead s a 8)) else none))

/-- The mask registers of a save area. -/
def readMasks (s : State) (o : Nat) : Vector MBits 16 :=
  Vector.ofFn (fun (n : Fin 16) => BitVec.ofNat 1024 (dspRead s (o + 0x1800 + 128 * n.val) 128))

/-- Entry j of a save area with the fields of its instruction; `start` is how many SRQ entries precede its own. It is replayed
in the context and with the EMPTYSPIN that `tret` restores (log 22). -/
def readEntry (lvl : Level) (s : State) (o j start : Nat) (img : List Word) (d : VDesc) : VEntry :=
  let e := o + 0x840 + 16 * j
  let r := o + 0xC40 + 32 * j
  let b := dspRead s (e + 10) 1
  let q := srqSlice s o start (b / 2 % 4)
  let vt := dspRead s (r + 28) 4
  { desc := d
    pc := BitVec.ofNat 64 (dspRead s e 8)
    x1 := BitVec.ofNat 64 (dspRead s r 8)
    x2 := BitVec.ofNat 64 (dspRead s (r + 8) 8)
    x3 := BitVec.ofNat 64 (dspRead s (r + 16) 8)
    vl := BitVec.ofNat 15 (dspRead s (r + 24) 2)
    vtype := BitVec.ofNat 64 (vt % 2 ^ 23 + vt / 2 ^ 31 * 2 ^ 63)
    granted := BitVec.ofNat 8 (dspRead s (r + 26) 1)
    frm := BitVec.ofNat 3 (dspRead s (r + 27) 1)
    ftz := dspRead s (r + 27) 1 / 8 % 2 == 1
    progress := dspRead s (e + 8) 2
    abandoned := b % 2 == 1
    stage := .queued
    popped := imagePopped img j
    srq := q.map (·.1)
    results := q.filterMap (fun p => p.2.map (fun v => (p.1, v)))
    since := 0
    din := s.core.th.din + j
    ctx := { s.ctx with level := lvl }
    cat := false
    banked := imageBanked img j
    spin := (nthW img 22).setWidth 32
    otag := imageOtag img j }

/-- Level, SIE and pc restored (05 R133, 20 R432); a pending arrival stays only with its own instruction (07 R205). -/
def tretCommon (s : State) : State :=
  let l := Level.ofNum (s.core.sup.sstatus.toNat % 4)
  let s := catLoads (settle s)
  let s := s.mapSup (fun u => { u with
    sstatus := if u.sstatus.getLsbD 3 then u.sstatus ||| 4 else u.sstatus &&& ~~~4 })
  let s := s.mapCore (fun c => { c with level := l })
  let s := s.mapTh (fun t => { t with
    pc := s.core.sup.sepc
    resv := none
    vresv := []
    wait := none
    din := t.din + 1
    arrival := t.arrival.filter (fun a => a.2.2 == s.core.sup.sepc)
    csr := { t.csr with instret := t.csr.instret + 1 } })
  ((wantFork s).tick 1).draw

/-- The operations of the running thread that STOP held go on, when its first instruction after the resumption issues, at whatever
level; a handler that runs in its place is not its resumption (22 R464, R465). -/
def resumeOps (s : State) : State :=
  let t := s.core.th
  if s.core.out then s
  else s.mapDev (fun d => { d with
    tasks := d.tasks.map (fun k => if t.isThe k.nest k.ord k.tid && k.stopped
      then { k with stopped := false, state := if k.state = .suspended then .ready else k.state } else k)
    copies := d.copies.map (fun c => if t.isThe c.nest c.ord c.tid then { c with stopped := false } else c) })

/-- Whose context the block at an area is (21 R452): the device knows who wrote it; a block of nobody leaves the core's thread
who it is, but for one that has been set aside (00 R10, log 54). -/
def blockWho (o : Nat) (s : State) : Who :=
  match assocGet s.dev.blocks o with
  | some w => w
  | none => if s.core.out then Who.nobody else s.core.th.who

/-- The core's thread makes place for another that firmware switches in: it counts as set aside with the block it wrote, unless
a pre-emption has done so already or its iteration is to end (14 R336, R342, R343; log 54). -/
def switchOut (s : State) : State :=
  if s.core.out then s
  else if (nestAt s s.core.th.nest).isSome && iterLost s then lostHere s
  else
    match s.dev.blocks.find? (fun b => b.2 == s.core.th.who) with
    | some (o, _) => s.mapDev (fun d => { d with walker := { d.walker with
        aside := d.walker.aside ++ [⟨s.core.th, .user, s.at_, d.clk, some o, false⟩] } })
    | none => s

/-- A thread put back by `tret` after a set-aside runs on its MIN columns, and the cluster's targets are dealt anew
(14 R337, R338). -/
def switchedIn (o : Nat) (s : State) : State :=
  let s := s.mapDev (fun d => { d with walker := { d.walker with aside := d.walker.aside.filter (fun a => a.area != some o) } })
  let s := s.mapCore (fun c => { c with
    out := false
    th := { c.th with
      viq := c.th.viq.map (fun e => { e with granted := c.th.csr.leaseMin })
      csr := { c.th.csr with leaseGranted := c.th.csr.leaseMin } } })
  retarget (s.at_ / 8) s.acquire

/-- The context in a save area, with its queue, restored on the core (21 R451). -/
def restoreBlock (o : Nat) (q : List VEntry) (s : State) : State :=
  let img := readImage s o
  let ms := readMasks s o
  let who := blockWho o s
  let old := s.core.th
  let t := (imageApply img { old with m := ms, viq := q, cycleFrom := s.dev.clk }).withWho who
  let same := t.isThe old.nest old.ord old.tid
  let t := { t with
    floor := if t.floor.toNat < old.floor.toNat then old.floor else t.floor
    din := old.din + q.length
    viq := t.viq.mapIdx (fun j e => { e with
      ctx := { e.ctx with age := t.nest * 2 ^ 32 + t.ord, tid := t.tid }
      cat := catOn t.csr e.desc, progress := if j = t.csr.vqpos.toNat then t.csr.vstart.toNat else e.progress })
    csr := { t.csr with vstart := if q.isEmpty then t.csr.vstart else 0 } }
  let s := if same then s else switchOut s
  let s := enterWays (if same then old.csr.tbcfg else 0) (s.mapTh (fun _ => t))
  let s := s.mapCore (renameM (List.range 16))
  let s := if same && !s.core.out then s else switchedIn o s
  takeNotes (s.mapDev (fun d => { d with blocks := d.blocks.filter (fun b => b.1 != o) }))

noncomputable section

/-- What stands in the queue for an instruction that could not be fetched again: its turn raises the trap (02 R44, log 22). -/
def lostDesc (c : Cause) (v : Word) : VDesc :=
  ⟨.lost c v, 0, 0, .none, 0, 0, false, 0, none, none, 0⟩

/-- What the instruction at an address is when a replay fetches it again at the level returned to. -/
def refetch (lvl : Level) (pc : Word) (s : State) : State × VDesc :=
  match fetchAt lvl s pc with
  | (s, .failed c v) => (s, lostDesc c v)
  | (s, .reserved) => (s, lostDesc .illegal 0)
  | (s, .instr i) => (s, ((formOf i).map (·.desc)).getD (lostDesc .illegal 0))

/-- The entries of a save area from j on, each decoded again at the level returned to (log 22). -/
def readQueue (lvl : Level) (o : Nat) (img : List Word) : Nat → Nat → Nat → State → State × List VEntry
  | 0, _, _, s => (s, [])
  | n + 1, j, start, s =>
    let (s, d) := refetch lvl (BitVec.ofNat 64 (dspRead s (o + 0x840 + 16 * j) 8)) s
    let e := readEntry lvl s o j start img d
    let (s, es) := readQueue lvl o img n (j + 1) (start + e.srq.length) s
    (s, e :: es)

/-- A vector register as it stands in a save area, with the poison it was stored with (21 Table 21-2; 20 R449). -/
def storedReg (o r : Nat) (tag : Tag) (s : State) : VReg :=
  let at_ := o + 0x2000 + 2048 * r
  { bits := BitVec.ofNat _ (dspRead s at_ (s.vlen / 8))
    tag := tag
    poison := if s.dev.mem.poison.isEmpty && s.dev.down == 0 then 0
      else BitVec.ofNat _ (packEls 1 ((List.range (s.vlen / 16)).map (fun k => (anyPoisoned s.dev 2 (dspLoc + at_ + 2 * k)).toNat))) }

/-- The context of a thread that a pre-emption set aside as its handler stored it: g1 to g31, the pc, VL, VTYPE, VSTART, the tags
and the vector registers, all of them loaded and none written since (21 Table 21-2, R455, R456; log 54). -/
def storedThread (o : Nat) (t : Thread) (s : State) : Thread :=
  let w := fun (k : Nat) => BitVec.ofNat 64 (dspRead s (o + k) 8)
  let tag := fun (r : Nat) => Tag.ofCode ((w (if r < 16 then 0x120 else 0x128)).toNat / 2 ^ (4 * (r % 16)) % 16)
  { t with
    g := Vector.ofFn (fun (r : Fin 32) => if r.val = 0 then t.g[r] else w (8 * r.val))
    pc := w 0x100
    v := Vector.ofFn (fun (r : Fin 32) => storedReg o r.val ((tag r.val).getD t.v[r].tag) s)
    csr := { t.csr with
      vl := (w 0x108).setWidth 15, vtype := w 0x110, vstart := (w 0x118).setWidth 15, vdirty := 0, vloaded := BitVec.allOnes 32
      tbcfg := 0 } }

/-- A thread that a pre-emption set aside put back on a core from its save area: what a handler's switch-in, its loads on
FIRSTUSE and `tret` do there, at once (14 R337; 21 R454, R455; log 54). -/
def resumeSaved (a : Aside) (o core : Nat) (s : State) : State :=
  s.onCore core (fun s =>
    let area := BitVec.ofNat 64 (dspBase + o)
    let s := (s.mapCore (fun c => c.enter (storedThread o a.th s) a.level)).mapSup (fun u => { u with
      sctx := area, sscratch := area, fustat := 0, sepc := BitVec.ofNat 64 (dspRead s (o + 0x100) 8) })
    let (s, q) := readQueue a.level o (readImage s o) (min (dspRead s (o + 0x800) 1) 64) 0 0 s
    let s := restoreBlock o q (s.mapCore (fun c => { c with out := true }))
    dspWrite s (o + 0x138) 8 0)

/-- A set-aside thread put back on a core (14 R337). -/
def resumeAny (a : Aside) (core : Nat) (s : State) : State :=
  match a.area with
  | some o => resumeSaved a o core s
  | none => resume a core s

/-- `tret` at a level that may run it. -/
def tretAct (s : State) : State :=
  if s.core.level = .supervisor ∧ s.core.sup.sstatus.toNat % 4 = 2 then trap .priv 0 s
  else if !s.core.sup.sstatus.getLsbD 9 then tretCommon s
  else if vecBusy s then waiting s
  else
    match areaOf s.dev s.core.sup.sctx with
    | none => stopCore s
    | some o =>
      let lvl := Level.ofNum (s.core.sup.sstatus.toNat % 4)
      let (s, q) := readQueue lvl o (readImage s o) (min (dspRead s (o + 0x800) 1) 64) 0 0 s
      tretCommon (restoreBlock o q s)

/-- `tret` (05 R133). -/
def execTret (_st : BitVec 2) (s : State) : Result := privileged s tretAct

end

end Sys2Proof.Machine
end

