-- ==== Sys2Proof/Machine/LeadAct.lean ====
section
/-! DEFINITION. How the lead treats each scalar instruction (12 Table 12-1). -/

namespace Sys2Proof.Machine

/-- The rows of Table 12-1 for scalar instructions; `lacq` is a load that orders nothing (12 R309). -/
inductive LeadKind where
  | alu | load | acq | store | csr | config | transfer | jump | prefetch | nop | skip | sys
  deriving DecidableEq, Repr

/-- A scalar instruction as the lead sees it: its row, the registers it reads for a value or an address, its g destination,
its length, and its meaning. -/
structure LeadAct where
  kind : LeadKind
  srcs : List Reg
  dst : Option Reg
  len : Nat
  run : State → Result

noncomputable section

/-- The treatment of a scalar instruction; none for a vector instruction or an event. -/
def leadAct : Instr → Option LeadAct
  | .add d a b st => some ⟨.alu, [a, b], some d, 4, Sys2Proof.Machine.execAdd d a b st⟩
  | .sub d a b st => some ⟨.alu, [a, b], some d, 4, Sys2Proof.Machine.execSub d a b st⟩
  | .and d a b st => some ⟨.alu, [a, b], some d, 4, Sys2Proof.Machine.execAnd d a b st⟩
  | .or d a b st => some ⟨.alu, [a, b], some d, 4, Sys2Proof.Machine.execOr d a b st⟩
  | .xor d a b st => some ⟨.alu, [a, b], some d, 4, Sys2Proof.Machine.execXor d a b st⟩
  | .andn d a b st => some ⟨.alu, [a, b], some d, 4, Sys2Proof.Machine.execAndn d a b st⟩
  | .sll d a b st => some ⟨.alu, [a, b], some d, 4, Sys2Proof.Machine.execSll d a b st⟩
  | .srl d a b st => some ⟨.alu, [a, b], some d, 4, Sys2Proof.Machine.execSrl d a b st⟩
  | .sra d a b st => some ⟨.alu, [a, b], some d, 4, Sys2Proof.Machine.execSra d a b st⟩
  | .ror d a b st => some ⟨.alu, [a, b], some d, 4, Sys2Proof.Machine.execRor d a b st⟩
  | .slt d a b st => some ⟨.alu, [a, b], some d, 4, Sys2Proof.Machine.execSlt d a b st⟩
  | .sltn d a b st => some ⟨.alu, [a, b], some d, 4, Sys2Proof.Machine.execSltn d a b st⟩
  | .min d a b st => some ⟨.alu, [a, b], some d, 4, Sys2Proof.Machine.execMin d a b st⟩
  | .max d a b st => some ⟨.alu, [a, b], some d, 4, Sys2Proof.Machine.execMax d a b st⟩
  | .minn d a b st => some ⟨.alu, [a, b], some d, 4, Sys2Proof.Machine.execMinn d a b st⟩
  | .maxn d a b st => some ⟨.alu, [a, b], some d, 4, Sys2Proof.Machine.execMaxn d a b st⟩
  | .mul d a b st => some ⟨.alu, [a, b], some d, 4, Sys2Proof.Machine.execMul d a b st⟩
  | .mulh d a b st => some ⟨.alu, [a, b], some d, 4, Sys2Proof.Machine.execMulh d a b st⟩
  | .mulhn d a b st => some ⟨.alu, [a, b], some d, 4, Sys2Proof.Machine.execMulhn d a b st⟩
  | .div d a b st => some ⟨.alu, [a, b], some d, 4, Sys2Proof.Machine.execDiv d a b st⟩
  | .divn d a b st => some ⟨.alu, [a, b], some d, 4, Sys2Proof.Machine.execDivn d a b st⟩
  | .rem d a b st => some ⟨.alu, [a, b], some d, 4, Sys2Proof.Machine.execRem d a b st⟩
  | .remn d a b st => some ⟨.alu, [a, b], some d, 4, Sys2Proof.Machine.execRemn d a b st⟩
  | .clz d a st => some ⟨.alu, [a], some d, 4, Sys2Proof.Machine.execClz d a st⟩
  | .ctz d a st => some ⟨.alu, [a], some d, 4, Sys2Proof.Machine.execCtz d a st⟩
  | .cpop d a st => some ⟨.alu, [a], some d, 4, Sys2Proof.Machine.execCpop d a st⟩
  | .sextb d a st => some ⟨.alu, [a], some d, 4, Sys2Proof.Machine.execSextb d a st⟩
  | .sexth d a st => some ⟨.alu, [a], some d, 4, Sys2Proof.Machine.execSexth d a st⟩
  | .sextw d a st => some ⟨.alu, [a], some d, 4, Sys2Proof.Machine.execSextw d a st⟩
  | .bswap d a st => some ⟨.alu, [a], some d, 4, Sys2Proof.Machine.execBswap d a st⟩
  | .csel d a b st => some ⟨.alu, [a, b, d], some d, 4, Sys2Proof.Machine.execCsel d a b st⟩
  | .slli d a h st => some ⟨.alu, [a], some d, 4, Sys2Proof.Machine.execSlli d a h st⟩
  | .srli d a h st => some ⟨.alu, [a], some d, 4, Sys2Proof.Machine.execSrli d a h st⟩
  | .srai d a h st => some ⟨.alu, [a], some d, 4, Sys2Proof.Machine.execSrai d a h st⟩
  | .rori d a h st => some ⟨.alu, [a], some d, 4, Sys2Proof.Machine.execRori d a h st⟩
  | .addi d a i st => some ⟨.alu, [a], some d, 4, Sys2Proof.Machine.execAddi d a i st⟩
  | .andi d a i st => some ⟨.alu, [a], some d, 4, Sys2Proof.Machine.execAndi d a i st⟩
  | .ori d a i st => some ⟨.alu, [a], some d, 4, Sys2Proof.Machine.execOri d a i st⟩
  | .xori d a i st => some ⟨.alu, [a], some d, 4, Sys2Proof.Machine.execXori d a i st⟩
  | .slti d a i st => some ⟨.alu, [a], some d, 4, Sys2Proof.Machine.execSlti d a i st⟩
  | .sltin d a i st => some ⟨.alu, [a], some d, 4, Sys2Proof.Machine.execSltin d a i st⟩
  | .movhi d i st => some ⟨.alu, [], some d, 4, Sys2Proof.Machine.execMovhi d i st⟩
  | .pgrel d i st => some ⟨.alu, [], some d, 4, Sys2Proof.Machine.execPgrel d i st⟩
  | .jal d i st => some ⟨.jump, [], some d, 4, Sys2Proof.Machine.execJal d i st⟩
  | .jalr d a i st => some ⟨.transfer, [a], some d, 4, Sys2Proof.Machine.execJalr d a i st⟩
  | .beq a b i st => some ⟨.transfer, [a, b], none, 4, Sys2Proof.Machine.execBeq a b i st⟩
  | .bne a b i st => some ⟨.transfer, [a, b], none, 4, Sys2Proof.Machine.execBne a b i st⟩
  | .blt a b i st => some ⟨.transfer, [a, b], none, 4, Sys2Proof.Machine.execBlt a b i st⟩
  | .bge a b i st => some ⟨.transfer, [a, b], none, 4, Sys2Proof.Machine.execBge a b i st⟩
  | .bltn a b i st => some ⟨.transfer, [a, b], none, 4, Sys2Proof.Machine.execBltn a b i st⟩
  | .bgen a b i st => some ⟨.transfer, [a, b], none, 4, Sys2Proof.Machine.execBgen a b i st⟩
  | .sbnz a b i st => some ⟨.transfer, [a, b], some a, 4, Sys2Proof.Machine.execSbnz a b i st⟩
  | .ld8 d a o c st => some ⟨.load, [a], some d, 4, Sys2Proof.Machine.execLd8 d a o c st⟩
  | .ld8s d a o c st => some ⟨.load, [a], some d, 4, Sys2Proof.Machine.execLd8s d a o c st⟩
  | .ld16 d a o c st => some ⟨.load, [a], some d, 4, Sys2Proof.Machine.execLd16 d a o c st⟩
  | .ld16s d a o c st => some ⟨.load, [a], some d, 4, Sys2Proof.Machine.execLd16s d a o c st⟩
  | .ld32 d a o c st => some ⟨.load, [a], some d, 4, Sys2Proof.Machine.execLd32 d a o c st⟩
  | .ld32s d a o c st => some ⟨.load, [a], some d, 4, Sys2Proof.Machine.execLd32s d a o c st⟩
  | .ld64 d a o c st => some ⟨.load, [a], some d, 4, Sys2Proof.Machine.execLd64 d a o c st⟩
  | .st8 d a o c st => some ⟨.store, [a], none, 4, Sys2Proof.Machine.execSt8 d a o c st⟩
  | .st16 d a o c st => some ⟨.store, [a], none, 4, Sys2Proof.Machine.execSt16 d a o c st⟩
  | .st32 d a o c st => some ⟨.store, [a], none, 4, Sys2Proof.Machine.execSt32 d a o c st⟩
  | .st64 d a o c st => some ⟨.store, [a], none, 4, Sys2Proof.Machine.execSt64 d a o c st⟩
  | .fadd d a b p st => some ⟨.alu, [a, b], some d, 4, Sys2Proof.Machine.execFadd d a b p st⟩
  | .fsub d a b p st => some ⟨.alu, [a, b], some d, 4, Sys2Proof.Machine.execFsub d a b p st⟩
  | .fmul d a b p st => some ⟨.alu, [a, b], some d, 4, Sys2Proof.Machine.execFmul d a b p st⟩
  | .fdiv d a b p st => some ⟨.alu, [a, b], some d, 4, Sys2Proof.Machine.execFdiv d a b p st⟩
  | .fsqrt d a p st => some ⟨.alu, [a], some d, 4, Sys2Proof.Machine.execFsqrt d a p st⟩
  | .fmin d a b p st => some ⟨.alu, [a, b], some d, 4, Sys2Proof.Machine.execFmin d a b p st⟩
  | .fmax d a b p st => some ⟨.alu, [a, b], some d, 4, Sys2Proof.Machine.execFmax d a b p st⟩
  | .feq d a b p st => some ⟨.alu, [a, b], some d, 4, Sys2Proof.Machine.execFeq d a b p st⟩
  | .flt d a b p st => some ⟨.alu, [a, b], some d, 4, Sys2Proof.Machine.execFlt d a b p st⟩
  | .fle d a b p st => some ⟨.alu, [a, b], some d, 4, Sys2Proof.Machine.execFle d a b p st⟩
  | .fclass d a p st => some ⟨.alu, [a], some d, 4, Sys2Proof.Machine.execFclass d a p st⟩
  | .fsgnj d a b p st => some ⟨.alu, [a, b], some d, 4, Sys2Proof.Machine.execFsgnj d a b p st⟩
  | .fsgnjn d a b p st => some ⟨.alu, [a, b], some d, 4, Sys2Proof.Machine.execFsgnjn d a b p st⟩
  | .fsgnjx d a b p st => some ⟨.alu, [a, b], some d, 4, Sys2Proof.Machine.execFsgnjx d a b p st⟩
  | .fcvtfi d a p st => some ⟨.alu, [a], some d, 4, Sys2Proof.Machine.execFcvtfi d a p st⟩
  | .fcvtfn d a p st => some ⟨.alu, [a], some d, 4, Sys2Proof.Machine.execFcvtfn d a p st⟩
  | .fcvtif d a p st => some ⟨.alu, [a], some d, 4, Sys2Proof.Machine.execFcvtif d a p st⟩
  | .fcvtnf d a p st => some ⟨.alu, [a], some d, 4, Sys2Proof.Machine.execFcvtnf d a p st⟩
  | .fcvtff d a p st => some ⟨.alu, [a], some d, 4, Sys2Proof.Machine.execFcvtff d a p st⟩
  | .fcvtbf d a p st => some ⟨.alu, [a], some d, 4, Sys2Proof.Machine.execFcvtbf d a p st⟩
  | .fcvtfb d a p st => some ⟨.alu, [a], some d, 4, Sys2Proof.Machine.execFcvtfb d a p st⟩
  | .ffma32 d a b e v st => some ⟨.alu, [a, b, e], some d, 4, Sys2Proof.Machine.execFfma32 d a b e v st⟩
  | .ffma64 d a b e v st => some ⟨.alu, [a, b, e], some d, 4, Sys2Proof.Machine.execFfma64 d a b e v st⟩
  | .svc _ => some ⟨.sys, [], none, 4, Host.Outcome.next⟩
  | .tret _ => some ⟨.sys, [], none, 4, Host.Outcome.next⟩
  | .brk _ => some ⟨.sys, [], none, 4, Host.Outcome.next⟩
  | .nap _ => some ⟨.sys, [], none, 4, Host.Outcome.next⟩
  | .kend _ => some ⟨.sys, [], none, 4, Host.Outcome.next⟩
  | .iflush _ => some ⟨.sys, [], none, 4, Host.Outcome.next⟩
  | .uret _ => some ⟨.sys, [], none, 4, Host.Outcome.next⟩
  | .yield _ => some ⟨.sys, [], none, 4, Host.Outcome.next⟩
  | .iprf a o st => some ⟨.prefetch, [a], none, 4, Sys2Proof.Machine.execIprf a o st⟩
  | .dprf a o c st => some ⟨.prefetch, [a], none, 4, Sys2Proof.Machine.execDprf a o c st⟩
  | .fence _ _ _ => some ⟨.nop, [], none, 4, Host.Outcome.next⟩
  | .fenceacq _ _ _ => some ⟨.nop, [], none, 4, Host.Outcome.next⟩
  | .fencerel _ _ _ => some ⟨.nop, [], none, 4, Host.Outcome.next⟩
  | .vdrain _ _ _ => some ⟨.nop, [], none, 4, Host.Outcome.next⟩
  | .csrrw d a c st => some ⟨.csr, [a], some d, 4, Sys2Proof.Machine.execCsrrw d a c st⟩
  | .csrrs d a c st => some ⟨.csr, [a], some d, 4, Sys2Proof.Machine.execCsrrs d a c st⟩
  | .csrrc d a c st => some ⟨.csr, [a], some d, 4, Sys2Proof.Machine.execCsrrc d a c st⟩
  | .vsetl d a st => some ⟨.config, [a], some d, 4, Sys2Proof.Machine.execVsetl d a st⟩
  | .vsetvt d a st => some ⟨.config, [a], some d, 4, Sys2Proof.Machine.execVsetvt d a st⟩
  | .vsetdie a b st => some ⟨.config, [a, b], none, 4, Sys2Proof.Machine.execVsetdie a b st⟩
  | .ldi d imm st => some ⟨.alu, [], some d, 8, Sys2Proof.Machine.execLdi d imm st⟩
  | .ldih d imm st => some ⟨.alu, [d], some d, 8, Sys2Proof.Machine.execLdih d imm st⟩
  | .lacq d a imm w scope cls st => some ⟨.acq, [a], some d, 8, Sys2Proof.Machine.execLacq d a imm w scope cls st⟩
  | .srel b a imm w scope cls st => some ⟨.store, [a], none, 8, Sys2Proof.Machine.execSrel b a imm w scope cls st⟩
  | .aswap d _ _ _ _ _ _ _ _ => some ⟨.skip, [], some d, 8, Host.Outcome.next⟩
  | .aadd d _ _ _ _ _ _ _ _ => some ⟨.skip, [], some d, 8, Host.Outcome.next⟩
  | .aand d _ _ _ _ _ _ _ _ => some ⟨.skip, [], some d, 8, Host.Outcome.next⟩
  | .aor d _ _ _ _ _ _ _ _ => some ⟨.skip, [], some d, 8, Host.Outcome.next⟩
  | .axor d _ _ _ _ _ _ _ _ => some ⟨.skip, [], some d, 8, Host.Outcome.next⟩
  | .amin d _ _ _ _ _ _ _ _ => some ⟨.skip, [], some d, 8, Host.Outcome.next⟩
  | .amax d _ _ _ _ _ _ _ _ => some ⟨.skip, [], some d, 8, Host.Outcome.next⟩
  | .aminn d _ _ _ _ _ _ _ _ => some ⟨.skip, [], some d, 8, Host.Outcome.next⟩
  | .amaxn d _ _ _ _ _ _ _ _ => some ⟨.skip, [], some d, 8, Host.Outcome.next⟩
  | .ainc d _ _ _ _ _ _ _ _ => some ⟨.skip, [], some d, 8, Host.Outcome.next⟩
  | .adec d _ _ _ _ _ _ _ _ => some ⟨.skip, [], some d, 8, Host.Outcome.next⟩
  | .abadd d _ _ _ _ _ _ _ _ _ => some ⟨.skip, [], some d, 8, Host.Outcome.next⟩
  | .acas d _ _ _ _ _ _ _ _ _ => some ⟨.skip, [], some d, 8, Host.Outcome.next⟩
  | .ll d _ _ _ _ _ _ _ => some ⟨.skip, [], some d, 8, Host.Outcome.next⟩
  | .sc d _ _ _ _ _ _ _ _ => some ⟨.skip, [], some d, 8, Host.Outcome.next⟩
  | .fget d _ _ _ _ _ => some ⟨.skip, [], some d, 8, Host.Outcome.next⟩
  | .ftake d _ _ _ _ _ => some ⟨.skip, [], some d, 8, Host.Outcome.next⟩
  | .fgive _ _ _ _ _ _ => some ⟨.skip, [], none, 8, Host.Outcome.next⟩
  | .fempty _ _ _ _ _ => some ⟨.skip, [], none, 8, Host.Outcome.next⟩
  | .fpeek d _ _ _ _ _ => some ⟨.skip, [], some d, 8, Host.Outcome.next⟩
  | .esusp d _ _ _ => some ⟨.skip, [], some d, 8, Host.Outcome.next⟩
  | .eresm d _ _ _ => some ⟨.skip, [], some d, 8, Host.Outcome.next⟩
  | .estat d _ _ _ => some ⟨.skip, [], some d, 8, Host.Outcome.next⟩
  | .ewait d _ _ _ _ _ _ => some ⟨.skip, [], some d, 8, Host.Outcome.next⟩
  | .lkacq d _ _ _ _ => some ⟨.skip, [], some d, 8, Host.Outcome.next⟩
  | .lktry d _ _ _ _ => some ⟨.skip, [], some d, 8, Host.Outcome.next⟩
  | .lkrel d _ _ _ => some ⟨.skip, [], some d, 8, Host.Outcome.next⟩
  | .lkup d _ _ _ _ => some ⟨.skip, [], some d, 8, Host.Outcome.next⟩
  | .lkdown d _ _ _ _ => some ⟨.skip, [], some d, 8, Host.Outcome.next⟩
  | .lkrelall d _ _ => some ⟨.skip, [], some d, 8, Host.Outcome.next⟩
  | .lkstat d _ _ _ => some ⟨.skip, [], some d, 8, Host.Outcome.next⟩
  | .nlaunch d _ _ _ => some ⟨.skip, [], some d, 8, Host.Outcome.next⟩
  | .llease _ _ _ => some ⟨.skip, [], none, 8, Host.Outcome.next⟩
  | .bset _ _ _ => some ⟨.skip, [], none, 8, Host.Outcome.next⟩
  | .barr d _ _ _ => some ⟨.skip, [], some d, 8, Host.Outcome.next⟩
  | .bwait _ _ _ _ => some ⟨.skip, [], none, 8, Host.Outcome.next⟩
  | .bsync _ _ _ => some ⟨.skip, [], none, 8, Host.Outcome.next⟩
  | .tsread d _ _ => some ⟨.skip, [], some d, 8, Host.Outcome.next⟩
  | .cIllegal a b => some ⟨.alu, [], none, 2, Sys2Proof.Machine.execCIllegal a b⟩
  | .cAdd a b => some ⟨.alu, [a, b], some a, 2, Sys2Proof.Machine.execCAdd a b⟩
  | .cSub a b => some ⟨.alu, [a, b], some a, 2, Sys2Proof.Machine.execCSub a b⟩
  | .cMv a b => some ⟨.alu, [b], some a, 2, Sys2Proof.Machine.execCMv a b⟩
  | .cAddi a i => some ⟨.alu, [a], some a, 2, Sys2Proof.Machine.execCAddi a i⟩
  | .cLi a i => some ⟨.alu, [], some a, 2, Sys2Proof.Machine.execCLi a i⟩
  | .cSlli a h => some ⟨.alu, [a], some a, 2, Sys2Proof.Machine.execCSlli a h⟩
  | .cSrli a h => some ⟨.alu, [a], some a, 2, Sys2Proof.Machine.execCSrli a h⟩
  | .cAnd a b => some ⟨.alu, [a, b], some a, 2, Sys2Proof.Machine.execCAnd a b⟩
  | .cOr a b => some ⟨.alu, [a, b], some a, 2, Sys2Proof.Machine.execCOr a b⟩
  | .cXor a b => some ⟨.alu, [a, b], some a, 2, Sys2Proof.Machine.execCXor a b⟩
  | .cLd64 a b => some ⟨.load, [b], some a, 2, Sys2Proof.Machine.execCLd64 a b⟩
  | .cSt64 a b => some ⟨.store, [b], none, 2, Sys2Proof.Machine.execCSt64 a b⟩
  | .cBeqz a i => some ⟨.transfer, [a], none, 2, Sys2Proof.Machine.execCBeqz a i⟩
  | .cBnez a i => some ⟨.transfer, [a], none, 2, Sys2Proof.Machine.execCBnez a i⟩
  | .cJ i => some ⟨.jump, [], none, 2, Sys2Proof.Machine.execCJ i⟩
  | .cJr a => some ⟨.transfer, [a], none, 2, Sys2Proof.Machine.execCJr a⟩
  | .cVsetl a b => some ⟨.config, [b], some a, 2, Sys2Proof.Machine.execCVsetl a b⟩
  | .cKend => some ⟨.sys, [], none, 2, Host.Outcome.next⟩
  | .cNop => some ⟨.nop, [], none, 2, Host.Outcome.next⟩
  | _ => none

end

end Sys2Proof.Machine
end

