-- ==== Sys2Proof/Machine/Lead.lean ====
section
/-! DEFINITION. The lead stream: what it executes, its delay buffer, forks and divergence (12 R298 to R315). It changes
nothing of the trail but TLB entries, cached lines and REFORKS (R298, R309). -/

namespace Sys2Proof.Machine

/-! ### Known bits (R300) -/

/-- Whether a g register of the lead is known; g0 always is. -/
def Lead.knows (l : Lead) (r : Reg) : Bool := r == 0 || l.known.getLsbD r.toNat

/-- The known bit of a register set or cleared. -/
def Lead.mark (l : Lead) (r : Reg) (k : Bool) : Lead :=
  { l with known := if k then l.known ||| (1#32 <<< r.toNat) else l.known &&& ~~~(1#32 <<< r.toNat) }

/-- The lead passes an instruction of n bytes and stall field st without executing it (02 R55). -/
def Lead.skip (n st : Nat) (l : Lead) : Lead :=
  { l with
    pc := l.pc + BitVec.ofNat 64 n, din := l.din + 1, slot := l.slot + 1 + st
    lat := l.lat.filter (fun p => decide (l.slot + 1 + st < p.ready)) }

/-! ### Running an instruction on the lead's copies (R299) -/

/-- The state the lead computes in: its own registers and scoreboard, nothing queued, no stream (R299; 02 R58). -/
def leadView (s : State) (l : Lead) : State :=
  { s with
    core := { s.core with
      level := .user
      th := { s.core.th with
        g := l.g, m := l.m, v := l.v, pc := l.pc, slot := l.slot, lat := l.lat, viq := [], streams := [], resv := none
        vresv := [], wait := none, held := 0, arrival := none, csr := { l.csr with utActive := false } } }
    dev := { s.dev with tasks := [], copies := [] } }

/-- Whether a check failed that would trap in the trail (R310). -/
def leadTrapped (t : State) : Bool := t.core.level != .user || t.csr.utActive

/-- The state with poison marks taken off: the lead uses poisoned data as it stands (R310). -/
def unpoisoned (s : State) : State := s.mapDev (fun d => { d with mem := { d.mem with poison := [] } })

/-- An instruction run in the lead's state; where poison stops it, it is run again on the data as it stands. The first
state is the one whose translations count. -/
def leadRun (run : State → Result) (v : State) : State × State :=
  match run v with
  | .next t =>
    if leadTrapped t && t.core.sup.scause == 0x20 then
      match run (unpoisoned { v with dev := { v.dev with tlbs := t.dev.tlbs } }) with
      | .next u => (t, u)
      | _ => (t, t)
    else (t, t)
  | _ => (v, v)

/-- The TLB entries after the lead's translations: old entries stay as they are, a new one holds what its table entry
holds, so that the trail's first access still sets A and D (R309). -/
def leadTlbs (s t : State) : List TlbEntry :=
  t.dev.tlbs.map (fun e =>
    match s.dev.tlbs.find? (fun o => o.tlb == e.tlb && o.asid == e.asid && o.level == e.level && o.vpn == e.vpn && o.pteAt == e.pteAt) with
    | some o => o
    | none => { e with pte := pteRead s.dev e.pteAt })

/-- What a run of the lead leaves in the machine: its translations (R309). -/
def leadWarm (t : State) (s : State) : State := s.mapDev (fun d => { d with tlbs := leadTlbs s t })

/-- A state whose TLB entries are those of another with A and D set: an access through them writes no table entry. -/
def marked (t v : State) : State :=
  v.mapDev (fun d => { d with tlbs := t.dev.tlbs.map (fun e => { e with pte := e.pte ||| 0x60 }) })

/-- The lines that a read of the lead brings near, as a run that sets no A bit leaves them: an acknowledged atomic stays as open
to loss as it was, for the lead's read is no access (R298, R309, R311; 18 R404, R415). -/
def leadLines (u s : State) : State :=
  (s.mapDev (fun d => { d with fabric := { u.dev.fabric with acked := d.fabric.acked } })).mapCore
    (fun c => { c with tblines := u.core.tblines })

/-- The lead after an instruction that ran: its registers, pc, slots and DIN; its vector registers where it is a vector
instruction, VL and VTYPE where it may change them. -/
def Lead.take (t : State) (vec cfg : Bool) (l : Lead) : Lead :=
  let u := t.core.th
  { l with
    pc := u.pc, g := u.g, m := u.m, din := l.din + 1, slot := u.slot, lat := u.lat
    v := if vec then u.v.map (fun r => { r with poison := 0 }) else l.v
    csr := if cfg then { l.csr with vl := u.csr.vl, vtype := u.csr.vtype } else l.csr }

/-- The lead set down in its core. -/
def setLead (l : Lead) (s : State) : State := s.mapCore (fun c => { c with lead := some l })

/-- The lead stopped at an instruction that would trap (R310). -/
def leadStop (l : Lead) (s : State) : State := setLead { l with fstop := true } s

/-- The lead with the known bit of an optional destination. -/
def Lead.markOpt (l : Lead) (d : Option Reg) (k : Bool) : Lead :=
  match d with
  | some r => l.mark r k
  | none => l

/-- A g destination with the value that a synchronising CSR had at the last fork, where the instruction names one (R299). -/
def Lead.atFork (n : Nat) (d : Option Reg) (l : Lead) : Lead :=
  match d, assocGet l.syncs n with
  | some r, some x => if r = 0 then l else { l with g := l.g.setIfInBounds r.toNat x }
  | _, _ => l

/-- The CSR number of a CSR instruction. -/
def csrOf : Instr → Nat
  | .csrrw _ _ c _ => c.toNat
  | .csrrs _ _ c _ => c.toNat
  | .csrrc _ _ c _ => c.toNat
  | _ => 0

/-- The stall field of an instruction: bits 13:12 of a 32- or 64-bit word; a compressed instruction has none (02 R47, R55). -/
def stallOf (i : Instr) : Nat :=
  match encode i with
  | some bs => if 4 ≤ bs.length then (bs.getD 1 0).toNat / 16 % 4 else 0
  | none => 0

/-- A scalar instruction in the lead (R299, R300, Table 12-2; 05 R115). -/
def leadScalar (i : Instr) (a : LeadAct) (l : Lead) (s : State) : State :=
  let known := a.srcs.all l.knows
  let n := csrOf i
  let v := leadView s l
  let (w, t) := leadRun a.run v
  let pass := l.skip a.len (stallOf i)
  let lines := fun s => leadLines (leadRun a.run (marked w v)).1 s
  match a.kind with
  | .nop => setLead pass s
  | .skip => setLead (pass.markOpt a.dst false) s
  | .sys => if l.din < s.core.th.din then setLead pass s else s
  | .alu => if leadTrapped t then leadStop l s else setLead ((l.take t false false).markOpt a.dst known) s
  | .jump => setLead ((l.take t false false).markOpt a.dst true) s
  | .transfer =>
    if !known then setLead { l with syw := true, buf := l.buf ++ [.sy l.din l.pc] } s
    else if leadTrapped t then leadStop l s
    else
      let l2 := (l.take t false false).markOpt a.dst true
      setLead { l2 with buf := l.buf ++ [.br l.din (branchTaken i v) t.core.th.pc] } s
  | .load | .acq =>
    if !known then setLead (pass.markOpt a.dst false) s
    else if leadTrapped t then leadStop l (leadWarm w s)
    else setLead ((l.take t false false).markOpt a.dst true) (lines (leadWarm w s))
  | .store =>
    if !known then setLead pass s
    else if leadTrapped t then leadStop l (leadWarm w s)
    else setLead pass (leadWarm w s)
  | .prefetch =>
    if leadTrapped t then leadStop l s
    else if !known then setLead pass s
    else setLead pass ((lines (leadWarm w s)).mapCore (fun c => { c with icache := t.core.icache, fills := t.core.fills }))
  | .csr =>
    if leadTrapped t then leadStop l s
    else setLead (((l.take t false (n == 0x010 || n == 0x011)).atFork n a.dst).markOpt a.dst (n != 0x010 || l.vlKnown)) s
  | .config =>
    if leadTrapped t then leadStop l s
    else setLead ({ l.take t false true with vlKnown := l.vlKnown || a.dst.isSome }.markOpt a.dst known) s

/-! ### Vector instructions (R299, R304, R308, R310, R311) -/

/-- The rows of Table 12-1 for vector instructions. -/
inductive LeadVec where
  | dest | sources | always | skip | load | store | gl
  deriving DecidableEq, Repr

/-- The row of a vector operation. -/
def VOp.leadRow : VOp → LeadVec
  | .int _ | .merge | .mv | .perm _ | .scan | .setty _ => .dest
  | .ext => .sources
  | .red o => (match o with
    | .fsum | .fmin | .fmax => .skip
    | _ => .sources)
  | .icmp _ => .always
  | .mask o => (match o with
    | .pop | .first => .sources
    | .tov => .dest
    | _ => .always)
  | .load _ _ | .loadff _ | .ldq _ _ | .ldf16 | .ldseg _ _ => .load
  | .store _ _ _ | .stq _ _ | .stf16 | .stseg _ _ | .sc => .store
  | .gl => .gl
  | _ => .skip

/-- The addresses and lengths that element i accesses. -/
def VX.spans (x : VX) (i : Nat) : List (Word × Nat) :=
  match x.e.desc.op with
  | .load md z | .store md z _ => [(x.vaddr md z i, z)]
  | .loadff z => [(x.vaddr .unit z i, z)]
  | .gl => [(x.vaddr .index (x.wtag.width / 8) i, x.wtag.width / 8)]
  | .sc => [(x.vaddr .index (x.tagC.width / 8) i, x.tagC.width / 8)]
  | .ldq q8 g | .stq q8 g =>
    let a := x.qAddr q8 (qGroup g) (i / qGroup g)
    (List.range (qBytes q8 (qGroup g))).map (fun k => (a + BitVec.ofNat 64 k, 1))
  | .ldf16 | .stf16 => [(x.vaddr .unit 2 i, 2)]
  | .ldseg f w | .stseg f w => (List.range f).map (fun k => (x.segAddr f w i k, w))
  | _ => []

/-- The width at which a memory instruction's elements are placed. -/
def VX.spanWidth (x : VX) : Nat :=
  match x.e.desc.op with
  | .load _ z | .store _ z _ => 8 * z
  | .loadff z => 8 * z
  | .gl | .ldq _ _ | .ldf16 | .ldseg _ _ => x.wtag.width
  | _ => x.tagC.width

/-- The address part of a memory instruction: the places of its elements in order, each with the die of the element, and
whether one failed (R310). -/
def leadPlaces (x : VX) (acc : Acc) : List (Nat × Word × Nat) → State → State × List (Place × Nat) × Bool
  | [], s => (s, [], false)
  | (i, va, z) :: r, s =>
    match x.check s x.spanWidth acc va z i with
    | (s, .error _) => (s, [], true)
    | (s, .ok p) =>
      let (s, ps, bad) := leadPlaces x acc r s
      (s, (p, x.die x.spanWidth i) :: ps, bad)

/-- The accesses of an instruction's active elements. -/
def VX.accessList (x : VX) : List (Nat × Word × Nat) :=
  (x.actives x.spanWidth).flatMap (fun i => (x.spans i).map (fun p => (i, p.1, p.2)))

/-- Sixteen lines a GL entry. -/
def glEntries (din : Nat) : Nat → List Nat → List DEntry
  | 0, _ => []
  | n + 1, ls => if ls.isEmpty then [] else .gl din (ls.take 16) :: glEntries din n (ls.drop 16)

/-- Whether a line is present in a die slice, or on its way there (R304, R308). -/
def leadHas (s : State) (l : Lead) (line die : Nat) : Bool :=
  tbHas s.core.tblines die line || l.buf.any (fun e => match e with
    | .pf _ k d => k == line && d == die
    | _ => false)

/-- The entries of a load's lines: GL for an indexed one's first 64 lines, PF for each line that is requested for a die slice;
a line in a window or that meets poison is not (R304, R310, R311). -/
def leadEntries (s : State) (l : Lead) (indexed only : Bool) (ps : List (Place × Nat)) : List DEntry :=
  let ps := ps.filter (fun p => !isSram p.1.loc)
  let lines := (ps.map (fun p => p.1.loc / 128)).eraseDups
  let want := ((ps.map (fun p => (p.1.loc / 128, p.2))).eraseDups).filter (fun p =>
    !(only && (lines.take 64).contains p.1) && !leadHas s l p.1 p.2 && !anyPoisoned s.dev 128 (128 * p.1))
  (if indexed then glEntries l.din 4 lines else []) ++ want.map (fun p => .pf l.din p.1 p.2)

/-- Whether an instruction is an indexed load. -/
def VOp.indexed : VOp → Bool
  | .load .index _ => true
  | .gl => true
  | _ => false

/-- The request of a PF entry: its line comes to its home's L2 slice, or a helper's, and on to the die slice's cache ways, where
it has any (R309, R311). A line of a page with C = 0 takes a way too (log 59). -/
def leadRequest (e : DEntry) (s : State) : State :=
  match e with
  | .pf _ line die => leadLines (noteLoadOn die die ⟨128 * line, 0, true, none⟩ s) s
  | _ => s

/-- Entries that wait for room are written while there is some (R304, R305). -/
def leadPost : Nat → Lead → State → State
  | 0, l, s => setLead l s
  | n + 1, l, s =>
    match l.todo with
    | [] => setLead l s
    | e :: r =>
      if 256 ≤ l.buf.length then setLead l s
      else leadPost n { l with buf := l.buf ++ [e], todo := r } (leadRequest e s)

/-- A vector instruction run through the queue on the lead's copies: the lead uses no Catalogue (10 R281). -/
def leadVexec (n st : Nat) (f : VForm) (s : State) : Result :=
  match vexec n (BitVec.ofNat 2 st) f (s.mapCsr (fun c => { c with catctl := 0 })) with
  | .next t => .next (vecRun t)
  | r => r

/-- The access that the address part of a memory instruction is checked for (R310; 07 Table 07-9). -/
def VOp.leadAcc (o : VOp) : Acc :=
  match o, o.leadRow with
  | .gl, _ => .rw
  | .sc, _ => .rw
  | _, .store => .write
  | _, _ => .read

/-- What a vector instruction captures in the lead, as it reads its registers under R57. -/
def leadCaptured (n st : Nat) (f : VForm) (v : State) : VEntry :=
  match vexec n (BitVec.ofNat 2 st) f v with
  | .next t => (t.core.th.viq.getLast?).getD (captured v f.desc f.ports)
  | _ => captured v f.desc f.ports

/-- A vector instruction of n bytes and stall field st in the lead. It is run whole on the lead's copies, so that every check that
would trap in the trail stops it, and of a memory instruction the elements below the failing one are translated and requested;
what a store writes or a load outside the slice brings is dropped (R299, R310). -/
def leadVector (n st : Nat) (f : VForm) (l : Lead) (s : State) : State :=
  let v := leadView s l
  let x : VX := { s := v, e := leadCaptured n st f v, start := 0 }
  let h := x.shape
  let rs := groupRegs (h.srcs ++ h.dst.toList)
  let inSlice := fun gs => (groupRegs gs).all (fun r => l.csr.kslice.getLsbD r)
  let named := s.core.th.streams.any (fun b => rs.contains b.reg.toNat) || rs.any (fun r => s.csr.vfemask.getLsbD r)
  let ports := f.ports.r1.toList ++ f.ports.r2.toList ++ f.ports.r3.toList
  let known := ports.all l.knows
  let res := fun (l : Lead) k => f.ports.res.foldl (fun l r => l.mark r k) l
  let ff := match f.desc.op with
    | .loadff _ => true
    | _ => false
  let pass := { res (l.skip n st) false with vlKnown := l.vlKnown && !ff }
  let (_, t) := leadRun (leadVexec n st f) v
  let exec_ := fun (_ : Unit) =>
    if leadTrapped t then leadStop l s
    else if t.core.th.viq.isEmpty then setLead (res (l.take t true false) known) s
    else setLead pass s
  let row := f.desc.op.leadRow
  let memory := fun (keep : Bool) =>
    if !known then setLead pass s
    else
      let stop := if leadTrapped t then t.csr.vstart.toNat else x.vl
      let (w, ps, _) := leadPlaces x f.desc.op.leadAcc (x.accessList.filter (fun p => decide (p.1 < stop))) v
      let es := if row = .store then [] else leadEntries s l f.desc.op.indexed (row == .gl) ps
      let s := leadWarm w s
      if leadTrapped t then leadPost 4096 { l with fstop := true, todo := es } s
      else
        let l2 := if keep && t.core.th.viq.isEmpty then { l.take t true false with vlKnown := pass.vlKnown } else pass
        leadPost 4096 { l2 with todo := es } s
  if named then setLead pass s
  else
    match row with
    | .skip => setLead pass s
    | .dest => if inSlice h.dst.toList then exec_ () else setLead pass s
    | .sources => if inSlice h.srcs then exec_ () else setLead pass s
    | .always => exec_ ()
    | .load => memory (inSlice h.dst.toList)
    | .store => memory false
    | .gl => memory false

/-! ### The lead's own step (R305) -/

/-- Whether the lead waits (R305). -/
def leadWaits (s : State) (l : Lead) : Bool :=
  decide (256 ≤ l.buf.length) || !l.todo.isEmpty || decide (s.core.th.din + s.csr.pairctl.toNat / 2 ^ 16 ≤ l.din)
    || l.syw || l.fstop || l.copyUntil.isSome

/-- A fork's copy done: the lead runs from now on (R302). -/
def leadCopied (s : State) : State :=
  match s.core.lead with
  | some l =>
    match l.copyUntil with
    | some t => if l.owed.isEmpty && decide (t ≤ s.dev.clk) then setLead { l with copyUntil := none } s else s
    | none => s
  | none => s

noncomputable section

/-- A scalar instruction's row, for the words of XV too that are one. -/
def leadRow : Instr → Option LeadAct
  | .xv f6 op ds vm dm cls me mi b a d st =>
    let run := execXv f6 op ds vm dm cls me mi b a d st
    if op.toNat = 0x26 && decide (f6.toNat ≤ 1) then some ⟨.config, [a], some d, 8, run⟩
    else if op.toNat = 0x26 && f6.toNat == 3 then some ⟨.config, [a, b], none, 8, run⟩
    else none
  | i => leadAct i

/-- The lead's next instruction (R299, R305, R309, R310), once its entries have found room. Its fetch fills the instruction
cache and sets no A bit. -/
def leadIssue (s : State) : State :=
  match s.core.lead with
  | none => s
  | some l =>
    if s.core.level != .user || s.csr.utActive || s.core.refork then s
    else if !l.todo.isEmpty then leadPost 4096 l s
    else if leadWaits s l then s
    else
      let (v, got) := fetchAt .user (leadView s l) l.pc
      let s := (leadWarm v s).mapCore (fun c => { c with icache := v.core.icache, fills := v.core.fills })
      match got with
      | .failed _ _ => leadStop l s
      | .reserved => leadStop l s
      | .instr i =>
        match leadRow i with
        | some a => leadScalar i a l s
        | none =>
          match formOf i with
          | some f => leadVector ((encode i).getD []).length (stallOf i) f l s
          | none => leadStop l s

end

/-! ### Forks and divergence (R302, R303, R307) -/

/-- Whether an instruction of the queue still has to write a register that a fork copies: the results of one that a handler issued
go to the handler's own registers (R302; 01 R16). -/
def leadOwes (s : State) (e : VEntry) : Bool :=
  let h := (VX.behind s e).shape
  (!e.banked && !e.srq.isEmpty) || h.mdst.isSome || (groupRegs h.dst.toList).any (fun r => s.csr.kslice.getLsbD r) ||
    (match e.desc.op with
     | .loadff _ => true
     | _ => false)

/-- A fork at the trail's next instruction where one is wanted: the lead copies the trail's state as it stands, and waits for the
older vector instructions that still write a copied register. REFORKS counts it where it follows a divergence or a stop
(R302, R303). -/
def leadFork (s : State) : State :=
  if s.core.refork && s.core.level == .user && !s.csr.utActive && s.core.run == .live then
    let s := s.mapCsr (fun c => { c with reforks := if s.core.diverged then c.reforks + 1 else c.reforks })
    let t := s.core.th
    let k := t.csr.kslice
    let late := (t.lat.map (fun p => p.ready - t.slot)).foldl max 0
    let l : Lead :=
      { pc := t.pc, g := t.g, known := 0xFFFFFFFF, m := t.m
        v := Vector.ofFn (fun (r : Fin 32) => if k.getLsbD r.val then { t.v[r] with poison := 0 } else s.core.leadV[r])
        csr := { t.csr with vstart := 0 }, syncs := syncCsrs.map (fun n => (n, csrRead s n))
        vlKnown := true, din := t.din, slot := 0, lat := [], buf := [], todo := []
        owed := (t.viq.filter (leadOwes s)).map (fun e => (e.din, if e.banked then [] else e.srq))
        copyUntil := some (s.dev.clk + late + leadCopyTime k), fstop := false, syw := false }
    s.mapCore (fun c => { c with lead := some l, refork := false, diverged := false })
  else s

/-- The lead and its entries discarded and a fork wanted; REFORKS counts it once it is made, so not where a trap comes first
(R303, R307, R314). -/
def leadRestart (counted : Bool) (s : State) : State :=
  (wantFork s).mapCore (fun c => { c with diverged := counted })

/-- The BR entries of a buffer, oldest first. -/
def brOf (b : List DEntry) : List (Nat × Bool × Word) :=
  b.filterMap (fun e => match e with
    | .br d k p => some (d, k, p)
    | _ => none)

/-- What the trail's issue of the instruction with DIN d does to the delay buffer, where it is a transfer that is taken or not
(R304 to R307). -/
def leadReconcile (d : Nat) (taken : Bool) (s : State) : State :=
  match s.core.lead with
  | none => s
  | some l =>
    match brOf l.buf with
    | (k, tk, p) :: _ =>
      if k < d ∨ (k = d ∧ (tk ≠ taken ∨ p ≠ s.core.th.pc)) then leadRestart true s
      else if k = d then
        setLead { l with buf := l.buf.filter (fun e => match e with
          | .br j _ _ => j != d
          | _ => true) } s
      else s
    | [] =>
      if l.buf.any (fun e => match e with
        | .sy k _ => decide (k ≤ d)
        | _ => false) then leadRestart false s
      else s

/-- The lead wanted anew where the trail has passed, without a trap, the instruction the lead stopped at: a scalar one has issued, a
vector one has left the queue (R303, R310). -/
def leadPassed (s : State) : State :=
  match s.core.lead with
  | none => s
  | some l =>
    if l.fstop && decide (l.din < s.core.th.din) && !s.core.th.viq.any (fun e => decide (e.din ≤ l.din)) then leadRestart true s
    else s

end Sys2Proof.Machine
end

