-- ==== Sys2Proof/Machine/Async.lean ====
section
/-! DEFINITION. What reaches a thread at an instruction boundary: asynchronous causes, pre-emption, user-level traps, wake-up,
and the return of its scratch ways (14 R349, R350; 20 R431; 22 R461 to R467; 05 R134). -/

namespace Sys2Proof.Machine

/-- Whether asynchronous causes are enabled (20 R431). -/
def asyncEnabled (s : State) : Bool :=
  s.core.run == .live && (s.core.level == .user || (s.core.level == .supervisor && s.core.sup.sstatus.getLsbD 2))

/-- The engine operations of the running thread held by STOP (22 R464, R465). -/
def stopOps (s : State) : State :=
  let t := s.core.th
  s.mapDev (fun d => { d with
    tasks := d.tasks.map (fun k => if t.isThe k.nest k.ord k.tid then { k with stopped := true } else k)
    copies := d.copies.map (fun c => if t.isThe c.nest c.ord c.tid then { c with stopped := true } else c) })

/-- Whether an entry is a fault-first load. -/
def VEntry.isLoadff (e : VEntry) : Bool :=
  match e.desc.op with
  | .loadff _ => true
  | _ => false

/-- Entry j, an unresolved fault-first load, is abandoned: the scalar unit issues it again. Where a user-level handler came in
after it, that is once the handler has ended, so `uret` goes back to it (22 R462; 14 R349; 07 R199). -/
def abandonLoadff (j : Nat) (e : VEntry) (t : Thread) : Thread :=
  let u := { t with viq := t.viq.eraseIdx j, held := if j < t.held then t.held - 1 else t.held }
  if e.banked = t.csr.utActive then { u with pc := e.pc, din := e.din }
  else if t.uvec.isSome then { u with uvec := some e.pc }
  else { u with csr := { u.csr with utpc := e.pc } }

/-- Unresolved fault-first loads are abandoned: at most one of the thread and one of its handler stand in the queue
(07 R182; 22 R462). -/
def dropLoadff (s : State) : State :=
  let one := fun (t : Thread) =>
    match (t.viq.zipIdx).find? (fun p => p.1.isLoadff) with
    | some (e, j) => abandonLoadff j e t
    | none => t
  s.mapTh (fun t => one (one t))

/-- The thread that a pre-emption has just saved is set aside: it is live no more, its columns return, and it waits in its place
in the walker's list (14 R336); one whose iteration is to end ends here (14 R342, R343). One whose context was not saved, or that no
nest has dispatched, stays for firmware to end (log 54). -/
def preemptAside (l : Level) (s : State) : State :=
  match areaOf s.dev s.core.sup.sctx with
  | some o =>
    if (nestAt s s.core.th.nest).isNone then s
    else if iterLost s then lostHere s
    else
      let s := s.mapDev (fun d => { d with walker := { d.walker with
        aside := d.walker.aside ++ [⟨s.core.th, l, s.at_, d.clk, some o, false⟩] } })
      retarget (s.at_ / 8) (s.mapCore (fun c => { c with out := true }))
  | none => s

/-- PREEMPT taken: the vector unit stops, the block is written, the thread is set aside, REQ is cleared, STOP holds the engine
operations; the entry is an acquire of every class (10 R263; 14 R336; 18 Table 18-1; 22 R461, R462). -/
def preemptTake (s : State) : State :=
  let s := vecStop (dropLoadff s)
  let lvl := s.core.level
  let stop := s.core.preemptStop
  let head := s.core.th.viq.head?
  let vcp := match head with
    | some e => e.pc
    | none => if s.core.th.vecSeen then s.core.th.pc else 0
  let s := s.mapCsr (fun c => { c with
    vcp := vcp, vqpos := 0, vfpc := vcp
    vstart := match head with
      | some e => if e.progress != 0 then BitVec.ofNat 15 e.progress else c.vstart
      | none => c.vstart })
  let s := (enterSup .preempt 0 s.core.th.pc true s).mapTh (fun t => { t with held := 0, uvec := none, resv := none, vresv := [] })
  let s := dspWrite (s.mapCore (fun c => { c with preempt := false, preemptStop := false })) (reqOff + 8 * s.at_) 8 0
  (catLoads (preemptAside lvl (if stop then stopOps s else s))).acquire

/-- The first pending asynchronous cause taken (20 R431). -/
def asyncTake (s : State) : State :=
  let pc := s.core.th.pc
  match s.core.gangfail with
  | some g => (enterSup .gangfail (g.setWidth 64) pc false s).mapCore (fun c => { c with gangfail := none })
  | none =>
    if s.core.preempt then preemptTake s
    else
      match s.core.hostint with
      | some v => (enterSup .hostint v pc false s).mapCore (fun c => { c with hostint := none })
      | none => if timerDue s then enterSup .timer 0 pc false s else s

/-- Whether an asynchronous cause would be taken now. -/
def asyncNow (s : State) : Bool := asyncEnabled s && asyncPending s

/-- An asynchronous cause taken where one is pending and enabled. -/
def asyncTrap (s : State) : State := if asyncNow s then asyncTake s else s

/-- The user-level trap that is delivered at this boundary, if any (14 R349, R350). -/
def userTrapNow (s : State) : Option UTrap :=
  if s.core.run == .live && s.core.level == .user && !s.csr.utActive then utFirst s.core.th else none

/-- A pending user-level trap delivered; the instruction that waits is abandoned. One that UTVEC = 0 leaves undelivered stays
queued (14 R349, R350). -/
def userTrap (s : State) : State :=
  match userTrapNow s with
  | some u => deliverUser u.cause u.value s.core.th.pc (if s.csr.utvec = 0 then s else s.mapTh (unqueueUser u))
  | none => s

/-- The saved way w of the running thread, on whichever core it was saved (22 R466). -/
def savedMine (w : Nat) (s : State) : Option SavedWay :=
  s.dev.savedWays.find? (fun p => p.owner.is (wayMe s) && p.way == w)

/-- A way of the running thread that was saved comes back (22 R466). -/
def wayBack (w : Nat) (s : State) : State :=
  match savedMine w s with
  | some p =>
    if s.csr.tbcfg.getLsbD w then
      s.mapDev (fun d =>
        let d := restoreWay s.at_ p d
        { d with savedWays := d.savedWays.filter (fun q => !(q.owner.is p.owner && q.way == w)) })
    else s
  | none => s

/-- The first saved way of the running thread that it claims. -/
def wayDue (s : State) : Option Nat :=
  (s.dev.savedWays.find? (fun p => p.owner.is (wayMe s) && s.csr.tbcfg.getLsbD p.way)).map (·.way)

end Sys2Proof.Machine
end

