-- ==== Sys2Proof/Machine/Fut.lean ====
section
/-! DEFINITION. Future words (07 R196 to R198, Table 07-6). -/

namespace Sys2Proof.Machine

/-- The place of a future word, or why it has none: only the CSM and DSP windows hold them (07 R196). -/
def futPlace (s : State) (acc : Acc) (va : Word) : State × Except Cause Place :=
  if va.toNat % 8 != 0 then (s, .error .align)
  else
    match windowOf va.toNat with
    | some 2 => translate s s.ctx s.dtlb acc va
    | some 3 => translate s s.ctx s.dtlb acc va
    | _ => (s, .error .perm)

/-- The waiters of a location. -/
def futWaiters (s : State) (loc : Nat) : List FutWait := s.dev.futq.filter (·.loc == loc)

/-- Whether a word's bit lets an operation of a kind proceed (07 Table 07-6). -/
def futBit (s : State) (loc : Nat) (k : FutKind) : Bool := wordFull s.dev.mem loc != (k == .give)

/-- Whether a waiter of another core comes first at a word: one the last change of the bit lets complete, or one that the bit
no longer holds up (07 R197). -/
def futOwed (s : State) (core loc : Nat) : Bool :=
  (futWaiters s loc).any (fun w => w.core != core && (w.owed || futBit s loc w.kind))

/-- Whether an operation of a core may proceed on a word: where the bit lets it, in order of arrival, but after those that the
last change of the bit lets complete; of these every `fget` comes before the `ftake` (07 R197). -/
def futReady (s : State) (core loc : Nat) (k : FutKind) : Bool :=
  let ws := futWaiters s loc
  futBit s loc k &&
    match ws.find? (·.core == core) with
    | none => !futOwed s core loc
    | some w =>
      if w.owed then k != .take || !ws.any (fun o => o.core != core && o.owed && o.kind == .get)
      else !ws.any (·.owed) && !(ws.takeWhile (fun o => o.core != core)).any (fun o => futBit s loc o.kind)

/-- The running core as a waiter of a word. -/
def futEnqueue (loc : Nat) (k : FutKind) (s : State) : State :=
  if s.dev.futq.any (fun w => w.core == s.at_) then s
  else s.mapDev (fun d => { d with futq := d.futq ++ [⟨s.at_, loc, k, false, none⟩] })

/-- The running core no longer a waiter. -/
def futLeave (s : State) : State :=
  s.mapDev (fun d => { d with futq := d.futq.filter (fun w => w.core != s.at_) })

/-- The first waiter of a kind at a word. -/
def firstFut (loc : Nat) (k : FutKind) (q : List FutWait) : Option FutWait := q.find? (fun w => w.loc == loc && w.kind == k)

/-- The waiters after a word's bit has changed: when it fills, every `fget` and the longest-waiting `ftake` complete; when it
empties, the longest-waiting `fgive` (07 R197). One that a fill lets complete returns the word as it stands then, v
(18 R417). -/
def futTurn (loc : Nat) (f : Bool) (v : Nat) (q : List FutWait) : List FutWait :=
  q.map (fun w =>
    if w.loc != loc then w
    else
      let owed := if f then w.kind == .get || firstFut loc .take q == some w else firstFut loc .give q == some w
      { w with owed := owed, got := if f && owed then some v else none })

/-- The full/empty bit of a location set; a change gives those that waited for it their turn (07 R197). -/
def markFull (loc : Nat) (f : Bool) (s : State) : State :=
  s.mapDev (fun d => { d with
    mem := setFull d.mem loc f
    futq := if wordFull d.mem loc == f then d.futq else futTurn loc f (readNat d.mem 0 8 loc) d.futq })

/-- The word as it stood when it was filled, for a member of the running core that has waited for that (18 R417). -/
def futGot (s : State) (loc : Nat) : Option Nat := ((futWaiters s loc).find? (·.core == s.at_)).bind (·.got)

/-- A member that waits: `act` is its effect at the word's place once it may proceed, `val` what UTVAL holds (07 R197, R198). -/
def futMember (k : FutKind) (acc : Acc) (val : Word → Word) (rs : List Reg) (a : Reg) (imm : BitVec 11)
    (act : Option Nat → Word → Place → State → State) (s : State) : Result :=
  .next (orderedAccess rs s (fun s =>
    let va := opVal s 0 a + offUnits imm 8
    match futPlace s acc va with
    | (s, .error c) => trap c va s
    | (s, .ok p) =>
      if rmwQueued s p.loc 8 then stall s
      else if futReady s s.at_ p.loc k then act (futGot s p.loc) va p (futLeave s)
      else waitOrEmpty (val va) (futEnqueue p.loc k s)))

/-- The effect of a member that reads the word, or returns what it held when it was filled: `empties` says that it takes it
(07 Table 07-6). -/
def futRead (empties : Bool) (d : Reg) (scope : BitVec 2) (cls : BitVec 4) (st : BitVec 2) (got : Option Nat) (va : Word)
    (p : Place) (s : State) : State :=
  if anyPoisoned s.dev 8 p.loc then trap .poison va s
  else
    let v := got.getD (readNat s.dev.mem p.key 8 p.loc)
    let s := if empties then markFull p.loc false s else s
    retire st 8 (writeLat (acquireOf p.loc scope (clsMask cls) (s.mapDev (passAcked (p.loc / 128)))) d .interlocked (BitVec.ofNat 64 v))

/-- `fget` (07 Table 07-6). -/
def execFget (d a : Reg) (imm : BitVec 11) (scope : BitVec 2) (cls : BitVec 4) (st : BitVec 2) (s : State) : Result :=
  futMember .get .read id [a] a imm (futRead false d scope cls st) s

/-- `ftake` (07 Table 07-6). -/
def execFtake (d a : Reg) (imm : BitVec 11) (scope : BitVec 2) (cls : BitVec 4) (st : BitVec 2) (s : State) : Result :=
  futMember .take .read id [a] a imm (futRead true d scope cls st) s

/-- `fgive`: a release (07 Table 07-1, Table 07-6). -/
def execFgive (b a : Reg) (imm : BitVec 11) (_scope : BitVec 2) (_cls : BitVec 4) (st : BitVec 2) (s : State) : Result :=
  futMember .give .write (· + 1) [a, b] a imm (fun _ va p s =>
    let v := opVal s 1 b
    retire st 8 (markFull p.loc true (catWrite va 8 (storeLoc s.release p.key p.loc 8 v.toNat false)))) s

/-- A member that never waits: it acts as a plain access, after the waiters that have their turn (07 R177, R197). -/
def futNow (acc : Acc) (cls : BitVec 4) (a : Reg) (imm : BitVec 11) (act : Place → State → State) (s : State) : Result :=
  .next (plainAccess cls [a] s (fun s =>
    let va := opVal s 0 a + offUnits imm 8
    match futPlace s acc va with
    | (s, .error c) => trap c va s
    | (s, .ok p) => if futOwed s s.at_ p.loc || rmwQueued s p.loc 8 then stall s else act p s))

/-- `fempty` (07 Table 07-6). -/
def execFempty (a : Reg) (imm : BitVec 11) (_scope : BitVec 2) (cls : BitVec 4) (st : BitVec 2) (s : State) : Result :=
  futNow .write cls a imm (fun p s => retire st 8 (markFull p.loc false s)) s

/-- `fpeek` (07 Table 07-6). -/
def execFpeek (d a : Reg) (imm : BitVec 11) (_scope : BitVec 2) (cls : BitVec 4) (st : BitVec 2) (s : State) : Result :=
  futNow .read cls a imm (fun p s =>
    retire st 8 (writeLat s d .interlocked (boolW (wordFull s.dev.mem p.loc)))) s

end Sys2Proof.Machine
end

