-- ==== Sys2Proof/Machine/Engine.lean ====
section
/-! DEFINITION. Tile engines and copy engines (16 R361 to R370; 08 R212 to R222, R472; 14 R340, R341; 22 R464, R465). -/

namespace Sys2Proof.Machine

/-! ### Accesses of engines (08 Table 08-10) -/

/-- The failure code of a cause. -/
def failCode : Cause → Nat
  | .perm => 6
  | _ => 5

/-- n bytes at an address for an engine: the place, or a failure code; poison fails a read. -/
def engPlace (ctx : Ctx) (id : TlbId) (acc : Acc) (va : Word) (n : Nat) (s : State) : State × Except Nat Place :=
  match translate s ctx id acc va with
  | (s, .error c) => (s, .error (failCode c))
  | (s, .ok p) =>
    if acc != .write && anyPoisoned s.dev n p.loc then (s.mapDev (logUnmapped p.loc), .error 7) else (s, .ok p)

/-- Places of k pieces of n bytes each, one after the other. -/
def engPlaces (ctx : Ctx) (id : TlbId) (acc : Acc) (n : Nat) : Nat → Word → State → State × Except Nat (List Place)
  | 0, _, s => (s, .ok [])
  | k + 1, va, s =>
    match engPlace ctx id acc va n s with
    | (s, .error c) => (s, .error c)
    | (s, .ok p) =>
      match engPlaces ctx id acc n k (va + BitVec.ofNat 64 n) s with
      | (s, .error c) => (s, .error c)
      | (s, .ok ps) => (s, .ok (p :: ps))

/-- The bytes at some places of n bytes as one number, with the A bits set. -/
def engBytes (n : Nat) (ps : List Place) (s : State) : State × Nat :=
  ps.foldr (fun p (acc : State × Nat) =>
    ((setAD p acc.1).mapDev (readLine (homeDie p.loc) p.loc), readNat s.dev.mem p.key n p.loc + 2 ^ (8 * n) * acc.2)) (s, 0)

/-- A number written over places of n bytes. -/
def engWrite (n : Nat) : List Place → Nat → State → State
  | [], _, s => s
  | p :: ps, v, s => engWrite n ps (v / 2 ^ (8 * n)) (storeBy none (setAD p s) p.key p.loc n (v % 2 ^ (8 * n)) false)

/-- k pieces of n bytes read from an address on. -/
def engRead (ctx : Ctx) (id : TlbId) (n k : Nat) (va : Word) (s : State) : State × Except Nat Nat :=
  match engPlaces ctx id .read n k va s with
  | (s, .error c) => (s, .error c)
  | (s, .ok ps) =>
    let (s, v) := engBytes n ps s
    (s, .ok v)

/-! ### Tile tasks -/

/-- The TLB of the engine a task runs on. -/
def TileTask.tlb (t : TileTask) : TlbId := .block t.cluster t.engine

/-- A word of a task's record. -/
def TileTask.word (t : TileTask) (off : Nat) : Word := t.record.extractLsb' (8 * off) 64

/-- A planar header read and checked: refused under R105, or of the wrong role (08 R472). -/
def readHdr (t : TileTask) (off role : Nat) (s : State) : State × Except Nat PlanarHdr :=
  match engRead t.ctx t.tlb 128 2 (t.word off) s with
  | (s, .error c) => (s, .error c)
  | (s, .ok v) =>
    match hdrOf (bytesOf 256 v) with
    | none => (s, .error 1)
    | some h => if h.role = role then (s, .ok h) else (s, .error 2)

/-- Both headers of an MMA, with every check made at its start (08 R472 steps 1 to 3). -/
def readHdrs (t : TileTask) (s : State) : State × Except Nat (PlanarHdr × PlanarHdr) :=
  match readHdr t 0x10 0 s with
  | (s, .error c) => (s, .error c)
  | (s, .ok a) =>
    match readHdr t 0x18 1 s with
    | (s, .error c) => (s, .error c)
    | (s, .ok b) =>
      if a.k ≠ t.fld 2 16 ∨ b.k ≠ t.fld 2 16 then (s, .error 3)
      else if a.p < t.fld 4 8 ∨ b.p < t.fld 5 8 then (s, .error 4)
      else (s, .ok (a, b))

/-- The planes read of a block of precision p (08 R213). -/
def planesRead (q p : Nat) : Nat := if q = 0 then p else q

/-- The vectors of one slice of one plane: 64 numbers of 256 bits (04 R106). -/
def readPlane (t : TileTask) (base : Word) (k plane slice : Nat) : Nat → State → State × Except Nat (List Nat)
  | 0, s => (s, .ok [])
  | n + 1, s =>
    let o := 256 + plane * 8 * (256 * k) + (63 - n) * (32 * k) + 32 * slice
    match engRead t.ctx t.tlb 32 1 (base + BitVec.ofNat 64 o) s with
    | (s, .error c) => (s, .error c)
    | (s, .ok v) =>
      match readPlane t base k plane slice n s with
      | (s, .error c) => (s, .error c)
      | (s, .ok vs) => (s, .ok (v :: vs))

/-- The top q of p planes of one slice, least significant first. -/
def readPlanes (t : TileTask) (base : Word) (k slice p : Nat) : Nat → State → State × Except Nat (List (List Nat))
  | 0, s => (s, .ok [])
  | q + 1, s =>
    match readPlane t base k (p - (q + 1)) slice 64 s with
    | (s, .error c) => (s, .error c)
    | (s, .ok v) =>
      match readPlanes t base k slice p q s with
      | (s, .error c) => (s, .error c)
      | (s, .ok vs) => (s, .ok (v :: vs))

/-- The weight of plane i of q (16 R364). -/
def planeWeight (q i : Nat) : Int := if i + 1 = q then -(2 ^ i) else 2 ^ i

/-- The ones of a number of n bits. -/
def onesIn : Nat → Nat → Nat
  | 0, _ => 0
  | n + 1, v => v % 2 + onesIn n (v / 2)

/-- The sum a cell delivers for one slice (16 R364). -/
def cellSum (as bs : List (List Nat)) (r c : Nat) : Int :=
  (as.zipIdx).foldl (fun acc a =>
    (bs.zipIdx).foldl (fun acc b =>
      acc + planeWeight as.length a.2 * planeWeight bs.length b.2 *
        (onesIn 256 (a.1.getD r 0 &&& b.1.getD c 0) : Nat)) acc) 0

/-- One slice applied to every row (16 R365, R366). -/
def applySlice (a b : PlanarHdr) (as bs : List (List Nat)) (tile : List TileRow) : List TileRow :=
  tile.mapIdx (fun r row =>
    let ea := a.e.getD r 0 + ((a.p - as.length : Nat) : Int)
    let ps := (List.range 64).map (fun c => cellSum as bs r c)
    let xs := (List.range 64).map (fun c => ea + b.e.getD c 0 + ((b.p - bs.length : Nat) : Int))
    let r := rowStep row ps xs
    if a.nanv || b.nanv then { r with flags := r.flags ||| tNANV } else r)

/-- What a task still does with its tile C: EXPORT reads it, ZERO writes it, MMA reads it at its start only. -/
def TileTask.accC (t : TileTask) : Acc :=
  if t.op = 5 then .read else if t.op = 3 ∨ (t.op = 0 ∧ t.slice ≠ 0) then .write else .rw

/-- k chunks of a task's tile checked for what the task does with them. -/
def checkC (t : TileTask) (k : Nat) (s : State) : State × Except Nat Unit :=
  match engPlaces t.ctx t.tlb t.accC 128 k (t.word 0x20) s with
  | (s, .error c) => (s, .error c)
  | (s, .ok _) => (s, .ok ())

/-- The tile in memory that a task works on, as rows. -/
def readTile (t : TileTask) (s : State) : State × Except Nat (List TileRow) :=
  match engRead t.ctx t.tlb 128 tileChunks (t.word 0x20) s with
  | (s, .error c) => (s, .error c)
  | (s, .ok v) => (s, .ok (rowsOf v))

/-- The tile written, all of it or nothing (08 R222). -/
def writeTile (t : TileTask) (rows : List TileRow) (s : State) : State × Except Nat Unit :=
  match engPlaces t.ctx t.tlb .write 128 tileChunks (t.word 0x20) s with
  | (s, .error c) => (s, .error c)
  | (s, .ok ps) => (engWrite 128 ps (imageOf rows) s, .ok ())

/-! ### Choosing a task (14 R340, 16 R368) -/

/-- Whether a token condition holds (14 R340). -/
def tokenReady (s : State) (t : TileTask) : Bool :=
  let w := t.fld 7 8
  w == 0xFF || decide (t.fld 0xA 16 ≤ (((s.cluster t.cluster).tokens)[w % 64]'(Nat.mod_lt _ (by decide))).toNat)

/-- The request of a task for its lock. -/
def TileTask.lockReq (t : TileTask) : LockReq :=
  ⟨.task t.id, t.age, t.tid, t.word 0x28, Mode.ofNum (t.fld 6 8), false, t.fld 1 8 % 2 == 1⟩

/-- A waiting task whose token condition holds becomes READY, or QUEUED with its request (16 Table 16-2). -/
def taskToken (id : Nat) (s : State) : State :=
  match taskAt s id with
  | none => s
  | some t =>
    if t.state = .waiting ∧ tokenReady s t then
      if t.fld 6 8 = 0 then mapTask id (fun t => { t with state := .ready }) s
      else
        let s := mapTask id (fun t => { t with state := .queued }) s
        if s.dev.cur.fits t.lockReq then woundFor t.lockReq (mapCur (·.enqueue t.lockReq) s)
        else woundFor t.lockReq (mapCur (·.starve t.lockReq) s)
    else s

/-- The request of a task that found no free entry, put into the queue once one is free (16 R379). -/
def taskEnqueue (id : Nat) (s : State) : State :=
  match taskAt s id with
  | some t =>
    if t.state = .queued ∧ !s.dev.cur.queue.any (fun r => r.holder == .task id) ∧ s.dev.cur.fits t.lockReq then
      woundFor t.lockReq (mapCur (·.enqueue t.lockReq) s)
    else s
  | none => s

/-- Whether a REP MMA-INC task may be issued: every older one of its name has been (16 R368). -/
def repReady (s : State) (t : TileTask) : Bool :=
  !t.repInc || s.dev.tasks.all (fun u =>
    !(u.repInc && u.word 0x28 == t.word 0x28 && u.olderThan t) || u.state == .running || u.state == .finishing)

/-- The oldest task of a cluster that can be issued. -/
def oldestReady (s : State) (c : Nat) : Option TileTask :=
  (s.dev.tasks.filter (fun t => t.cluster == c && t.state == .ready && !t.stopped && repReady s t)).foldl (fun o t =>
    match o with
    | some u => if t.olderThan u then some t else o
    | none => some t) none

/-- Whether an engine of a cluster is free. -/
def engineFree (s : State) (c d : Nat) : Bool :=
  !s.dev.tasks.any (fun t => t.cluster == c && t.engine == d && (t.state == .running || t.state == .finishing))

/-- The die of a task's A block (14 R340). -/
def preferredDie (s : State) (t : TileTask) : Nat :=
  let a := t.word 0x10
  match windowOf a.toNat with
  | some _ => a.toNat / 256 % 8
  | none =>
    match translate s t.ctx t.tlb .read a with
    | (_, .ok p) => homeDie p.loc
    | (_, .error _) => 0

/-- The engine a task goes to. -/
def chooseEngine (s : State) (t : TileTask) : Option Nat :=
  let d := preferredDie s t
  if engineFree s t.cluster d then some d else (List.range 8).find? (engineFree s t.cluster)

/-! ### Finishing (08 R221, R222) -/

/-- The DSP offset of the save slot of an engine (22 R464). -/
def slotOff (cluster die : Nat) : Nat := 0x03800000 + 0x6200 * (8 * cluster + die)

/-- One more at a token counter, modulo 2^32 (14 R341). -/
def bumpToken (k : Nat) (c : Cluster) : Cluster :=
  let i : Fin 64 := ⟨k % 64, Nat.mod_lt _ (by decide)⟩
  { c with tokens := c.tokens.set i (c.tokens[i] + 1) }

/-- The end of a task in the order of R221: STOK, the lock, COBJ, ENGDONE; a failure fills the fault record (R222). -/
def taskEnd (t : TileTask) (code : Nat) (s : State) : State :=
  let s := if t.fld 1 8 / 2 % 2 = 1 then s.mapCluster t.cluster (bumpToken (t.fld 8 8)) else s
  let s := s.mapDev (fun d => { d with cur := d.cur.dropHolder (.task t.id), slots := d.slots.filter (fun p => p.2 != t.id) })
  let s := joinUpdate t.nest t.ord t.tid t.ctx t.tlb (t.word 0x30) (if code = 0 then 1 else 0x100000001) s
  let s := s.mapDev (fun d => { d with tasks := d.tasks.filter (fun u => u.id != t.id) })
  let s := if code = 0 then s else notify t.nest t.ord t.tid (.failure code 0 t.utag) s
  if t.fld 1 8 / 4 % 2 = 1 then notify t.nest t.ord t.tid (.trap ⟨.engdone, t.utag⟩) s else s

/-! ### Running -/

/-- The planes a task reads of an operand whose block has p (08 R213): used by its rate. -/
def TileTask.slicePlanes (t : TileTask) (a b : PlanarHdr) : Nat × Nat :=
  (planesRead (t.fld 4 8) a.p, planesRead (t.fld 5 8) b.p)

/-- The cycles of one K slice (16 R362). -/
def sliceCycles (pp : Nat × Nat) : Nat := max (pp.1 * pp.2) (2 * (pp.1 + pp.2))

/-- A task that starts its last 32 cycles (16 R362). -/
def toFinishing (clk : Nat) (t : TileTask) : TileTask := { t with state := .finishing, due := clk + 32 }


/-- Whether destinations in the scratch window of a poster have left its scratch ways (17 R386 step 3; 22 R464). -/
def destLost (s : State) (ctx : Ctx) (ds : List (Nat × Nat)) : Bool := scratchLost (ctxWays s ctx).2 ds

/-- The tile saved in a slot. -/
def slotTile (s : State) (o : Nat) : List TileRow := rowsOf (dspRead s o 24832)

/-- A task put on an engine: its start checks, up to the first row of C, and C or the private tile loaded (16 R361, R367;
08 R472; 22 R464). No rows stand for a C whose later rows cannot be read: slice 0 meets that failure after its planes. -/
def taskStart (t : TileTask) (s : State) : State :=
  let run := fun (h : Option (PlanarHdr × PlanarHdr)) (tile : List TileRow) (k : Nat) (s : State) =>
    (mapTask t.id (fun u => { u with
      state := .running, engine := t.engine, slice := k, tile := tile, hdrs := h
      due := s.dev.clk + 32 + ((h.filter (fun _ => decide (k < t.fld 2 16))).map (fun p => sliceCycles (t.slicePlanes p.1 p.2))).getD 0
      }) s).mapDev
      (fun d => { d with slots := d.slots.filter (fun p => p.2 != t.id) })
  match s.dev.slots.find? (fun p => p.2 == t.id) with
  | some (i, _) =>
    let o := 0x03800000 + 0x6200 * i
    if (s.dev.down ≠ 0 ∨ !s.dev.mem.poison.isEmpty) ∧ anyPoisoned s.dev 25090 (dspLoc + o) then taskEnd t 7 s
    else run t.hdrs (slotTile s o) (dspRead s (o + 0x6140) 2) s
  | none =>
    if t.op ≤ 1 then
      match readHdrs t s with
      | (s, .error c) => taskEnd t c s
      | (s, .ok h) =>
        match checkC t 3 s with
        | (s, .error c) => taskEnd t c s
        | (s, .ok ()) =>
          let (s, rows) := if t.op = 0 then readTile t s else (s, .ok (List.replicate 64 TileRow.zero))
          run (some h) (rows.toOption.getD []) 0 s
    else if t.op = 5 && destLost s t.ctx (exportDests t.record) then taskEnd t 5 s
    else
      match checkC t 3 s with
      | (s, .error c) => taskEnd t c s
      | (s, .ok ()) => run none [] 0 s

/-- The tile scheduler issues the oldest ready task of a cluster (14 R340). -/
def taskIssue (c : Nat) (s : State) : State :=
  match oldestReady s c with
  | none => s
  | some t =>
    match chooseEngine s t with
    | none => s
    | some d => taskStart { t with engine := d } s

/-- A running task of a poster stopped with STOP, at a slice boundary: it takes its engine's slot, or goes back to WAITING
(22 R464). -/
def taskSuspend (t : TileTask) (s : State) : State :=
  let i := 8 * t.cluster + t.engine
  if s.dev.slots.any (fun p => p.1 == i) then taskReturn t.id s
  else
    let o := slotOff t.cluster t.engine
    let s := dspWrite s o 24832 (imageOf t.tile)
    let s := dspWrite s (o + 0x6100) 64 t.record.toNat
    let s := dspWrite s (o + 0x6140) 2 t.slice
    let s := mapTask t.id (fun u => { u with state := .suspended, tile := [] }) (s.mapDev (fun d => { d with slots := d.slots ++ [(i, t.id)] }))
    repCascade t s

/-- The last slice is done: FINISHING, but a REP MMA-INC task waits for its merge turn (16 R368, Table 16-2). -/
def sliceDone (id : Nat) (s : State) : State :=
  mapTask id (fun t => if t.fld 2 16 ≤ t.slice then (if t.repInc then t else toFinishing s.dev.clk t) else t) s

/-- One K slice of a running MMA or MMA-INC task under the headers its start read: the planes of A, of B, then C are checked; the
next slice takes its cycles, none follow the last (16 R362, R365, 08 R472 step 5). -/
def mmaSlice (t : TileTask) (s : State) : State :=
  match t.hdrs with
  | none => s
  | some (a, b) =>
    let next := if t.slice + 1 < t.fld 2 16 then sliceCycles (t.slicePlanes a b) else 0
    match readPlanes t (t.word 0x10) a.k t.slice a.p (planesRead (t.fld 4 8) a.p) s with
    | (s, .error c) => taskEnd t c s
    | (s, .ok as) =>
      match readPlanes t (t.word 0x18) b.k t.slice b.p (planesRead (t.fld 5 8) b.p) s with
      | (s, .error c) => taskEnd t c s
      | (s, .ok bs) =>
        match checkC t tileChunks s with
        | (s, .error c) => taskEnd t c s
        | (s, .ok ()) =>
          let (s, rows) := if t.tile.isEmpty then readTile t s else (s, .ok t.tile)
          sliceDone t.id (mapTask t.id (fun u => { u with
            slice := u.slice + 1, tile := applySlice a b as bs (rows.toOption.getD []), due := s.dev.clk + next }) s)

/-- EXPORT: 64 rows of 64 elements, and the flags their conversion raises (08 R221, 04 R113). -/
def exportTile (t : TileTask) (rows : List TileRow) (s : State) : State × Except Nat Unit :=
  let f : Fmt := if t.fld 4 8 = 32 then Tag.fmt .f32 else Tag.fmt .bf16
  let w := if t.fld 4 8 = 32 then 32 else 16
  let els := rows.flatMap (fun r => (List.range 64).map (fun c => exportEl f r c))
  match engPlaces t.ctx t.tlb .write 128 (4096 * w / 1024) (t.word 0x10) s with
  | (s, .error c) => (s, .error c)
  | (s, .ok ps) =>
    let s := engWrite 128 ps (packEls w (els.map (·.1))) s
    (nestOr t.nest ((els.foldl (fun a e => a ||| e.2) (0 : Flags)).setWidth 64) s, .ok ())

/-- What a task writes: a multiplication while it finishes, another while it runs (16 R367, R370; 08 R221). -/
def taskWork (t : TileTask) (s : State) : State × Except Nat Unit :=
  if t.op = 0 then writeTile t t.tile s
  else if t.op = 3 then writeTile t (List.replicate 64 TileRow.zero) s
  else
    match readTile t s with
    | (s, .error c) => (s, .error c)
    | (s, .ok rows) =>
      if t.op = 1 then writeTile t (List.zipWith rowMerge rows t.tile) s
      else if t.op = 4 then writeTile t (rows.map (rowRenorm (t.fld 4 8))) s
      else exportTile t rows s

/-- A running task moves: one with slices ends the slice it is in and, where its poster was stopped, goes into its save slot at
that boundary; one without does its work, and fails or goes on to FINISHING with it (16 R370, Table 16-2; 22 R464). -/
def taskSlice (id : Nat) (s : State) : State :=
  match taskAt s id with
  | none => s
  | some t =>
    if t.state ≠ .running then s
    else if t.op ≤ 1 then
      let s := if t.slice < t.fld 2 16 then mmaSlice t s else s
      if t.stopped then
        match taskAt s id with
        | some u => if u.state = .running then taskSuspend u s else s
        | none => s
      else s
    else
      match taskWork t s with
      | (s, .ok ()) => mapTask id (toFinishing s.dev.clk) s
      | (s, .error c) => taskEnd t c s

/-- A REP MMA-INC task whose slices are done begins its merge once every older one of its name has finished (16 R367, R368). -/
def taskTurn (id : Nat) (s : State) : State :=
  match taskAt s id with
  | none => s
  | some t =>
    if t.state = .running ∧ t.repInc ∧ t.fld 2 16 ≤ t.slice ∧ !t.stopped ∧
        !s.dev.tasks.any (fun u => u.repInc && u.word 0x28 == t.word 0x28 && u.olderThan t) then
      mapTask id (toFinishing s.dev.clk) s
    else s

/-- A finishing task ends; a multiplication writes C back or merges first (16 Table 16-2). -/
def taskFinish (id : Nat) (s : State) : State :=
  match taskAt s id with
  | none => s
  | some t =>
    if t.state ≠ .finishing then s
    else
      match (if t.op ≤ 1 then taskWork t s else (s, .ok ())) with
      | (s, .ok ()) => taskEnd t 0 s
      | (s, .error c) => taskEnd t c s

/-! ### Copies (08 R215 to R217, R222, R472; 14 R341) -/

/-- A copy command of an id. -/
def copyAt (s : State) (id : Nat) : Option CopyCmd := s.dev.copies.find? (fun c => c.id == id)

/-- A copy command changed. -/
def mapCopy (id : Nat) (f : CopyCmd → CopyCmd) (s : State) : State :=
  s.mapDev (fun d => { d with copies := d.copies.map (fun c => if c.id = id then f c else c) })

/-- Rows, records or indices of a copy. -/
def CopyCmd.rows (c : CopyCmd) : Nat := recN c.record 4 32
/-- Bytes of a row or record. -/
def CopyCmd.rbytes (c : CopyCmd) : Nat := recN c.record 0x18 32
/-- The bytes a copy writes (08 R217). -/
def CopyCmd.total (c : CopyCmd) : Nat := c.rows * c.rbytes
/-- The source. -/
def CopyCmd.src (c : CopyCmd) : Word := recW c.record 8
/-- The destination. -/
def CopyCmd.dst (c : CopyCmd) : Word := recW c.record 0x10
/-- Copy engines reach memory through their cluster's block. -/
def CopyCmd.tlb (c : CopyCmd) : TlbId := .block c.cluster 0

/-- The field of a record that its byte o belongs to, and how many bytes of it precede: fields from f on. -/
def fieldOf (r : BitVec 512) : Nat → Nat → Nat → Nat × Nat
  | 0, f, o => (f, o)
  | n + 1, f, o => if o < fieldWidth r f then (f, o) else fieldOf r n (f + 1) (o - fieldWidth r f)

/-- The destination of byte k in command order (08 R216). -/
def CopyCmd.dstOf (c : CopyCmd) (k : Nat) : Word :=
  let j := k / c.rbytes
  let o := k % c.rbytes
  match recN c.record 0 8 with
  | 0 | 1 => c.dst + BitVec.ofNat 64 k
  | 3 =>
    let (f, w) := fieldOf c.record 8 0 o
    c.dst + BitVec.ofNat 64 (f * recN c.record 0x20 32 + j * fieldWidth c.record f + w)
  | _ => c.dst + BitVec.ofNat 64 (j * recN c.record 0x20 32 + o)

/-- n bytes a copy reads at an address, with their line: the stretch reads each line once (17 R390, R400). -/
def CopyCmd.peek (c : CopyCmd) (va : Word) (n : Nat) (s : State) : State × Except Nat (Nat × Nat) :=
  match engPlace c.ctx c.tlb .read va n s with
  | (s, .error e) => (s, .error e)
  | (s, .ok p) => (setAD p s, .ok (readNat s.dev.mem p.key n p.loc, p.loc / 128))

/-- The 64-bit entry j of a gather's list, with its line. -/
def CopyCmd.entry (c : CopyCmd) (j : Nat) (s : State) : State × Except Nat (Word × Nat) :=
  match c.peek (c.src + BitVec.ofNat 64 (8 * j)) 8 s with
  | (s, .error e) => (s, .error e)
  | (s, .ok v) => (s, .ok (BitVec.ofNat 64 v.1, v.2))

/-- The source of byte k, none for a fill, with the line of the list entry that names it (08 R216). -/
def CopyCmd.srcOf (c : CopyCmd) (k : Nat) (s : State) : State × Except Nat (Option Word × List Nat) :=
  let j := k / c.rbytes
  let o := k % c.rbytes
  match recN c.record 0 8 with
  | 0 => (s, .ok (some (c.src + BitVec.ofNat 64 k), []))
  | 1 => (s, .ok (none, []))
  | 4 =>
    match c.entry j s with
    | (s, .error e) => (s, .error e)
    | (s, .ok (a, line)) => (s, .ok (some (a + BitVec.ofNat 64 o), [line]))
  | _ => (s, .ok (some (c.src + BitVec.ofNat 64 (j * recN c.record 0x1C 32 + o)), []))

/-- Whether an address lies in the source range of a copy (08 R216). -/
def CopyCmd.inSource (c : CopyCmd) (va : Word) (s : State) : Bool :=
  let d := (va - c.src).toNat
  let sp := recN c.record 0x1C 32
  match recN c.record 0 8 with
  | 0 => decide (d < c.rbytes)
  | 1 => false
  | 4 => decide (d < 8 * c.rows) || (List.range c.rows).any (fun j =>
      match c.entry j s with
      | (_, .ok (a, _)) => decide ((va - a).toNat < c.rbytes)
      | (_, .error _) => false)
  | _ =>
    let j := if sp = 0 then 0 else min (d / sp) (c.rows - 1)
    decide (d - j * sp < c.rbytes)

/-- The bytes k to k + n − 1 of a copy read: their values with the lines they come from, or the first failure in the order 5, 6, 7
(08 R472). -/
def CopyCmd.gatherBytes (c : CopyCmd) : Nat → Nat → State → State × Except Nat (List (Nat × List Nat))
  | 0, _, s => (s, .ok [])
  | n + 1, k, s =>
    let (s, r) := match c.srcOf k s with
      | (s, .error e) => (s, Except.error e)
      | (s, .ok (none, l)) => (s, .ok (c.src.toNat / 2 ^ (8 * ((c.dstOf k).toNat % 8)) % 256, l))
      | (s, .ok (some a, l)) =>
        match c.peek a 1 s with
        | (s, .error e) => (s, .error e)
        | (s, .ok v) => (s, .ok (v.1, v.2 :: l))
    let (s, rest) := c.gatherBytes n (k + 1) s
    match r, rest with
    | .ok v, .ok vs => (s, .ok (v :: vs))
    | .error e, .ok _ => (s, .error e)
    | .ok _, .error e => (s, .error e)
    | .error e, .error f => (s, .error (min e f))

/-- The places bytes k to k + n − 1 go to. -/
def CopyCmd.places (c : CopyCmd) : Nat → Nat → State → State × Except Nat (List Place)
  | 0, _, s => (s, .ok [])
  | n + 1, k, s =>
    match engPlace c.ctx c.tlb .write (c.dstOf k) 1 s with
    | (s, r) =>
      match c.places n (k + 1) s with
      | (s, rest) =>
        match r, rest with
        | .ok p, .ok ps => (s, .ok (p :: ps))
        | .error e, .ok _ => (s, .error e)
        | .ok _, .error e => (s, .error e)
        | .error e, .error f => (s, .error (min e f))

/-- Whether the entry that byte k belongs to starts off its size: the pattern of a fill and an entry of a gather's list have 8 bytes,
a field of a segment split its width (08 R216). -/
def CopyCmd.offEntry (c : CopyCmd) (dst : Bool) (k : Nat) : Bool :=
  match recN c.record 0 8 with
  | 1 => dst && c.dst.toNat % 8 != 0
  | 3 =>
    let (f, w) := fieldOf c.record 8 0 (k % c.rbytes)
    let a := if dst then c.dstOf k
      else c.src + BitVec.ofNat 64 (k / c.rbytes * recN c.record 0x1C 32 + k % c.rbytes)
    (a - BitVec.ofNat 64 w).toNat % fieldWidth c.record f != 0
  | 4 => !dst && c.src.toNat % 8 != 0
  | _ => false

/-- Whether n bytes from byte k on meet check 8 of a copy. Whether a fill and a segment split have entries of more than a byte is
free: Table 08-10 names their entry size and gives none, while R216 says byte by byte what they write (log 35). -/
def CopyCmd.misfit (c : CopyCmd) (dst : Bool) (k n : Nat) : Bool :=
  (List.range n).any (fun i => c.offEntry dst (k + i)) && (recN c.record 0 8 == 4 || Config.wideEntry (recN c.record 0 8))

/-- A copy that fails: what it has buffered before its progress is written first (08 R222, 17 R400). -/
def copyFail (c : CopyCmd) (code : Nat) (s : State) : State :=
  mapCopy c.id (fun c => { c with failed := code, state := .finished }) (flushCopies (·.id == c.id) s)

/-- The bytes of a split's buffers that are written now, where a buffer has its 256 bytes, and those that stay (17 R400). -/
def fullBuffers (bs : List BufByte) : List BufByte × List BufByte :=
  let of := fun (f : Nat) => bs.filter (·.field == f)
  let n := fun (f : Nat) => (of f).length / 256 * 256
  ((List.range 8).flatMap (fun f => (of f).take (n f)), (List.range 8).flatMap (fun f => (of f).drop (n f)))

/-- The field of byte k of a copy in command order. -/
def CopyCmd.fieldNo (c : CopyCmd) (k : Nat) : Nat :=
  if recN c.record 0 8 = 3 then (fieldOf c.record 8 0 (k % c.rbytes)).1 else 0

/-- What a stretch of a copy writes: its bytes at once, a split's once their buffers are full or the command ends (17 R400). -/
def copyPut (c : CopyCmd) (stop : Nat) (new : List BufByte) (s : State) : State :=
  let (go, keep) := if recN c.record 0 8 = 3 ∧ stop ≠ c.total then fullBuffers (c.buf ++ new) else (c.buf ++ new, [])
  mapCopy c.id (fun c => { c with
    progress := stop, buf := keep, state := if stop = c.total then .finished else c.state, due := s.dev.clk + 1 }) (writeBuf go s)

/-- One stretch of a running copy, up to the next 256-byte boundary of its progress, with its checks in order (08 R217, R222,
R472). -/
def copyStretch (c : CopyCmd) (s : State) : State :=
  let stop := min c.total ((c.progress / 256 + 1) * 256)
  let n := stop - c.progress
  if c.misfit false c.progress n then copyFail c 8 s
  else
    match c.gatherBytes n c.progress s with
    | (s, .error e) => copyFail c e s
    | (s, .ok vs) =>
      if c.misfit true c.progress n then copyFail c 8 s
      else
      match c.places n c.progress s with
      | (s, .error e) => copyFail c e s
      | (s, .ok ps) =>
        let s := s.mapDev (fun d => ((vs.flatMap (·.2)).eraseDups).foldl (fun d line => readLine (lineHome line) (128 * line) d) d)
        let ended := (List.range n).map (fun i => c.inSource (c.dstOf (c.progress + i)) s)
        let new := ((ps.zip vs).zipIdx).map (fun q =>
          (⟨c.fieldNo (c.progress + q.2), q.1.1.key, q.1.1.loc,
            if ended.getD q.2 false then (Config.overlapByte s.free q.2).toNat else q.1.2.1⟩ : BufByte))
        let s := ps.foldl (fun s p => setAD p s) s
        copyPut c stop new (if ended.any id then s.draw else s)

/-- A running copy moves by one stretch; it stops at a boundary where its poster was stopped (22 R465). -/
def copyMove (id : Nat) (s : State) : State :=
  match copyAt s id with
  | none => s
  | some c =>
    if c.state ≠ .running then s
    else if c.stopped || c.suspended then mapCopy id (fun c => { c with state := .queued }) (flushCopies (·.id == id) s)
    else if c.progress < c.total then copyStretch c s
    else mapCopy id (fun c => { c with state := .finished }) s

/-- Whether ORDER holds a copy back (08 R215). -/
def orderHolds (s : State) (c : CopyCmd) : Bool :=
  c.record.getLsbD 8 && s.dev.copies.any (fun o =>
    o.nest == c.nest && o.ord == c.ord && o.tid == c.tid && decide (o.id < c.id))

/-- The copy a free engine of a cluster takes next (14 R341). -/
def nextCopy (s : State) (k : Nat) : Option CopyCmd :=
  let mine := s.dev.copies.filter (fun c => c.cluster == k)
  if 2 ≤ (mine.filter (fun c => c.state == .running)).length then none
  else (mine.filter (fun c => c.state == .queued && !c.suspended && !c.stopped && !orderHolds s c)).foldl (fun o c =>
    match o with
    | some u => if c.id < u.id then some c else o
    | none => some c) none

/-- A copy engine of a cluster takes a command, new or resumed; one with a destination in a way no longer scratch fails
(14 R341; 17 R386 step 3). -/
def copyStart (k : Nat) (s : State) : State :=
  match nextCopy s k with
  | some c =>
    if destLost s c.ctx (copyDests c.record) then copyFail c 5 s
    else mapCopy c.id (fun c => { c with state := .running, due := s.dev.clk + 1 }) s
  | none => s

/-- The end of a copy: COBJ, the slot, the fault record, ENGDONE (08 R221, R222). -/
def copyEnd (id : Nat) (s : State) : State :=
  match copyAt s id with
  | none => s
  | some c =>
    if c.state ≠ .finished then s
    else
      let s := joinUpdate c.nest c.ord c.tid c.ctx c.tlb (recW c.record 0x28) (if c.failed = 0 then 1 else 0x100000001) s
      let s := s.mapDev (fun d => { d with copies := d.copies.filter (fun x => x.id != id) })
      let s := if c.failed = 0 then s else notify c.nest c.ord c.tid (.failure c.failed 1 c.utag) s
      if c.record.getLsbD 10 then notify c.nest c.ord c.tid (.trap ⟨.engdone, c.utag⟩) s else s

end Sys2Proof.Machine
end

