-- ==== Sys2Proof/Machine/Host.lean ====
section
/-! DEFINITION. The host's accesses, the Registrar, and the parts of the device that no value depends on
(14 R326, R327; 17 R389 to R402; 20 R431, R441 to R447; 10 R285). -/

namespace Sys2Proof.Machine

/-! ### Mailboxes and the Registrar (14 R326, R327) -/

/-- The location of mailbox word w of all 512. -/
def mailboxLoc (w : Nat) : Nat := dspLoc + 0x03FFF000 + 8 * w

/-- A mailbox write that is lost: logged with its word, its value and TIME, and MSI-X entry 9 for an overflow. -/
def mailboxLost (overflow : Bool) (w : Nat) (v : Word) (d : Dev) : Dev :=
  { d with host := { d.host with
      mailboxOverflow := d.host.mailboxOverflow + 1
      mailboxLog := d.host.mailboxLog ++ [(w, v, BitVec.ofNat 64 (ticks d.clk))]
      msix := if overflow then d.host.msix ++ [9] else d.host.msix } }

/-- A host write to a mailbox word: `fgive` without waiting (14 R326). -/
def mailboxWrite (w size : Nat) (v : Word) (s : State) : State :=
  if size ≠ 8 then s.mapDev (mailboxLost false w v)
  else if wordFull s.dev.mem (mailboxLoc w) then s.mapDev (mailboxLost true w v)
  else markFull (mailboxLoc w) true (storeBy none s 0 (mailboxLoc w) 8 v.toNat false)

/-- A host 64-bit read of a mailbox word: the stored value when it is full, else 0 (14 R326). -/
def mailboxRead (w : Nat) (s : State) : State :=
  let v := if wordFull s.dev.mem (mailboxLoc w) then readNat s.dev.mem 0 8 (mailboxLoc w) else 0
  s.mapDev (fun d => { d with host := { d.host with lastRead := BitVec.ofNat 64 v } })

/-- The management BAR's mirrors of a core: GPASS, IFMISS and IPDROP (17 R393; 19 R420; 20 Table 20-6; log 55). -/
def mirrorOf (n : Nat) (s : State) : List Word :=
  let c := (s.coreAt n).th.csr
  [c.gpass, c.ifmiss, c.ipdrop]

/-- The context the Registrar and the host act in (14 R327, 20 R442). -/
def registrarCtx (s : State) : Ctx := ⟨s.dev.reg.ptbase, 0, .supervisor, alienCore, 0, 0⟩

/-- The 128-byte record at an address, none where R327 refuses the address. -/
def registrarRead (a : Word) (s : State) : State × Option (BitVec 1024) :=
  if a = 0 ∨ a.toNat % 128 ≠ 0 ∨ windowOf a.toNat = some 1 ∨ windowOf a.toNat = some 2 then (s, none)
  else
    match translate s (registrarCtx s) .sqd .read a with
    | (s, .error _) => (s, none)
    | (s, .ok p) =>
      if anyPoisoned s.dev 128 p.loc then (s.mapDev (logUnmapped p.loc), none)
      else ((setAD p s).mapDev (readLine sqdDie p.loc), some (BitVec.ofNat 1024 (readNat s.dev.mem p.key 128 p.loc)))

/-- A refused mailbox value, with DONE and ABORTED for a record that could be read (14 R327). -/
def refuse (a : Word) (r : Option (BitVec 1024)) (s : State) : State :=
  let s := s.mapDev (fun d => { d with host := { d.host with refusals := d.host.refusals ++ [a] } })
  match r with
  | some r => if recAddrOk (recF r 0x60 64) then agentUpdate (registrarCtx s) .sqd (BitVec.ofNat 64 (recF r 0x60 64)) (· ||| 0x900) s else s
  | none => s

/-- The record kept for a level. -/
def keptAt (s : State) (l : Nat) : Option (BitVec 1024) := (s.dev.reg.kept.toList.getD l none)

/-- The record kept for a level replaced. -/
def setKept (l : Nat) (r : Option (BitVec 1024)) (s : State) : State :=
  s.mapDev (fun d => { d with reg := { d.reg with kept := d.reg.kept.setIfInBounds l r } })

/-- Kept records posted again, from the highest level down (14 R327 step 1). -/
def retryKept (s : State) : State :=
  [7, 6, 5, 4, 3, 2, 1, 0].foldl (fun s l =>
    match keptAt s l with
    | some r => if nestRoom s (recF r 1 3) then setKept l none (nestAccept (registrarCtx s) r s) else s
    | none => s) s

/-- The word of a level the Registrar takes: the first full one after the last taken. -/
def fullWord (s : State) (l : Nat) : Option Nat :=
  let last := s.dev.reg.last.toList.getD l 63
  ((List.range 64).map (fun i => (last + 1 + i) % 64)).find? (fun w => wordFull s.dev.mem (mailboxLoc (64 * l + w)))

/-- The highest level with a full word and no kept record, with that word. -/
def nextMail (s : State) : Option (Nat × Nat) :=
  [7, 6, 5, 4, 3, 2, 1, 0].findSome? (fun l =>
    if (keptAt s l).isSome then none else (fullWord s l).map (fun w => (l, w)))

/-- A mailbox word taken, its record checked, and posted, kept or refused (14 R327 steps 3 to 5). -/
def takeMail (l w : Nat) (s : State) : State :=
  let loc := mailboxLoc (64 * l + w)
  let a := BitVec.ofNat 64 (readNat s.dev.mem 0 8 loc)
  let s := (markFull loc false s).mapDev (fun d => { d with reg := { d.reg with last := d.reg.last.setIfInBounds l w } })
  match registrarRead a s with
  | (s, none) => refuse a none s
  | (s, some r) =>
    if !recordOk r then refuse a (some r) s
    else if nestRoom s (recF r 1 3) then nestAccept (registrarCtx s) r s
    else setKept l (some r) s

/-- One round of the Registrar (14 R327). -/
def registrarRound (s : State) : State :=
  let s := retryKept s
  match nextMail s with
  | some (l, w) => takeMail l w s
  | none => s

/-- Whether a round of the Registrar would do anything. -/
def registrarBusy (s : State) : Bool :=
  (nextMail s).isSome || (List.range 8).any (fun l =>
    match keptAt s l with
    | some r => nestRoom s (recF r 1 3)
    | none => false)

/-! ### The device-memory BAR (20 R442) -/

/-- The size of a host access: 1 to 8 bytes. -/
def hostBytes (size : BitVec 4) : Nat := if size = 0 ∨ 8 < size.toNat then 8 else size.toNat

/-- The location and key of a byte that the host may reach; it sets no A or D bit. -/
def hostPlace (acc : Acc) (off : Nat) (s : State) : State × Option (Nat × Nat) :=
  match translate s (registrarCtx s) .sqd acc (BitVec.ofNat 64 off) with
  | (s, .ok p) => (s, if p.key = 4096 then some (p.loc, p.key) else none)
  | (s, .error _) => (s, none)

/-- The places of n bytes. -/
def hostPlaces (acc : Acc) : Nat → Nat → State → State × Option (List (Nat × Nat))
  | 0, _, s => (s, some [])
  | n + 1, off, s =>
    match hostPlace acc off s with
    | (s, none) => (s, none)
    | (s, some p) =>
      match hostPlaces acc n (off + 1) s with
      | (s, none) => (s, none)
      | (s, some ps) => (s, some (p :: ps))

/-- What a host read of some places leaves: its data, with a mark where a byte of them is poisoned, and their lines read at their
homes by way of the SQD (17 R388 to R390, R402; 18 R415; 20 R442). -/
def hostTake (ps : List (Nat × Nat)) (s : State) : State :=
  let v := ps.foldr (fun p acc => (byteOr s.dev s.free p.2 p.1).toNat + 256 * acc) 0
  let bad := ps.any (fun p => locPoisoned s.dev p.1)
  s.mapDev (fun d =>
    let d := ((ps.map (fun p => p.1 / 128)).eraseDups).foldl (fun d line => readLine sqdDie (128 * line) d) d
    { d with host := { d.host with lastRead := BitVec.ofNat 64 v, lastPoison := bad } })

/-- A host read: zeros and a logged error where it may not read. -/
def hostRead (off n : Nat) (s : State) : State :=
  match hostPlaces .read n off s with
  | (s, some ps) => hostTake ps s
  | (s, none) => s.mapDev (fun d => logError off n 6 none { d with host := { d.host with lastRead := 0, lastPoison := false } })

/-- A host write: discarded and logged where it may not write. -/
def hostWrite (off n v : Nat) (s : State) : State :=
  match hostPlaces .write n off s with
  | (s, some ps) =>
    match ps with
    | [] => s
    | p :: _ =>
      if ps.zipIdx.all (fun q => q.1.1 == p.1 + q.2) then storeBy none s p.2 p.1 n v false
      else ps.zipIdx.foldl (fun s q => storeBy none s q.1.2 q.1.1 1 (v / 2 ^ (8 * q.2) % 256) false) s
  | (s, none) => s.mapDev (logError off n 6 none)

/-! ### Attestation (20 R444) -/

/-- n bytes of a number, least significant first. -/
def leOf (n v : Nat) : List Byte := (List.range n).map (fun i => BitVec.ofNat 8 (v / 2 ^ (8 * i)))

/-- n bytes that only the security processor could compute. -/
def secretBytes (k n : Nat) : List Byte := (List.range n).map (fun i => Config.secretByte k i)

/-- What a report holds of an image: its 256-byte header and the header's SHA-512 field (03 R82, R83). -/
def imageEntry (h : BitVec 2048) : List Byte := leOf 256 h.toNat ++ leOf 64 (h.extractLsb' (8 * 0x80) 512).toNat

/-- The report (20 Table 20-7; log 21). -/
def attestReport (nonce : BitVec 512) (asid : BitVec 16) (s : State) : List Byte :=
  let imgs := s.dev.host.images.filter (fun p => p.1 == asid)
  leOf 64 nonce.toNat ++
    (leOf 8 Config.serial.toNat ++ leOf 8 Config.features.toNat ++ leOf 8 s.dev.vlen ++ leOf 40 (Config.features.toNat / 2 ^ 56)) ++
    secretBytes 0 256 ++ leOf 4 imgs.length ++ imgs.flatMap (fun p => imageEntry p.2) ++ secretBytes (s.free + 1) 132

/-- A request answered: the images of the ASID are those known before and those that the loader has placed since (03 R82, R83). -/
def attest (nonce : BitVec 512) (asid : BitVec 16) (s : State) : State :=
  let s := s.mapDev (fun d => { d with host := { d.host with
    images := d.host.images ++ (Config.placedImages s.free asid).map (fun h => (asid, h)) } })
  let r := attestReport nonce asid s
  (s.mapDev (fun d => { d with host := { d.host with report := r } })).draw

/-! ### The management BAR (20 Table 20-6; log 55) -/

/-- The four words of an entry of the deferred error log: PA, unit size and kind, TIME, and the core, all ones for none. -/
def errorWords (e : ErrEntry) : List Word :=
  [BitVec.ofNat 64 e.pa, BitVec.ofNat 64 (e.size + e.kind * 2 ^ 32), e.time,
    match e.core with
    | some n => BitVec.ofNat 64 n
    | none => BitVec.allOnes 64]

/-- The status words of the lane dies under Axolotl: a word each of voltage, then of clock, then the retirements scheduled. -/
def axolotlWords (f : Fabric) : List Word :=
  f.vddc.toList.map (BitVec.ofNat 64) ++ f.clock.toList.map (BitVec.ofNat 64) ++
    [BitVec.ofNat 64 f.retireCols.length, if f.retireBanks then 1 else 0]

/-- The state of a lane die: bit 0 says that its memory domain is down, bit 1 that its lanes and engines are held in reset, bits 8 to
10 that its HBM lines, its DSP and CSM slices and its scratch ways are offline (17 R402). -/
def dieWord (s : State) (i : Nat) : Word :=
  if s.dev.down.getLsbD i then 0x701 ||| (if Config.lanesHeld i then 2 else 0) else if Config.lanesHeld i then 2 else 0

/-- The Registrar's part of the management BAR: how many mailbox writes were lost and how many values refused, the values refused,
and from word 4,096 on three words for each write lost: the mailbox word, the value and TIME (14 R326, R327; 20 Table 20-6). -/
def mailWord (h : HostView) (i : Nat) : Word :=
  if i < 4096 then (BitVec.ofNat 64 h.mailboxOverflow :: BitVec.ofNat 64 h.refusals.length :: h.refusals).getD i 0
  else (h.mailboxLog.flatMap (fun e => [BitVec.ofNat 64 e.1, e.2.1, e.2.2])).getD (i - 4096) 0

/-- 64-bit word i of part p of the management BAR: the parts stand at multiples of 0x1_0000, and the deferred error log at
0x1000 of part 0, with its overflow count, the counts of corrected link errors and of the other corrected errors, and of ignored
pre-emption requests behind it. -/
def mgmtWord (s : State) (p i : Nat) : Word :=
  match p with
  | 0 =>
    if i < 512 then [Config.features, BitVec.ofNat 64 s.dev.vlen, 256, Config.serial].getD i 0
    else if i < 1536 then ((s.dev.host.errors[(i - 512) / 4]?.map errorWords).getD []).getD (i % 4) 0
    else [BitVec.ofNat 64 s.dev.host.overflow, BitVec.ofNat 64 s.dev.fabric.replays, BitVec.ofNat 64 s.dev.fabric.corrected,
      BitVec.ofNat 64 s.dev.host.preemptLog].getD (i - 1536) 0
  | 1 => if i / 8 ≤ 256 then (mirrorOf (i / 8) s).getD (i % 8) 0 else 0
  | 2 => if i < 8 then dieWord s i else 0
  | 3 => (axolotlWords s.dev.fabric).getD i 0
  | 4 => mailWord s.dev.host i
  | 5 => BitVec.ofNat 64 ((List.range 8).foldr (fun j acc => acc * 256 + (s.dev.host.report.getD (8 * i + j) 0).toNat) 0)
  | 6 => if i ≤ 256 then (s.coreAt i).hostint.getD 0 else 0
  | _ => 0

/-- A host 64-bit read of the management BAR. -/
def mgmtRead (off : Nat) (s : State) : Word := mgmtWord s (off / 2 ^ 16) (off % 2 ^ 16 / 8)

/-! ### Parts that no value depends on -/

/-- A fabric changed. -/
def mapFabric (f : Fabric → Fabric) (s : State) : State := s.mapDev (fun d => { d with fabric := f d.fabric })

/-- The nodes of a die's mesh at which slice k's flits enter are the device's own. -/
def sliceNode (die k : Nat) : Nat := Config.sliceNode die k % 64

/-- The free injection slots of a node (17 R395). -/
def freeSlots (f : Fabric) (die node : Nat) : List Nat :=
  (List.range 8).filter (fun k => !f.mesh.contains ⟨die, node, k⟩)

/-- An L2 home slice fetches the line of a physical address, and its two sectors enter the mesh as flits once slots of its node
are free; an address that nothing populates is logged (17 R388, R389, R395). -/
def l2Fill (pa : Nat) (s : State) : State :=
  let line := pa / 128
  if locPresent s.dev pa then
    let die := homeDie pa
    let node := sliceNode die (homeSlice pa)
    match freeSlots s.dev.fabric die node with
    | a :: b :: _ => mapFabric (fun f =>
        let f := l2Put die line false f
        { f with mesh := f.mesh ++ [⟨die, node, a⟩, ⟨die, node, b⟩] }) s
    | _ => s
  else s.mapDev (logError (line * 128) 128 7 none)

/-- The golden identifier of an epoch: a node and a slot (17 R395). -/
def goldenOf (k : Nat) : Nat × Nat := (k % 512 / 8, k % 8)

/-- A golden epoch begins where 512 cycles have passed: the flits that were golden in the epochs before are delivered, and of the
rest the device delivers some (17 R395). -/
def goldenStep (s : State) : State :=
  let now := s.dev.clk / 512
  mapFabric (fun f =>
    if now ≤ f.epoch then f
    else
      let golden := fun (m : MeshFlit) => decide ((8 * m.node + m.slot + 512 - f.epoch % 512) % 512 < now - f.epoch)
      { f with epoch := now, mesh := f.mesh.filter (fun m => !golden m && !Config.meshOut f.epoch (512 * m.die + 8 * m.node + m.slot)) }) s

/-- A frame begins where 4,096 cycles have passed: homes lend the lines that the frame before made hot, idle loans go back, and
planned margins take effect; the correctable errors met are counted, and an uncorrectable one may have struck (17 R390, R391, R401;
20 R439, R447). -/
def slotFrame (s : State) : State :=
  let now := s.dev.clk / 4096
  if now ≤ s.dev.fabric.frame then s
  else
    let s := mapFabric (fun f =>
      let f2 := (List.range (min (now - f.frame) 17)).foldl (fun f _ => frameLoans f) f
      { f2 with frame := now, vddc := f.nextVddc, clock := f.nextClock, corrected := f.corrected + Config.corrected now }) s
    match Config.strike now with
    | some loc => s.mapDev (strikeAt loc)
    | none => s

/-- The recall of a lent line is acknowledged by every helper (17 R391). -/
def recallDone (pa : Nat) (s : State) : State := s.mapDev (recallLoans (pa / 128 * 128) 128)

/-- Bytes of a flit as a number. -/
def flitN (f : BitVec 576) (off n : Nat) : Nat := f.toNat / 2 ^ (8 * off) % 2 ^ (8 * n)

/-- The elements of a data flit for an open context: the next 64 bytes, each at ADDR + i × STRIDE (17 R398). -/
def flitElems (f : BitVec 576) (c : LinkCtx) : List LinkElem :=
  (List.range (min (64 / 2 ^ c.elem) (c.count - c.passed))).map (fun k =>
    ⟨c.addr + BitVec.ofNat 64 (c.passed + k) * c.stride, flitN f (4 + k * 2 ^ c.elem) (2 ^ c.elem), flitN f 1 1 / 2 % 2 = 1⟩)

/-- A context after a data flit. -/
def LinkCtx.take (f : BitVec 576) (c : LinkCtx) : LinkCtx :=
  let es := flitElems f c
  { c with passed := c.passed + es.length, got := c.got ++ es }

/-- The context a header opens (17 Table 17-5). -/
def flitHeader (link : Nat) (f : BitVec 576) : LinkCtx :=
  { link := link, tag := flitN f 6 1, op := flitN f 4 1, cls := BitVec.ofNat 4 (flitN f 5 1), scope := BitVec.ofNat 2 (flitN f 5 1 / 16)
    dstUnit := flitN f 28 2, srcUnit := flitN f 30 2, operand := BitVec.ofNat 288 (flitN f 32 36), elem := flitN f 7 1 % 4, addr := BitVec.ofNat 64 (flitN f 12 8)
    stride := BitVec.ofNat 64 (flitN f 20 8), count := flitN f 8 4, passed := 0, got := [] }

/-- What a flit that passed its checks does to the contexts of its link: those open after it and those it closes; none where a
header opens an open one. A context whose elements have all passed, or that a close header names, is closed (17 R398). -/
def flitOpen (link : Nat) (f : BitVec 576) (l : List LinkCtx) : Option (List LinkCtx × List LinkCtx) :=
  let tag := flitN f 0 1
  let is := fun (t : Nat) (c : LinkCtx) => c.link == link && c.tag == t
  if tag = 0 then
    let h := flitHeader link f
    if h.op = 5 then some (l.filter (fun c => !is h.tag c), l.filter (is h.tag))
    else if h.tag = 0 then some (l, [])
    else if l.any (is h.tag) then none
    else some (l ++ [h], [])
  else
    let l := l.map (fun c => if is tag c then c.take f else c)
    let ended := fun (c : LinkCtx) => is tag c && decide (c.count ≤ c.passed)
    some (l.filter (fun c => !ended c), l.filter ended)

/-- A direction of a link. -/
def Fabric.link (b : Fabric) (n : Nat) : Link := b.links.getD n ⟨0, [], none, 0, []⟩

/-- Whether the CRC of a flit is right (17 Table 17-4). -/
def flitWhole (f : BitVec 576) : Bool := crc32c ((List.range 68).map (fun i => flitN f i 1)) == flitN f 68 4

/-- A flit whose sender has stamped it anew with a sequence number and its CRC (17 Table 17-4). -/
def flitStamp (seq : BitVec 16) (f : BitVec 576) : BitVec 576 :=
  let g := (f &&& ~~~(0xFFFF0000#576)) ||| (seq.setWidth 576 <<< 16)
  (g &&& BitVec.ofNat 576 (2 ^ 544 - 1)) ||| (BitVec.ofNat 576 (crc32c ((List.range 68).map (fun i => flitN g i 1))) <<< 544)

/-- Whether a flit is a header that opens a context. -/
def flitOpens (f : BitVec 576) : Bool := flitN f 0 1 == 0 && flitN f 4 1 != 5 && flitN f 6 1 != 0

/-- The sender of a direction holds a flit among its last 512 for replay (17 R397). -/
def Link.hold (f : BitVec 576) (l : Link) : Link := { l with held := (f :: l.held.filter (· != f)).take 512 }

/-- A flit in sequence taken: its contexts, the next sequence number, the credits it returns; none where it breaks the protocol
(17 R398). -/
def linkTake (n : Nat) (f : BitVec 576) (b : Fabric) : Option Fabric :=
  let l := b.link n
  (flitOpen n f b.linkOpen).map (fun o => { b with
    linkOpen := o.1
    transfers := b.transfers ++ o.2
    links := b.links.setIfInBounds n { l with seq := l.seq + 1, replay := none, credits := l.credits + flitN f 1 1 / 8 } })

/-- The sender resends what it holds from the sequence number that is expected now, as long as it holds that flit (17 R397). -/
def linkResend (n : Nat) : Nat → Fabric → Fabric
  | 0, b => b
  | k + 1, b =>
    match (b.link n).held.find? (fun f => flitN f 2 2 == (b.link n).seq.toNat) with
    | some f =>
      match linkTake n f b with
      | some c => linkResend n k c
      | none => b
    | none => b

/-- A header that has waited at its sender goes out once a context of its direction is free (17 R398). -/
def linkWake (n : Nat) (b : Fabric) : Fabric :=
  let l := b.link n
  match l.waiting with
  | f :: r =>
    if (b.linkOpen.filter (·.link == n)).length < 255 then
      let g := flitStamp l.seq f
      (linkTake n g { b with links := b.links.setIfInBounds n { l.hold g with waiting := r } }).getD b
    else b
  | [] => b

/-- A flit that is discarded: its sender replays from the expected sequence number on (17 R397). -/
def linkAsk (n : Nat) (f : BitVec 576) (b : Fabric) : Fabric :=
  { b with
    links := b.links.setIfInBounds n { b.link n with replay := some ((b.link n).seq, flitN f 1 1 / 4 % 2 = 1) }
    replays := b.replays + 1 }

/-- A flit arrives, which its sender holds. One that fails its CRC, is out of sequence or breaks the protocol is discarded and a
replay asked for; one that is taken is followed by those that the sender resends, and by a header that has waited. A header that
finds all 255 contexts open stays at its sender (17 R397, R398, R403). -/
def flitReceive (link : Nat) (f : BitVec 576) (s : State) : State :=
  mapFabric (fun b =>
    if flitOpens f && decide (255 ≤ (b.linkOpen.filter (·.link == link)).length) then
      { b with links := b.links.setIfInBounds link { b.link link with waiting := (b.link link).waiting ++ [f] } }
    else if !flitWhole f then linkAsk link f b
    else
      let b := { b with links := b.links.setIfInBounds link ((b.link link).hold f) }
      if flitN f 2 2 != (b.link link).seq.toNat then linkAsk link f b
      else
        match linkTake link f b with
        | some c => linkWake link (linkResend link 512 c)
        | none => linkAsk link f b) s

/-- Axolotl plans one step where a margin is short: voltage, then clock, both from the next frame on, then retirement at the next
reset (20 R447). -/
def replan (die : Nat) (group : Nat) (short : Bool) (s : State) : State :=
  if !short then s
  else
    let v := s.dev.fabric.nextVddc.toList.getD die 550
    let c := s.dev.fabric.nextClock.toList.getD die 1500
    if v < 550 then mapFabric (fun f => { f with nextVddc := f.nextVddc.setIfInBounds die (v + 5) }) s
    else if 1500 < c then mapFabric (fun f => { f with nextClock := f.nextClock.setIfInBounds die (c - 25) }) s
    else
      let p := Config.retirePick s.free
      let col := (p / 2 % 32, 8 * group + p / 64 % 8)
      let s := mapFabric (fun f => if p % 2 = 1 then { f with retireBanks := true }
        else { f with retireCols := if f.retireCols.contains col then f.retireCols else f.retireCols ++ [col] }) s
      (s.mapDev (fun d => { d with host := { d.host with msix := d.host.msix ++ [10] } })).draw

/-- A lane die's memory domain goes down; loans that involve it are gone (17 R402). -/
def domainDown (die : Nat) (s : State) : State :=
  s.mapDev (fun d => { d with
    down := d.down ||| (1#8 <<< die)
    fabric := dropDie die d.fabric })

/-- Device reset: every state of State.reset, with what Axolotl scheduled now retired; what is soldered on stays: the second
tier's size, images, the retirements (10 R285; 01 R37). -/
def deviceReset (s : State) : State :=
  let f := s.dev.fabric
  { State.reset with
    agenda := s.agenda
    free := s.free
    dev := { Dev.start with
      tierBytes := s.dev.tierBytes
      vlen := if f.retireBanks then 8192 else 16384
      clusters := Vector.ofFn (fun (c : Fin 32) =>
        { Cluster.start with cols := 32 - (f.retireCols.filter (fun p => p.1 == c.val)).length })
      fabric := { Dev.start.fabric with retireCols := f.retireCols, retireBanks := f.retireBanks }
      host := { Dev.start.host with images := s.dev.host.images } } }

/-- An uncorrectable error after an acknowledged store of a live nest: a non-returning atomic that no later access has passed
loses its effect, and FAULTED goes to the completion word (14 R342, 18 R415). -/
def lostStore (seq loc : Nat) (s : State) : State :=
  if (nestAt s seq).isNone then s
  else
    let s := s.mapDev (logError loc (poisonUnit loc) 8 none)
    let s := match s.dev.fabric.acked.find? (fun a => a.seq == seq && a.loc == loc) with
      | some a => s.mapDev (fun d => writeNat a.key a.n { d with
          fabric := { d.fabric with acked := d.fabric.acked.filter (· != a) } } a.loc a.old)
      | none => s
    nestOr seq 0x400 s

end Sys2Proof.Machine
end

