-- ==== Sys2Proof/Machine/CoreEvents.lean ====
section
/-! DEFINITION. The device events of the opcode table that concern one core: waits that end, the vector queue, caches, streams,
the lead, and traps at a boundary. An event whose condition does not hold changes nothing. -/

namespace Sys2Proof.Machine

/-- A change made by core n, which keeps its place in the turns. -/
def coreEvent (n : BitVec 8) (f : State → State) (s : State) : Result := .next (s.onCore n.toNat f)

/-! ### The vector queue (10 R261) -/

/-- The oldest entry leaves for execution. -/
def execViqIssue (n : BitVec 8) (s : State) : Result := coreEvent n vecIssue s

/-- The issued entry performs its elements. -/
def execViqComplete (n : BitVec 8) (s : State) : Result := coreEvent n vecComplete s

/-- The completed entry retires. -/
def execViqRetire (n : BitVec 8) (s : State) : Result := coreEvent n vecRetire s

/-- The head of the queue tried again where it waits for gated registers (07 R199, R202). -/
def gatedProceed (s : State) : State :=
  match headEntry s with
  | some e => (match e.desc.op with
    | .push => s
    | _ => if e.since ≠ 0 then vecRun s else s)
  | none => s

/-- An instruction that waits on a gated register goes on (07 R199). -/
def execGatedReadProceed (n : BitVec 8) (s : State) : Result := coreEvent n gatedProceed s

/-- The head tried again where it is a `vpush` that waits (07 R201). -/
def pushProceed (s : State) : State :=
  match headEntry s with
  | some e => (match e.desc.op with
    | .push => if e.since ≠ 0 then vecRun s else s
    | _ => s)
  | none => s

/-- A waiting `vpush` goes on (07 R201). -/
def execVpushProceed (n : BitVec 8) (s : State) : Result := coreEvent n pushProceed s

/-! ### Background deduplication (10 R271) -/

/-- One name in place of another. -/
def renameTo (a b n : Nat) : Nat := if n = b then a else n

/-- The contents behind the vector names: of the registers and of the entries. -/
def nameContents (c : Core) : List (Nat × VReg) :=
  (List.range 32).map (fun r => (c.cat.vname.getD r 0, c.th.v.getD r VReg.zero)) ++
    (c.cat.entries.filter (!·.isMask)).flatMap (fun e => e.names.zip e.vregs)

/-- Two names with the same contents: their hashes are equal, and then their bits, tags and marks compared in full. -/
def equalNames (vlen : Nat) (l : List (Nat × VReg)) : Option (Nat × Nat) :=
  let hs := l.map (fun p => (p.1, p.2, vregHash vlen p.2))
  hs.findSome? (fun p => (hs.find? (fun q => p.1 != q.1 && p.2.2 == q.2.2 && p.2.1 == q.2.1)).map (fun q => (p.1, q.1)))

/-- A key with one vector name in place of another. -/
def CatKey.rename (a b : Nat) (isMask : Bool) (k : CatKey) : CatKey :=
  { k with
    srcNames := k.srcNames.map (renameTo a b)
    dstNames := if isMask then k.dstNames else k.dstNames.map (renameTo a b) }

/-- Two equal physical registers merged (10 R271). -/
def catDedup (s : State) : State :=
  if s.csr.catctl ≠ 3 then s
  else
    match equalNames s.vlen (nameContents s.core) with
    | none => s
    | some (a, b) => s.mapCore (fun c => { c with cat := catReclaim 64 { c.cat with
        vname := c.cat.vname.map (renameTo a b)
        entries := c.cat.entries.map (fun e => { e with
          key := e.key.rename a b e.isMask
          names := if e.isMask then e.names else e.names.map (renameTo a b) }) } })

/-- Background deduplication merges two registers. -/
def execCatalogueDedup (n : BitVec 8) (s : State) : Result := coreEvent n catDedup s

/-! ### Streams, reservations, buffers (08 R240; 07 R190, R195; 18 R407) -/

/-- Strips fetched ahead at most; 0 means 2 (08 R218). -/
def streamDepth (r : BitVec 512) : Nat := if recN r 0x31 8 = 0 then 2 else recN r 0x31 8

/-- One strip of an input stream fetched ahead (08 R240). -/
def stripAhead (r : Reg) (s : State) : State :=
  match bindingOf s.core.th r.toNat with
  | some b =>
    if !sdOut b.desc && !b.ended && decide (b.ahead + 1 ≤ streamDepth b.desc) then setBinding { b with ahead := b.ahead + 1 } s else s
  | none => s

/-- A strip is fetched ahead. -/
def execStreamFetch (n : BitVec 8) (r : BitVec 5) (s : State) : Result := coreEvent n (stripAhead r) s

/-- Reservations 4,096 cycles old break (07 R190, R195). -/
def resvExpire (s : State) : State :=
  s.mapTh (fun t => { t with
    resv := t.resv.filter (fun r => decide (s.dev.clk < r.2 + 4096))
    vresv := t.vresv.filter (fun r => decide (s.dev.clk < r.2.2 + 4096)) })

/-- A reservation expires. -/
def execReservationExpire (n : BitVec 8) (s : State) : Result := coreEvent n resvExpire s

/-- Lines 4,096 cycles old leave the coalescing buffer (18 R407). -/
def drainOld (s : State) : State :=
  s.mapCore (fun c => { c with coalesce := c.coalesce.filter (fun p => decide (s.dev.clk < p.since + 4096)) })

/-- The coalescing buffer drains what is due. -/
def execCoalesceDrainTimeout (n : BitVec 8) (s : State) : Result := coreEvent n drainOld s

/-! ### Caches and translation (19 R418; 20 R434) -/

/-- The fill in flight of the line of an address ends; the device fetches no line of its own accord (19 R418). -/
def icacheBring (va : Word) (s : State) : State :=
  match fillOf s va.toNat with
  | some f => fillDone f s
  | none => s

/-- A fill of the instruction cache completes. -/
def execIcacheFill (n : BitVec 8) (addr : BitVec 64) (s : State) : Result := coreEvent n (icacheBring addr) s

/-- The kind of access of a walk: 0 read, 1 write, 2 fetch, 3 read and write. -/
def walkKind (k : BitVec 2) : Acc :=
  match k.toNat with
  | 0 => .read
  | 1 => .write
  | 2 => .exec
  | _ => .rw

/-- A walk of the page tables completes: it fills the TLBs or finds nothing; the access itself sets A and D (20 R434). -/
def execPageWalk (n : BitVec 8) (addr : BitVec 64) (kind : BitVec 2) (s : State) : Result :=
  coreEvent n (fun s => (translate s s.ctx (if kind = 2 then s.itlb else s.dtlb) (walkKind kind) addr).1) s

/-! ### Boundaries (14 R349; 20 R431; 22 R466) -/

/-- A pending enabled asynchronous cause is taken (20 R431). -/
def execAsyncTrapTake (n : BitVec 8) (s : State) : Result := coreEvent n asyncTrap s

/-- TIME reaches TIMECMP: TIMER is raised, and taken where no other cause comes first and it is enabled (20 R431). -/
def timerTrap (s : State) : State := if timerDue s then asyncTrap s else s

/-- TIMER is raised. -/
def execTimerCompare (n : BitVec 8) (s : State) : Result := coreEvent n timerTrap s

/-- A pending user-level trap is delivered (14 R349). -/
def execUserTrapDeliver (n : BitVec 8) (s : State) : Result := coreEvent n userTrap s

/-- A saved scratch way comes back (22 R466). -/
def execScratchWayRestore (n : BitVec 8) (w : BitVec 4) (s : State) : Result := coreEvent n (wayBack w.toNat) s

/-- A firmware end of a faulted iteration, whose thread has stopped or taken a trap (14 R342). -/
def faultNow (s : State) : State :=
  if s.core.occupied && (s.core.run == .stopped || s.core.level != .user) then faultEnd s else s

/-- A faulted iteration ends (14 R342). -/
def execIterationFaultEnd (n : BitVec 8) (s : State) : Result := coreEvent n faultNow s

/-! ### Waiting scalar instructions and the lead -/

noncomputable section

/-- The scalar instruction at a core's pc run by itself, where it is of a kind and the core can issue: it retires, traps or
keeps waiting. The lead follows what the trail does. -/
def tryAgain (p : Instr → Option (State → Result)) (s : State) : State :=
  if s.core.run = .idle ∨ s.core.run = .stopped ∨ issueBlocked s then s
  else
    match fetchPc s with
    | (t, .instr i) =>
      match p i with
      | some f =>
        match f t with
        | .next u => if u.core.th.din = s.core.th.din + 1 then leadReconcile s.core.th.din false u else u
        | _ => s
      | none => s
    | _ => s

/-- The FUT members that wait. -/
def futOf : Instr → Option (State → Result)
  | .fget d a imm scope cls st => some (execFget d a imm scope cls st)
  | .ftake d a imm scope cls st => some (execFtake d a imm scope cls st)
  | .fgive b a imm scope cls st => some (execFgive b a imm scope cls st)
  | _ => none

/-- `bwait` and `bsync`. -/
def barOfInstr : Instr → Option (State → Result)
  | .bwait n a scope st => some (execBwait n a scope st)
  | .bsync n scope st => some (execBsync n scope st)
  | _ => none

/-- `ewait`. -/
def ewaitOf : Instr → Option (State → Result)
  | .ewait d a b imm scope cls st => some (execEwait d a b imm scope cls st)
  | _ => none

/-- `nap`. -/
def napOf : Instr → Option (State → Result)
  | .nap st => some (execNap st)
  | _ => none

/-- `kend` in either spelling. -/
def kendOf : Instr → Option (State → Result)
  | .kend st => some (execKend st)
  | .cKend => some execCKend
  | _ => none

/-- `lkacq` and `lkup`. -/
def lockOf : Instr → Option (State → Result)
  | .lkacq d a mode scope st => some (execLkacq d a mode scope st)
  | .lkup d a mode scope st => some (execLkup d a mode scope st)
  | _ => none

/-- A waiting FUT member goes on (07 R197). -/
def execFutureWaitComplete (n : BitVec 8) (s : State) : Result := coreEvent n (tryAgain futOf) s

/-- A waiting `bwait` or `bsync` returns (07 R204, R205). -/
def execBwaitReturn (n : BitVec 8) (s : State) : Result := coreEvent n (tryAgain barOfInstr) s

/-- A waiting `ewait` returns (08 R235). -/
def execEwaitReturn (n : BitVec 8) (s : State) : Result := coreEvent n (tryAgain ewaitOf) s

/-- `nap` ends (05 R134). -/
def execNapWake (n : BitVec 8) (s : State) : Result := coreEvent n (tryAgain napOf) s

/-- `kend` retires (05 R135). -/
def execKendRetire (n : BitVec 8) (s : State) : Result := coreEvent n (tryAgain kendOf) s

/-- A wait that has lasted EMPTYSPIN cycles raises EMPTY: the head of the queue first, then a FUT member or `ewait`
(07 R198, R199; 08 R235). -/
def emptyNow (s : State) : State :=
  if ((headEntry s).map (fun e => e.since != 0 && emptyDue s e.spin (e.since - 1))).getD false then vecRun s
  else if (s.core.th.wait.map (fun w => emptyDue s s.csr.emptyspin w.since)).getD false then tryAgain (fun i => (futOf i).or (ewaitOf i)) s
  else s

/-- EMPTYSPIN passes (07 R198). -/
def execEmptyTimeout (n : BitVec 8) (s : State) : Result := coreEvent n emptyNow s

/-- The lead executes an instruction (12 R299). -/
def execLeadIssue (n : BitVec 8) (s : State) : Result := coreEvent n leadIssue s

end

/-- A fork's copy completes (12 R302). -/
def execLeadForkCopyDone (n : BitVec 8) (s : State) : Result := coreEvent n leadCopied s

end Sys2Proof.Machine
end

