-- ==== Sys2Proof/Machine/CsrEvents.lean ====
section
/-! DEFINITION. The writes of control registers that the opcode table lists as device events: each acts on the core whose turn
it is, where its level reaches the register (01 R22, R24, R25, R35, R38; 05 R130; 10 R280; 12 R303; 16 R373; 17 R383, R386;
20 R438; 21 R452). -/

namespace Sys2Proof.Machine

/-- A write of CSR n by the core whose turn it is, without effect where its level does not reach the register or the
write would wait or trap: a synchronising CSR waits for the older vector instructions (01 R36; log 45). -/
def eventWrite (n : Nat) (f : State → State) (v : Word) (s : State) : Result :=
  .next (match csrLevel n with
    | some l => if s.core.level.allows l && (csrFirstUse n v s).isNone && !csrWriteWaits n v s && !(csrSync n && vecBusy s) then f s else s
    | none => s)

/-- VTYPE (01 R22). -/
def execVtypeWrite (v : BitVec 64) (s : State) : Result := eventWrite 0x011 (writeVtype v) v s

/-- VL, as `vsetl` does it (01 R24). -/
def execVlWrite (v : BitVec 64) (s : State) : Result := eventWrite 0x010 (writeVl v.toNat) v s

/-- VSTART (01 R25). -/
def execVstartWrite (v : BitVec 64) (s : State) : Result := eventWrite 0x012 (writeVstart v) v s

/-- VTAGS0 or VTAGS1 (01 R35). -/
def execVtagsWrite (hi : Bool) (v : BitVec 64) (s : State) : Result :=
  eventWrite (if hi then 0x016 else 0x015) (writeVtags hi v) v s

/-- PAIRCTL with MODE at SOLO (01 R38). -/
def execPairctlModeSolo (v : BitVec 64) (s : State) : Result := eventWrite 0x040 (writePairSolo v) v s

/-- PAIRCTL with MODE at PAIR (01 R38). -/
def execPairctlModePair (v : BitVec 64) (s : State) : Result := eventWrite 0x040 (writePairPair v) v s

/-- KSLICE (12 R303). -/
def execKsliceWrite (v : BitVec 64) (s : State) : Result := eventWrite 0x041 (writeKslice v) v s

/-- CATCTL (10 R280). -/
def execCatctlWrite (v : BitVec 64) (s : State) : Result := eventWrite 0x030 (writeCatctl v) v s

/-- The Curator's matrix (16 R373). -/
def execCurcmpWrite (v : BitVec 64) (s : State) : Result := eventWrite 0x120 (writeCurcmp v) v s

/-- PTBASE (20 R438). -/
def execPtbaseWrite (v : BitVec 64) (s : State) : Result := eventWrite 0x106 (writePtbase v) v s

/-- SCTX (21 R452). -/
def execSctxWrite (v : BitVec 64) (s : State) : Result := eventWrite 0x105 (writeSctx v) v s

/-- TBCFG, once nothing still writes into its ways (17 R386). -/
def execTbcfgWrite (v : BitVec 64) (s : State) : Result := eventWrite 0x070 (writeTbcfg v) v s

/-- DSPSUP (17 R383). -/
def execDspsupWrite (v : BitVec 64) (s : State) : Result := eventWrite 0x311 (writeDspsup v) v s

/-- A CSR without behaviour of its own (05 R130). -/
def execCsrWrite (csr : BitVec 12) (v : BitVec 64) (s : State) : Result :=
  eventWrite csr.toNat (writePlain csr.toNat v) v s

end Sys2Proof.Machine
end

