-- ==== Sys2Proof/Machine/DevEvents.lean ====
section
/-! DEFINITION. The device events of the opcode table that concern the host, the walker, the Registrar, the Curator, the tile
scheduler, the copy engines and the fabric. An event whose condition does not hold changes nothing. -/

namespace Sys2Proof.Machine

/-! ### The host (14 R326; 20 R431, R442, R444; 22 R461) -/

/-- A 64-bit write of a core's pre-emption request word (22 R461). -/
def execPreemptRequestWrite (n : BitVec 8) (v : BitVec 64) (s : State) : Result :=
  .next (requestWrite none (reqOff + 8 * n.toNat) 8 v.toNat s)

/-- The doorbell of a core: the last value written is the one reported (20 R431). -/
def execHostDoorbellWrite (n : BitVec 8) (v : BitVec 64) (s : State) : Result :=
  coreEvent n (fun s => s.mapCore (fun c => { c with hostint := some v })) s

/-- A host write of a launch mailbox word (14 R326). -/
def execHostMailboxWrite (w : BitVec 9) (size : BitVec 4) (v : BitVec 64) (s : State) : Result :=
  .next (mailboxWrite w.toNat (hostBytes size) v s)

/-- A host read through the device-memory BAR (20 R442). -/
def execHostMemoryRead (off : BitVec 40) (size : BitVec 4) (s : State) : Result :=
  .next (hostRead off.toNat (hostBytes size) s)

/-- A host write through the device-memory BAR (20 R442). -/
def execHostMemoryWrite (off : BitVec 40) (size : BitVec 4) (v : BitVec 64) (s : State) : Result :=
  .next (hostWrite off.toNat (hostBytes size) v.toNat s)

/-- An attestation request (20 R444). -/
def execAttestationRequest (nonce : BitVec 512) (asid : BitVec 16) (s : State) : Result := .next (attest nonce asid s)

/-! ### The Registrar and the walker (14) -/

/-- The Registrar serves its mailboxes (14 R327). -/
def execRegistrarServe (s : State) : Result := .next (registrarRound s)

/-- The walker reads the wait word of a nest (14 R331). -/
def execWaitWordRead (seq : BitVec 64) (s : State) : Result := .next (waitRead seq.toNat s)

/-- The walker dispatches an iteration where one comes next, and posts its requests for pre-emption (14 R334, R345). -/
def dispatchNow (s : State) : State :=
  match walkerMove s with
  | some (.dispatch seq c cores) => postRequests (dispatch seq c cores s)
  | _ => postRequests s

/-- A dispatch (14 R334). -/
def execWalkerDispatch (s : State) : Result := .next (dispatchNow s)

noncomputable section

/-- The walker resumes a set-aside thread where one comes next (14 R337). -/
def resumeNow (s : State) : State :=
  match walkerMove s with
  | some (.resume a k) => resumeAny a k s
  | _ => s

/-- A resumption (14 R337). -/
def execThreadResume (s : State) : Result := .next (resumeNow s)

end

/-- A nest ends (14 R342). -/
def execNestDone (seq : BitVec 64) (s : State) : Result := .next (nestDone seq.toNat s)

/-- The Registrar ends a nest early (14 R343). -/
def execNestAbort (seq : BitVec 64) (s : State) : Result := .next (nestAbort seq.toNat s)

/-- FEATURE hands a nest's iterations over, or ends it (10 R287). -/
def execFeatureRequeue (seq : BitVec 64) (s : State) : Result := .next (featureEnd seq.toNat s)

/-- A member of a gang acknowledges (14 R346). -/
def execGangAck (gid : BitVec 32) (fabric : BitVec 16) (s : State) : Result := .next (gangAck gid fabric s)

/-- GANGTO passes (14 R347). -/
def execGangTimeout (seq : BitVec 64) (s : State) : Result := .next (gangTimeout seq.toNat s)

/-! ### The Curator (16 R375 to R378) -/

noncomputable section

/-- The Curator wounds what must give way and grants the first request it can: to a task at once, to a thread through the
instruction that waits for it (16 R375, R377). -/
def grantNow (s : State) : State :=
  let s := woundAll s
  match taskGrantable s with
  | some (r, id) => grantTask r id s
  | none =>
    match threadGrantable s with
    | some k => s.onCore k (tryAgain lockOf)
    | none => s

/-- A grant (16 R375). -/
def execCuratorGrant (s : State) : Result := .next (grantNow s)

end

/-- A revocation (16 R378). -/
def execLockRevoke (name : BitVec 64) (tid : BitVec 8) (s : State) : Result := .next (revoke name tid.toNat s)

/-! ### Tile tasks and copies (14 R340, R341; 16 R365 to R370; 08 R217, R221) -/

/-- A waiting task's condition holds (16 R370). -/
def execTileTaskWtokReady (id : BitVec 64) (s : State) : Result := .next (taskEnqueue id.toNat (taskToken id.toNat s))

/-- The tile scheduler of a cluster issues a task (14 R340). -/
def execTileTaskIssue (c : BitVec 5) (s : State) : Result := .next (taskIssue c.toNat s)

/-- An engine completes a slice (16 R365). -/
def execTileSliceStep (id : BitVec 64) (s : State) : Result := .next (taskSlice id.toNat s)

/-- A REP MMA-INC task begins its merge (16 R368). -/
def execTileMergeTurn (id : BitVec 64) (s : State) : Result := .next (taskTurn id.toNat s)

/-- A task finishes (08 R221). -/
def execTileTaskFinish (id : BitVec 64) (s : State) : Result := .next (taskFinish id.toNat s)

/-- A copy engine of a cluster takes a command (14 R341). -/
def execCopyStart (c : BitVec 5) (s : State) : Result := .next (copyStart c.toNat s)

/-- A copy moves on (08 R217). -/
def execCopyChunk (id : BitVec 64) (s : State) : Result := .next (copyMove id.toNat s)

/-- A copy ends (08 R221). -/
def execCopyFinish (id : BitVec 64) (s : State) : Result := .next (copyEnd id.toNat s)

/-! ### The fabric and the parts below it (17 R389 to R402; 20 R447) -/

/-- An L2 home slice fetches a line (17 R389). -/
def execL2Fill (pa : BitVec 52) (s : State) : Result := .next (l2Fill pa.toNat s)

/-- A recall is acknowledged (17 R391). -/
def execLoanRecallDone (pa : BitVec 52) (s : State) : Result := .next (recallDone pa.toNat s)

/-- A frame of the slot wheel begins (17 R401). -/
def execSlotWheelFrame (s : State) : Result := .next (slotFrame s)

/-- The golden packet moves on (17 R395). -/
def execGoldenEpoch (s : State) : Result := .next (goldenStep s)

/-- A flit arrives (17 R397). -/
def execLinkFlitReceive (link : BitVec 5) (flit : BitVec 576) (s : State) : Result := .next (flitReceive link.toNat flit s)

/-- Axolotl plans anew (20 R447). -/
def execAxolotlReplan (die : BitVec 3) (group : BitVec 2) (short : Bool) (s : State) : Result :=
  .next (replan die.toNat group.toNat short s)

/-- A die's memory domain goes down (17 R402). -/
def execDieDomainDown (die : BitVec 3) (s : State) : Result := .next (domainDown die.toNat s)

/-- Device reset (01 R37). -/
def execDeviceReset (s : State) : Result := .next (deviceReset s)

/-- An acknowledged store is lost (14 R342). -/
def execUncorrectableErrorAfterAck (seq loc : BitVec 64) (s : State) : Result := .next (lostStore seq.toNat loc.toNat s)

end Sys2Proof.Machine
end

