-- ==== Sys2Proof/Machine/StrmInstr.lean ====
section
/-! DEFINITION. Members of STRM (08 R236 to R243).
Each enters the queue with its form; the unit gives it its effect. -/

namespace Sys2Proof.Machine

/-- `sbind` (08 R237). -/
def execSbind (d a : Reg) (imm : BitVec 11) (st : BitVec 2) (s : State) : Result :=
  vexec 8 st (fScalar (.sbind imm) d a 0 false) s

/-- `sunbind` (08 R241). -/
def execSunbind (d : Reg) (st : BitVec 2) (s : State) : Result :=
  vexec 8 st (fScalar .sunbind d 0 0 false) s

/-- `sstat` (08 R242). -/
def execSstat (d b : Reg) (st : BitVec 2) (s : State) : Result :=
  vexec 8 st (fToG .sstat d b) s

/-- `sflush` (08 R241). -/
def execSflush (d : Reg) (st : BitVec 2) (s : State) : Result :=
  vexec 8 st (fScalar .sflush d 0 0 false) s

end Sys2Proof.Machine
end

