-- ==== Sys2Proof/Machine/TileInstr.lean ====
section
/-! DEFINITION. Members of TILE, and `epost` (08 R220 to R232).
Each enters the queue with its form; the unit gives it its effect. -/

namespace Sys2Proof.Machine

/-- `tplanar` (08 R225). -/
def execTplanar (d a b e : Reg) (keep : Bool) (cls : BitVec 4) (st : BitVec 2) (s : State) : Result :=
  vexec 8 st (fTile (.tplanar keep) d a b e cls true) s

/-- `tpost` (08 R220). -/
def execTpost (d a : Reg) (scope : BitVec 2) (cls : BitVec 4) (st : BitVec 2) (s : State) : Result :=
  vexec 8 st (fPost (.tpost scope) d a cls) s

/-- `tzero` (08 R226). -/
def execTzero (a : Reg) (cls : BitVec 4) (st : BitVec 2) (s : State) : Result :=
  vexec 8 st (fTile .tzero 0 a 0 0 cls false) s

/-- `trenorm` (08 R227). -/
def execTrenorm (a b : Reg) (cls : BitVec 4) (st : BitVec 2) (s : State) : Result :=
  vexec 8 st (fTile .trenorm 0 a b 0 cls false) s

/-- `tload` (08 R228). -/
def execTload (d a b : Reg) (me : Bool) (mi cls : BitVec 4) (st : BitVec 2) (s : State) : Result :=
  vexec 8 st (fTload d a b me mi cls) s

/-- `tinit` (08 R224). -/
def execTinit (a b p : Reg) (role : Bool) (cls : BitVec 4) (st : BitVec 2) (s : State) : Result :=
  vexec 8 st (fTile (.tinit p role) 0 a b 0 cls false) s

/-- `tstat` (08 R229). -/
def execTstat (d a : Reg) (cls : BitVec 4) (st : BitVec 2) (s : State) : Result :=
  vexec 8 st (fTile .tstat d a 0 0 cls true) s

/-- `tflags` (08 R229). -/
def execTflags (d a b : Reg) (cls : BitVec 4) (st : BitVec 2) (s : State) : Result :=
  vexec 8 st (fTile .tflags d a b 0 cls true) s

/-- `epost` (08 R232). -/
def execEpost (d a : Reg) (st : BitVec 2) (s : State) : Result :=
  vexec 8 st (fPost .epost d a 0) s

end Sys2Proof.Machine
end

