-- ==== Sys2Proof/Machine/VecAtomInstr.lean ====
section
/-! DEFINITION. Vector atomics, `vgl` and `vsc` (07 R191 to R195).
Each enters the queue with its form; the unit gives it its effect. -/

namespace Sys2Proof.Machine

/-- `vaadd` (07 R191). -/
def execVaadd (d a b e : Reg) (ret : Bool) (dm : BitVec 8) (me : Bool) (mi : BitVec 4) (_scope : BitVec 2) (cls : BitVec 4) (st : BitVec 2) (s : State) : Result :=
  vexec 8 st (fAmo (.amo .add ret) d a b e dm me mi cls) s

/-- `vaand` (07 R191). -/
def execVaand (d a b e : Reg) (ret : Bool) (dm : BitVec 8) (me : Bool) (mi : BitVec 4) (_scope : BitVec 2) (cls : BitVec 4) (st : BitVec 2) (s : State) : Result :=
  vexec 8 st (fAmo (.amo .and ret) d a b e dm me mi cls) s

/-- `vaor` (07 R191). -/
def execVaor (d a b e : Reg) (ret : Bool) (dm : BitVec 8) (me : Bool) (mi : BitVec 4) (_scope : BitVec 2) (cls : BitVec 4) (st : BitVec 2) (s : State) : Result :=
  vexec 8 st (fAmo (.amo .or ret) d a b e dm me mi cls) s

/-- `vaxor` (07 R191). -/
def execVaxor (d a b e : Reg) (ret : Bool) (dm : BitVec 8) (me : Bool) (mi : BitVec 4) (_scope : BitVec 2) (cls : BitVec 4) (st : BitVec 2) (s : State) : Result :=
  vexec 8 st (fAmo (.amo .xor ret) d a b e dm me mi cls) s

/-- `vamin` (07 R191). -/
def execVamin (d a b e : Reg) (ret : Bool) (dm : BitVec 8) (me : Bool) (mi : BitVec 4) (_scope : BitVec 2) (cls : BitVec 4) (st : BitVec 2) (s : State) : Result :=
  vexec 8 st (fAmo (.amo .min ret) d a b e dm me mi cls) s

/-- `vamax` (07 R191). -/
def execVamax (d a b e : Reg) (ret : Bool) (dm : BitVec 8) (me : Bool) (mi : BitVec 4) (_scope : BitVec 2) (cls : BitVec 4) (st : BitVec 2) (s : State) : Result :=
  vexec 8 st (fAmo (.amo .max ret) d a b e dm me mi cls) s

/-- `vaswap` (07 R191). -/
def execVaswap (d a b e : Reg) (ret : Bool) (dm : BitVec 8) (me : Bool) (mi : BitVec 4) (_scope : BitVec 2) (cls : BitVec 4) (st : BitVec 2) (s : State) : Result :=
  vexec 8 st (fAmo (.amo .swap ret) d a b e dm me mi cls) s

/-- `vainc` (07 R191). -/
def execVainc (d a b e : Reg) (ret : Bool) (dm : BitVec 8) (me : Bool) (mi : BitVec 4) (_scope : BitVec 2) (cls : BitVec 4) (st : BitVec 2) (s : State) : Result :=
  vexec 8 st (fAmo (.amo .inc ret) d a b e dm me mi cls) s

/-- `vabadd` (07 R191). -/
def execVabadd (d a b e : Reg) (ret : Bool) (dm : BitVec 8) (me : Bool) (mi : BitVec 4) (_scope : BitVec 2) (cls : BitVec 4) (st : BitVec 2) (s : State) : Result :=
  vexec 8 st (fAmo (.amo .badd ret) d a b e dm me mi cls) s

/-- `vfaadd` (07 R191). -/
def execVfaadd (d a b e : Reg) (ret : Bool) (dm : BitVec 8) (me : Bool) (mi : BitVec 4) (_scope : BitVec 2) (cls : BitVec 4) (st : BitVec 2) (s : State) : Result :=
  vexec 8 st (fAmo (.amo .fadd ret) d a b e dm me mi cls) s

/-- `vfamax` (07 R191). -/
def execVfamax (d a b e : Reg) (ret : Bool) (dm : BitVec 8) (me : Bool) (mi : BitVec 4) (_scope : BitVec 2) (cls : BitVec 4) (st : BitVec 2) (s : State) : Result :=
  vexec 8 st (fAmo (.amo .fmax ret) d a b e dm me mi cls) s

/-- `vgl` (07 R193). -/
def execVgl (d a b : Reg) (dm : BitVec 8) (me : Bool) (mi : BitVec 4) (_scope : BitVec 2) (cls : BitVec 4) (st : BitVec 2) (s : State) : Result :=
  vexec 8 st (fAmo .gl d a b 0 dm me mi cls) s

/-- `vsc` (07 R194). -/
def execVsc (d a b e : Reg) (dm : BitVec 8) (me : Bool) (mi : BitVec 4) (_scope : BitVec 2) (cls : BitVec 4) (st : BitVec 2) (s : State) : Result :=
  vexec 8 st (fAmo .sc d a b e dm me mi cls) s

end Sys2Proof.Machine
end

