-- ==== Sys2Proof/Machine/VecFma.lean ====
section
/-! DEFINITION. Vector fused multiply-add members (06 R161, Table 06-6).
Each enters the queue with its form; the unit gives it its effect. -/

namespace Sys2Proof.Machine

/-- `vfmacc.VV` (06 Table 06-6). -/
def execVfmaccVv (d a b : Reg) (m : Bool) (st : BitVec 2) (s : State) : Result :=
  vexec 4 st (fVV (.fma .macc) d a b m) s

/-- `vfnmacc.VV` (06 Table 06-6). -/
def execVfnmaccVv (d a b : Reg) (m : Bool) (st : BitVec 2) (s : State) : Result :=
  vexec 4 st (fVV (.fma .nmacc) d a b m) s

/-- `vfmsac.VV` (06 Table 06-6). -/
def execVfmsacVv (d a b : Reg) (m : Bool) (st : BitVec 2) (s : State) : Result :=
  vexec 4 st (fVV (.fma .msac) d a b m) s

/-- `vfnmsac.VV` (06 Table 06-6). -/
def execVfnmsacVv (d a b : Reg) (m : Bool) (st : BitVec 2) (s : State) : Result :=
  vexec 4 st (fVV (.fma .nmsac) d a b m) s

/-- `vfmacc.VS` (06 Table 06-6). -/
def execVfmaccVs (d a b : Reg) (m : Bool) (st : BitVec 2) (s : State) : Result :=
  vexec 4 st (fVS (.fma .macc) d a b m) s

/-- `vfnmacc.VS` (06 Table 06-6). -/
def execVfnmaccVs (d a b : Reg) (m : Bool) (st : BitVec 2) (s : State) : Result :=
  vexec 4 st (fVS (.fma .nmacc) d a b m) s

/-- `vfmsac.VS` (06 Table 06-6). -/
def execVfmsacVs (d a b : Reg) (m : Bool) (st : BitVec 2) (s : State) : Result :=
  vexec 4 st (fVS (.fma .msac) d a b m) s

/-- `vfnmsac.VS` (06 Table 06-6). -/
def execVfnmsacVs (d a b : Reg) (m : Bool) (st : BitVec 2) (s : State) : Result :=
  vexec 4 st (fVS (.fma .nmsac) d a b m) s

end Sys2Proof.Machine
end

