-- ==== Sys2Proof/Machine/VecFp.lean ====
section
/-! DEFINITION. Vector floating-point members (06 R158 to R160, Table 06-5).
Each enters the queue with its form; the unit gives it its effect. -/

namespace Sys2Proof.Machine

/-- `vfadd.VV` (06 Table 06-5). -/
def execVfaddVv (d a b : Reg) (m : Bool) (st : BitVec 2) (s : State) : Result :=
  vexec 4 st (fVV (.fp .add) d a b m) s

/-- `vfadd.VS` (06 Table 06-5). -/
def execVfaddVs (d a b : Reg) (m : Bool) (st : BitVec 2) (s : State) : Result :=
  vexec 4 st (fVS (.fp .add) d a b m) s

/-- `vfsub.VV` (06 Table 06-5). -/
def execVfsubVv (d a b : Reg) (m : Bool) (st : BitVec 2) (s : State) : Result :=
  vexec 4 st (fVV (.fp .sub) d a b m) s

/-- `vfsub.VS` (06 Table 06-5). -/
def execVfsubVs (d a b : Reg) (m : Bool) (st : BitVec 2) (s : State) : Result :=
  vexec 4 st (fVS (.fp .sub) d a b m) s

/-- `vfmul.VV` (06 Table 06-5). -/
def execVfmulVv (d a b : Reg) (m : Bool) (st : BitVec 2) (s : State) : Result :=
  vexec 4 st (fVV (.fp .mul) d a b m) s

/-- `vfmul.VS` (06 Table 06-5). -/
def execVfmulVs (d a b : Reg) (m : Bool) (st : BitVec 2) (s : State) : Result :=
  vexec 4 st (fVS (.fp .mul) d a b m) s

/-- `vfdiv.VV` (06 Table 06-5). -/
def execVfdivVv (d a b : Reg) (m : Bool) (st : BitVec 2) (s : State) : Result :=
  vexec 4 st (fVV (.fp .div) d a b m) s

/-- `vfdiv.VS` (06 Table 06-5). -/
def execVfdivVs (d a b : Reg) (m : Bool) (st : BitVec 2) (s : State) : Result :=
  vexec 4 st (fVS (.fp .div) d a b m) s

/-- `vfsqrt` (06 Table 06-5). -/
def execVfsqrt (d : Reg) (a : Reg × Option Reg) (m : Bool) (st : BitVec 2) (s : State) : Result :=
  vexec 4 st (fUnary (.fp .sqrt) d a m) s

/-- `vfrsqe` (06 Table 06-5). -/
def execVfrsqe (d : Reg) (a : Reg × Option Reg) (m : Bool) (st : BitVec 2) (s : State) : Result :=
  vexec 4 st (fUnary (.fp .rsqe) d a m) s

/-- `vfrece` (06 Table 06-5). -/
def execVfrece (d : Reg) (a : Reg × Option Reg) (m : Bool) (st : BitVec 2) (s : State) : Result :=
  vexec 4 st (fUnary (.fp .rece) d a m) s

/-- `vfexp` (06 Table 06-5). -/
def execVfexp (d : Reg) (a : Reg × Option Reg) (m : Bool) (st : BitVec 2) (s : State) : Result :=
  vexec 4 st (fUnary (.fp .exp) d a m) s

/-- `vfexp2` (06 Table 06-5). -/
def execVfexp2 (d : Reg) (a : Reg × Option Reg) (m : Bool) (st : BitVec 2) (s : State) : Result :=
  vexec 4 st (fUnary (.fp .exp2) d a m) s

/-- `vflog2` (06 Table 06-5). -/
def execVflog2 (d : Reg) (a : Reg × Option Reg) (m : Bool) (st : BitVec 2) (s : State) : Result :=
  vexec 4 st (fUnary (.fp .log2) d a m) s

/-- `vfmin.VV` (06 Table 06-5). -/
def execVfminVv (d a b : Reg) (m : Bool) (st : BitVec 2) (s : State) : Result :=
  vexec 4 st (fVV (.fp .min) d a b m) s

/-- `vfmin.VS` (06 Table 06-5). -/
def execVfminVs (d a b : Reg) (m : Bool) (st : BitVec 2) (s : State) : Result :=
  vexec 4 st (fVS (.fp .min) d a b m) s

/-- `vfmax.VV` (06 Table 06-5). -/
def execVfmaxVv (d a b : Reg) (m : Bool) (st : BitVec 2) (s : State) : Result :=
  vexec 4 st (fVV (.fp .max) d a b m) s

/-- `vfmax.VS` (06 Table 06-5). -/
def execVfmaxVs (d a b : Reg) (m : Bool) (st : BitVec 2) (s : State) : Result :=
  vexec 4 st (fVS (.fp .max) d a b m) s

/-- `vfsgnj.VV` (06 Table 06-5). -/
def execVfsgnjVv (d a b : Reg) (m : Bool) (st : BitVec 2) (s : State) : Result :=
  vexec 4 st (fVV (.fp .sgnj) d a b m) s

/-- `vfsgnj.VS` (06 Table 06-5). -/
def execVfsgnjVs (d a b : Reg) (m : Bool) (st : BitVec 2) (s : State) : Result :=
  vexec 4 st (fVS (.fp .sgnj) d a b m) s

/-- `vfsgnjn.VV` (06 Table 06-5). -/
def execVfsgnjnVv (d a b : Reg) (m : Bool) (st : BitVec 2) (s : State) : Result :=
  vexec 4 st (fVV (.fp .sgnjn) d a b m) s

/-- `vfsgnjn.VS` (06 Table 06-5). -/
def execVfsgnjnVs (d a b : Reg) (m : Bool) (st : BitVec 2) (s : State) : Result :=
  vexec 4 st (fVS (.fp .sgnjn) d a b m) s

/-- `vfsgnjx.VV` (06 Table 06-5). -/
def execVfsgnjxVv (d a b : Reg) (m : Bool) (st : BitVec 2) (s : State) : Result :=
  vexec 4 st (fVV (.fp .sgnjx) d a b m) s

/-- `vfsgnjx.VS` (06 Table 06-5). -/
def execVfsgnjxVs (d a b : Reg) (m : Bool) (st : BitVec 2) (s : State) : Result :=
  vexec 4 st (fVS (.fp .sgnjx) d a b m) s

/-- `vfeq.VV` (06 Table 06-5). -/
def execVfeqVv (d a b : Reg) (m : Bool) (st : BitVec 2) (s : State) : Result :=
  vexec 4 st (fVV (.fcmp .eq) d a b m) s

/-- `vfeq.VS` (06 Table 06-5). -/
def execVfeqVs (d a b : Reg) (m : Bool) (st : BitVec 2) (s : State) : Result :=
  vexec 4 st (fVS (.fcmp .eq) d a b m) s

/-- `vfne.VV` (06 Table 06-5). -/
def execVfneVv (d a b : Reg) (m : Bool) (st : BitVec 2) (s : State) : Result :=
  vexec 4 st (fVV (.fcmp .ne) d a b m) s

/-- `vfne.VS` (06 Table 06-5). -/
def execVfneVs (d a b : Reg) (m : Bool) (st : BitVec 2) (s : State) : Result :=
  vexec 4 st (fVS (.fcmp .ne) d a b m) s

/-- `vflt.VV` (06 Table 06-5). -/
def execVfltVv (d a b : Reg) (m : Bool) (st : BitVec 2) (s : State) : Result :=
  vexec 4 st (fVV (.fcmp .lt) d a b m) s

/-- `vflt.VS` (06 Table 06-5). -/
def execVfltVs (d a b : Reg) (m : Bool) (st : BitVec 2) (s : State) : Result :=
  vexec 4 st (fVS (.fcmp .lt) d a b m) s

/-- `vfle.VV` (06 Table 06-5). -/
def execVfleVv (d a b : Reg) (m : Bool) (st : BitVec 2) (s : State) : Result :=
  vexec 4 st (fVV (.fcmp .le) d a b m) s

/-- `vfle.VS` (06 Table 06-5). -/
def execVfleVs (d a b : Reg) (m : Bool) (st : BitVec 2) (s : State) : Result :=
  vexec 4 st (fVS (.fcmp .le) d a b m) s

/-- `vfclass` (06 Table 06-5). -/
def execVfclass (d : Reg) (a : Reg × Option Reg) (m : Bool) (st : BitVec 2) (s : State) : Result :=
  vexec 4 st (fUnary (.fp .cls) d a m) s

/-- `vfcvt` (06 R159). -/
def execVfcvt (d : Reg) (a : Reg × Option Reg) (m : Bool) (st : BitVec 2) (s : State) : Result :=
  vexec 4 st (fUnary .fcvt d a m) s

/-- `vfround` (06 Table 06-5). -/
def execVfround (d : Reg) (a : Reg × Option Reg) (m : Bool) (st : BitVec 2) (s : State) : Result :=
  vexec 4 st (fUnary (.fp .round) d a m) s

/-- `vfmerge.VV` (06 Table 06-5). -/
def execVfmergeVv (d : Reg × Bool) (a b : Reg) (st : BitVec 2) (s : State) : Result :=
  vexec 4 st (fVV .fmerge d.1 a b d.2) s

/-- `vfmerge.VS` (06 Table 06-5). -/
def execVfmergeVs (d : Reg × Bool) (a b : Reg) (st : BitVec 2) (s : State) : Result :=
  vexec 4 st (fVS .fmerge d.1 a b d.2) s

end Sys2Proof.Machine
end

