-- ==== Sys2Proof/Machine/VecInt.lean ====
section
/-! DEFINITION. Vector integer members of the 32-bit majors (06 R156, R157, Table 06-3).
Each enters the queue with its form; the unit gives it its effect. -/

namespace Sys2Proof.Machine

/-- `vadd.VV` (06 Table 06-3). -/
def execVaddVv (d a b : Reg) (m : Bool) (st : BitVec 2) (s : State) : Result :=
  vexec 4 st (fVV (.int .add) d a b m) s

/-- `vadd.VS` (06 Table 06-3). -/
def execVaddVs (d a b : Reg) (m : Bool) (st : BitVec 2) (s : State) : Result :=
  vexec 4 st (fVS (.int .add) d a b m) s

/-- `vadd.VI` (06 Table 06-3). -/
def execVaddVi (d b i : Reg) (m : Bool) (st : BitVec 2) (s : State) : Result :=
  vexec 4 st (fVI (.int .add) d b i m) s

/-- `vsub.VV` (06 Table 06-3). -/
def execVsubVv (d a b : Reg) (m : Bool) (st : BitVec 2) (s : State) : Result :=
  vexec 4 st (fVV (.int .sub) d a b m) s

/-- `vsub.VS` (06 Table 06-3). -/
def execVsubVs (d a b : Reg) (m : Bool) (st : BitVec 2) (s : State) : Result :=
  vexec 4 st (fVS (.int .sub) d a b m) s

/-- `vsub.VI` (06 Table 06-3). -/
def execVsubVi (d b i : Reg) (m : Bool) (st : BitVec 2) (s : State) : Result :=
  vexec 4 st (fVI (.int .sub) d b i m) s

/-- `vrsub.VV` (06 Table 06-3). -/
def execVrsubVv (d a b : Reg) (m : Bool) (st : BitVec 2) (s : State) : Result :=
  vexec 4 st (fVV (.int .rsub) d a b m) s

/-- `vrsub.VS` (06 Table 06-3). -/
def execVrsubVs (d a b : Reg) (m : Bool) (st : BitVec 2) (s : State) : Result :=
  vexec 4 st (fVS (.int .rsub) d a b m) s

/-- `vrsub.VI` (06 Table 06-3). -/
def execVrsubVi (d b i : Reg) (m : Bool) (st : BitVec 2) (s : State) : Result :=
  vexec 4 st (fVI (.int .rsub) d b i m) s

/-- `vmul.VV` (06 Table 06-3). -/
def execVmulVv (d a b : Reg) (m : Bool) (st : BitVec 2) (s : State) : Result :=
  vexec 4 st (fVV (.int .mul) d a b m) s

/-- `vmul.VS` (06 Table 06-3). -/
def execVmulVs (d a b : Reg) (m : Bool) (st : BitVec 2) (s : State) : Result :=
  vexec 4 st (fVS (.int .mul) d a b m) s

/-- `vmul.VI` (06 Table 06-3). -/
def execVmulVi (d b i : Reg) (m : Bool) (st : BitVec 2) (s : State) : Result :=
  vexec 4 st (fVI (.int .mul) d b i m) s

/-- `vmulh.VV` (06 Table 06-3). -/
def execVmulhVv (d a b : Reg) (m : Bool) (st : BitVec 2) (s : State) : Result :=
  vexec 4 st (fVV (.int .mulh) d a b m) s

/-- `vmulh.VS` (06 Table 06-3). -/
def execVmulhVs (d a b : Reg) (m : Bool) (st : BitVec 2) (s : State) : Result :=
  vexec 4 st (fVS (.int .mulh) d a b m) s

/-- `vmulh.VI` (06 Table 06-3). -/
def execVmulhVi (d b i : Reg) (m : Bool) (st : BitVec 2) (s : State) : Result :=
  vexec 4 st (fVI (.int .mulh) d b i m) s

/-- `vmulhn.VV` (06 Table 06-3). -/
def execVmulhnVv (d a b : Reg) (m : Bool) (st : BitVec 2) (s : State) : Result :=
  vexec 4 st (fVV (.int .mulhn) d a b m) s

/-- `vmulhn.VS` (06 Table 06-3). -/
def execVmulhnVs (d a b : Reg) (m : Bool) (st : BitVec 2) (s : State) : Result :=
  vexec 4 st (fVS (.int .mulhn) d a b m) s

/-- `vmulhn.VI` (06 Table 06-3). -/
def execVmulhnVi (d b i : Reg) (m : Bool) (st : BitVec 2) (s : State) : Result :=
  vexec 4 st (fVI (.int .mulhn) d b i m) s

/-- `vmac.VV` (06 Table 06-3). -/
def execVmacVv (d a b : Reg) (m : Bool) (st : BitVec 2) (s : State) : Result :=
  vexec 4 st (fVV (.int .mac) d a b m) s

/-- `vmac.VS` (06 Table 06-3). -/
def execVmacVs (d a b : Reg) (m : Bool) (st : BitVec 2) (s : State) : Result :=
  vexec 4 st (fVS (.int .mac) d a b m) s

/-- `vmac.VI` (06 Table 06-3). -/
def execVmacVi (d b i : Reg) (m : Bool) (st : BitVec 2) (s : State) : Result :=
  vexec 4 st (fVI (.int .mac) d b i m) s

/-- `vand.VV` (06 Table 06-3). -/
def execVandVv (d a b : Reg) (m : Bool) (st : BitVec 2) (s : State) : Result :=
  vexec 4 st (fVV (.int .and) d a b m) s

/-- `vand.VS` (06 Table 06-3). -/
def execVandVs (d a b : Reg) (m : Bool) (st : BitVec 2) (s : State) : Result :=
  vexec 4 st (fVS (.int .and) d a b m) s

/-- `vand.VI` (06 Table 06-3). -/
def execVandVi (d b i : Reg) (m : Bool) (st : BitVec 2) (s : State) : Result :=
  vexec 4 st (fVI (.int .and) d b i m) s

/-- `vor.VV` (06 Table 06-3). -/
def execVorVv (d a b : Reg) (m : Bool) (st : BitVec 2) (s : State) : Result :=
  vexec 4 st (fVV (.int .or) d a b m) s

/-- `vor.VS` (06 Table 06-3). -/
def execVorVs (d a b : Reg) (m : Bool) (st : BitVec 2) (s : State) : Result :=
  vexec 4 st (fVS (.int .or) d a b m) s

/-- `vor.VI` (06 Table 06-3). -/
def execVorVi (d b i : Reg) (m : Bool) (st : BitVec 2) (s : State) : Result :=
  vexec 4 st (fVI (.int .or) d b i m) s

/-- `vxor.VV` (06 Table 06-3). -/
def execVxorVv (d a b : Reg) (m : Bool) (st : BitVec 2) (s : State) : Result :=
  vexec 4 st (fVV (.int .xor) d a b m) s

/-- `vxor.VS` (06 Table 06-3). -/
def execVxorVs (d a b : Reg) (m : Bool) (st : BitVec 2) (s : State) : Result :=
  vexec 4 st (fVS (.int .xor) d a b m) s

/-- `vxor.VI` (06 Table 06-3). -/
def execVxorVi (d b i : Reg) (m : Bool) (st : BitVec 2) (s : State) : Result :=
  vexec 4 st (fVI (.int .xor) d b i m) s

/-- `vsll.VV` (06 Table 06-3). -/
def execVsllVv (d a b : Reg) (m : Bool) (st : BitVec 2) (s : State) : Result :=
  vexec 4 st (fVV (.int .sll) d a b m) s

/-- `vsll.VS` (06 Table 06-3). -/
def execVsllVs (d a b : Reg) (m : Bool) (st : BitVec 2) (s : State) : Result :=
  vexec 4 st (fVS (.int .sll) d a b m) s

/-- `vsll.VI` (06 Table 06-3). -/
def execVsllVi (d b i : Reg) (m : Bool) (st : BitVec 2) (s : State) : Result :=
  vexec 4 st (fVI (.int .sll) d b i m) s

/-- `vsrl.VV` (06 Table 06-3). -/
def execVsrlVv (d a b : Reg) (m : Bool) (st : BitVec 2) (s : State) : Result :=
  vexec 4 st (fVV (.int .srl) d a b m) s

/-- `vsrl.VS` (06 Table 06-3). -/
def execVsrlVs (d a b : Reg) (m : Bool) (st : BitVec 2) (s : State) : Result :=
  vexec 4 st (fVS (.int .srl) d a b m) s

/-- `vsrl.VI` (06 Table 06-3). -/
def execVsrlVi (d b i : Reg) (m : Bool) (st : BitVec 2) (s : State) : Result :=
  vexec 4 st (fVI (.int .srl) d b i m) s

/-- `vsra.VV` (06 Table 06-3). -/
def execVsraVv (d a b : Reg) (m : Bool) (st : BitVec 2) (s : State) : Result :=
  vexec 4 st (fVV (.int .sra) d a b m) s

/-- `vsra.VS` (06 Table 06-3). -/
def execVsraVs (d a b : Reg) (m : Bool) (st : BitVec 2) (s : State) : Result :=
  vexec 4 st (fVS (.int .sra) d a b m) s

/-- `vsra.VI` (06 Table 06-3). -/
def execVsraVi (d b i : Reg) (m : Bool) (st : BitVec 2) (s : State) : Result :=
  vexec 4 st (fVI (.int .sra) d b i m) s

/-- `vmin.VV` (06 Table 06-3). -/
def execVminVv (d a b : Reg) (m : Bool) (st : BitVec 2) (s : State) : Result :=
  vexec 4 st (fVV (.int .min) d a b m) s

/-- `vmin.VS` (06 Table 06-3). -/
def execVminVs (d a b : Reg) (m : Bool) (st : BitVec 2) (s : State) : Result :=
  vexec 4 st (fVS (.int .min) d a b m) s

/-- `vmin.VI` (06 Table 06-3). -/
def execVminVi (d b i : Reg) (m : Bool) (st : BitVec 2) (s : State) : Result :=
  vexec 4 st (fVI (.int .min) d b i m) s

/-- `vmax.VV` (06 Table 06-3). -/
def execVmaxVv (d a b : Reg) (m : Bool) (st : BitVec 2) (s : State) : Result :=
  vexec 4 st (fVV (.int .max) d a b m) s

/-- `vmax.VS` (06 Table 06-3). -/
def execVmaxVs (d a b : Reg) (m : Bool) (st : BitVec 2) (s : State) : Result :=
  vexec 4 st (fVS (.int .max) d a b m) s

/-- `vmax.VI` (06 Table 06-3). -/
def execVmaxVi (d b i : Reg) (m : Bool) (st : BitVec 2) (s : State) : Result :=
  vexec 4 st (fVI (.int .max) d b i m) s

/-- `vminn.VV` (06 Table 06-3). -/
def execVminnVv (d a b : Reg) (m : Bool) (st : BitVec 2) (s : State) : Result :=
  vexec 4 st (fVV (.int .minn) d a b m) s

/-- `vminn.VS` (06 Table 06-3). -/
def execVminnVs (d a b : Reg) (m : Bool) (st : BitVec 2) (s : State) : Result :=
  vexec 4 st (fVS (.int .minn) d a b m) s

/-- `vminn.VI` (06 Table 06-3). -/
def execVminnVi (d b i : Reg) (m : Bool) (st : BitVec 2) (s : State) : Result :=
  vexec 4 st (fVI (.int .minn) d b i m) s

/-- `vmaxn.VV` (06 Table 06-3). -/
def execVmaxnVv (d a b : Reg) (m : Bool) (st : BitVec 2) (s : State) : Result :=
  vexec 4 st (fVV (.int .maxn) d a b m) s

/-- `vmaxn.VS` (06 Table 06-3). -/
def execVmaxnVs (d a b : Reg) (m : Bool) (st : BitVec 2) (s : State) : Result :=
  vexec 4 st (fVS (.int .maxn) d a b m) s

/-- `vmaxn.VI` (06 Table 06-3). -/
def execVmaxnVi (d b i : Reg) (m : Bool) (st : BitVec 2) (s : State) : Result :=
  vexec 4 st (fVI (.int .maxn) d b i m) s

/-- `vdiv.VV` (06 Table 06-3). -/
def execVdivVv (d a b : Reg) (m : Bool) (st : BitVec 2) (s : State) : Result :=
  vexec 4 st (fVV (.int .div) d a b m) s

/-- `vdiv.VS` (06 Table 06-3). -/
def execVdivVs (d a b : Reg) (m : Bool) (st : BitVec 2) (s : State) : Result :=
  vexec 4 st (fVS (.int .div) d a b m) s

/-- `vdiv.VI` (06 Table 06-3). -/
def execVdivVi (d b i : Reg) (m : Bool) (st : BitVec 2) (s : State) : Result :=
  vexec 4 st (fVI (.int .div) d b i m) s

/-- `vdivn.VV` (06 Table 06-3). -/
def execVdivnVv (d a b : Reg) (m : Bool) (st : BitVec 2) (s : State) : Result :=
  vexec 4 st (fVV (.int .divn) d a b m) s

/-- `vdivn.VS` (06 Table 06-3). -/
def execVdivnVs (d a b : Reg) (m : Bool) (st : BitVec 2) (s : State) : Result :=
  vexec 4 st (fVS (.int .divn) d a b m) s

/-- `vdivn.VI` (06 Table 06-3). -/
def execVdivnVi (d b i : Reg) (m : Bool) (st : BitVec 2) (s : State) : Result :=
  vexec 4 st (fVI (.int .divn) d b i m) s

/-- `vrem.VV` (06 Table 06-3). -/
def execVremVv (d a b : Reg) (m : Bool) (st : BitVec 2) (s : State) : Result :=
  vexec 4 st (fVV (.int .rem) d a b m) s

/-- `vrem.VS` (06 Table 06-3). -/
def execVremVs (d a b : Reg) (m : Bool) (st : BitVec 2) (s : State) : Result :=
  vexec 4 st (fVS (.int .rem) d a b m) s

/-- `vrem.VI` (06 Table 06-3). -/
def execVremVi (d b i : Reg) (m : Bool) (st : BitVec 2) (s : State) : Result :=
  vexec 4 st (fVI (.int .rem) d b i m) s

/-- `vremn.VV` (06 Table 06-3). -/
def execVremnVv (d a b : Reg) (m : Bool) (st : BitVec 2) (s : State) : Result :=
  vexec 4 st (fVV (.int .remn) d a b m) s

/-- `vremn.VS` (06 Table 06-3). -/
def execVremnVs (d a b : Reg) (m : Bool) (st : BitVec 2) (s : State) : Result :=
  vexec 4 st (fVS (.int .remn) d a b m) s

/-- `vremn.VI` (06 Table 06-3). -/
def execVremnVi (d b i : Reg) (m : Bool) (st : BitVec 2) (s : State) : Result :=
  vexec 4 st (fVI (.int .remn) d b i m) s

/-- `vsadd.VV` (06 Table 06-3). -/
def execVsaddVv (d a b : Reg) (m : Bool) (st : BitVec 2) (s : State) : Result :=
  vexec 4 st (fVV (.int .sadd) d a b m) s

/-- `vsadd.VS` (06 Table 06-3). -/
def execVsaddVs (d a b : Reg) (m : Bool) (st : BitVec 2) (s : State) : Result :=
  vexec 4 st (fVS (.int .sadd) d a b m) s

/-- `vsadd.VI` (06 Table 06-3). -/
def execVsaddVi (d b i : Reg) (m : Bool) (st : BitVec 2) (s : State) : Result :=
  vexec 4 st (fVI (.int .sadd) d b i m) s

/-- `vssub.VV` (06 Table 06-3). -/
def execVssubVv (d a b : Reg) (m : Bool) (st : BitVec 2) (s : State) : Result :=
  vexec 4 st (fVV (.int .ssub) d a b m) s

/-- `vssub.VS` (06 Table 06-3). -/
def execVssubVs (d a b : Reg) (m : Bool) (st : BitVec 2) (s : State) : Result :=
  vexec 4 st (fVS (.int .ssub) d a b m) s

/-- `vssub.VI` (06 Table 06-3). -/
def execVssubVi (d b i : Reg) (m : Bool) (st : BitVec 2) (s : State) : Result :=
  vexec 4 st (fVI (.int .ssub) d b i m) s

/-- `vmerge.VV` (06 R157). -/
def execVmergeVv (d : Reg × Bool) (a b : Reg) (st : BitVec 2) (s : State) : Result :=
  vexec 4 st (fVV .merge d.1 a b d.2) s

/-- `vmerge.VS` (06 R157). -/
def execVmergeVs (d : Reg × Bool) (a b : Reg) (st : BitVec 2) (s : State) : Result :=
  vexec 4 st (fVS .merge d.1 a b d.2) s

/-- `vmerge.VI` (06 R157). -/
def execVmergeVi (d : Reg × Bool) (b i : Reg) (st : BitVec 2) (s : State) : Result :=
  vexec 4 st (fVI .merge d.1 b i d.2) s

/-- `vmv.VV` (06 R157). -/
def execVmvVv (d a : Reg) (m : Bool) (st : BitVec 2) (s : State) : Result :=
  vexec 4 st (fUn .mv d a m) s

/-- `vmv.VS` (06 R157). -/
def execVmvVs (d a : Reg) (m : Bool) (st : BitVec 2) (s : State) : Result :=
  vexec 4 st (fMvS d a m) s

/-- `vmv.VI` (06 R157). -/
def execVmvVi (d i : Reg) (m : Bool) (st : BitVec 2) (s : State) : Result :=
  vexec 4 st (fMvI d i m) s

/-- `vseq.VV` (06 Table 06-3). -/
def execVseqVv (d a b : Reg) (m : Bool) (st : BitVec 2) (s : State) : Result :=
  vexec 4 st (fVV (.icmp .eq) d a b m) s

/-- `vseq.VS` (06 Table 06-3). -/
def execVseqVs (d a b : Reg) (m : Bool) (st : BitVec 2) (s : State) : Result :=
  vexec 4 st (fVS (.icmp .eq) d a b m) s

/-- `vseq.VI` (06 Table 06-3). -/
def execVseqVi (d b i : Reg) (m : Bool) (st : BitVec 2) (s : State) : Result :=
  vexec 4 st (fVI (.icmp .eq) d b i m) s

/-- `vsne.VV` (06 Table 06-3). -/
def execVsneVv (d a b : Reg) (m : Bool) (st : BitVec 2) (s : State) : Result :=
  vexec 4 st (fVV (.icmp .ne) d a b m) s

/-- `vsne.VS` (06 Table 06-3). -/
def execVsneVs (d a b : Reg) (m : Bool) (st : BitVec 2) (s : State) : Result :=
  vexec 4 st (fVS (.icmp .ne) d a b m) s

/-- `vsne.VI` (06 Table 06-3). -/
def execVsneVi (d b i : Reg) (m : Bool) (st : BitVec 2) (s : State) : Result :=
  vexec 4 st (fVI (.icmp .ne) d b i m) s

/-- `vslt.VV` (06 Table 06-3). -/
def execVsltVv (d a b : Reg) (m : Bool) (st : BitVec 2) (s : State) : Result :=
  vexec 4 st (fVV (.icmp .lt) d a b m) s

/-- `vslt.VS` (06 Table 06-3). -/
def execVsltVs (d a b : Reg) (m : Bool) (st : BitVec 2) (s : State) : Result :=
  vexec 4 st (fVS (.icmp .lt) d a b m) s

/-- `vslt.VI` (06 Table 06-3). -/
def execVsltVi (d b i : Reg) (m : Bool) (st : BitVec 2) (s : State) : Result :=
  vexec 4 st (fVI (.icmp .lt) d b i m) s

/-- `vsltn.VV` (06 Table 06-3). -/
def execVsltnVv (d a b : Reg) (m : Bool) (st : BitVec 2) (s : State) : Result :=
  vexec 4 st (fVV (.icmp .ltn) d a b m) s

/-- `vsltn.VS` (06 Table 06-3). -/
def execVsltnVs (d a b : Reg) (m : Bool) (st : BitVec 2) (s : State) : Result :=
  vexec 4 st (fVS (.icmp .ltn) d a b m) s

/-- `vsltn.VI` (06 Table 06-3). -/
def execVsltnVi (d b i : Reg) (m : Bool) (st : BitVec 2) (s : State) : Result :=
  vexec 4 st (fVI (.icmp .ltn) d b i m) s

/-- `vsle.VV` (06 Table 06-3). -/
def execVsleVv (d a b : Reg) (m : Bool) (st : BitVec 2) (s : State) : Result :=
  vexec 4 st (fVV (.icmp .le) d a b m) s

/-- `vsle.VS` (06 Table 06-3). -/
def execVsleVs (d a b : Reg) (m : Bool) (st : BitVec 2) (s : State) : Result :=
  vexec 4 st (fVS (.icmp .le) d a b m) s

/-- `vsle.VI` (06 Table 06-3). -/
def execVsleVi (d b i : Reg) (m : Bool) (st : BitVec 2) (s : State) : Result :=
  vexec 4 st (fVI (.icmp .le) d b i m) s

/-- `vslen.VV` (06 Table 06-3). -/
def execVslenVv (d a b : Reg) (m : Bool) (st : BitVec 2) (s : State) : Result :=
  vexec 4 st (fVV (.icmp .len) d a b m) s

/-- `vslen.VS` (06 Table 06-3). -/
def execVslenVs (d a b : Reg) (m : Bool) (st : BitVec 2) (s : State) : Result :=
  vexec 4 st (fVS (.icmp .len) d a b m) s

/-- `vslen.VI` (06 Table 06-3). -/
def execVslenVi (d b i : Reg) (m : Bool) (st : BitVec 2) (s : State) : Result :=
  vexec 4 st (fVI (.icmp .len) d b i m) s

end Sys2Proof.Machine
end

