-- ==== Sys2Proof/Machine/VecLdx.lean ====
section
/-! DEFINITION. Quantised, FP16 and segment forms (07 R183 to R187).
Each enters the queue with its form; the unit gives it its effect. -/

namespace Sys2Proof.Machine

/-- `vldq` (07 R184). -/
def execVldq (d a : Reg) (q8 : Bool) (grp : BitVec 2) (dm : BitVec 8) (me : Bool) (mi cls : BitVec 4) (st : BitVec 2) (s : State) : Result :=
  vexec 8 st (fX (.ldq q8 grp.toNat) d 0 a dm me mi cls) s

/-- `vstq` (07 R185). -/
def execVstq (e a : Reg) (q8 : Bool) (grp : BitVec 2) (dm : BitVec 8) (me : Bool) (mi cls : BitVec 4) (st : BitVec 2) (s : State) : Result :=
  vexec 8 st (fX (.stq q8 grp.toNat) 0 e a dm me mi cls) s

/-- `vldf16` (07 R186). -/
def execVldf16 (d a : Reg) (dm : BitVec 8) (me : Bool) (mi cls : BitVec 4) (st : BitVec 2) (s : State) : Result :=
  vexec 8 st (fX .ldf16 d 0 a dm me mi cls) s

/-- `vstf16` (07 R186). -/
def execVstf16 (e a : Reg) (dm : BitVec 8) (me : Bool) (mi cls : BitVec 4) (st : BitVec 2) (s : State) : Result :=
  vexec 8 st (fX .stf16 0 e a dm me mi cls) s

/-- `vlseg` (07 R187). -/
def execVlseg (d a : Reg) (f : BitVec 3) (w : BitVec 2) (dm : BitVec 8) (me : Bool) (mi cls : BitVec 4) (st : BitVec 2) (s : State) : Result :=
  vexec 8 st (fX (.ldseg (f.toNat + 1) (2 ^ w.toNat)) d 0 a dm me mi cls) s

/-- `vsseg` (07 R187). -/
def execVsseg (e a : Reg) (f : BitVec 3) (w : BitVec 2) (dm : BitVec 8) (me : Bool) (mi cls : BitVec 4) (st : BitVec 2) (s : State) : Result :=
  vexec 8 st (fX (.stseg (f.toNat + 1) (2 ^ w.toNat)) 0 e a dm me mi cls) s

end Sys2Proof.Machine
end

