-- ==== Sys2Proof/Machine/VecMask.lean ====
section
/-! DEFINITION. Mask operations (06 R171, Table 06-9).
Each enters the queue with its form; the unit gives it its effect. -/

namespace Sys2Proof.Machine

/-- `mand` (06 Table 06-9). -/
def execMand (d a b : Reg) (st : BitVec 2) (s : State) : Result :=
  vexec 4 st (fVV (.mask .and) d a b false) s

/-- `mor` (06 Table 06-9). -/
def execMor (d a b : Reg) (st : BitVec 2) (s : State) : Result :=
  vexec 4 st (fVV (.mask .or) d a b false) s

/-- `mxor` (06 Table 06-9). -/
def execMxor (d a b : Reg) (st : BitVec 2) (s : State) : Result :=
  vexec 4 st (fVV (.mask .xor) d a b false) s

/-- `mandn` (06 Table 06-9). -/
def execMandn (d a b : Reg) (st : BitVec 2) (s : State) : Result :=
  vexec 4 st (fVV (.mask .andn) d a b false) s

/-- `mnot` (06 Table 06-9). -/
def execMnot (d a : Reg) (st : BitVec 2) (s : State) : Result :=
  vexec 4 st (fUn (.mask .not) d a false) s

/-- `mset` (06 Table 06-9). -/
def execMset (d : Reg) (st : BitVec 2) (s : State) : Result :=
  vexec 4 st (fUn (.mask .set) d 0 false) s

/-- `mclr` (06 Table 06-9). -/
def execMclr (d : Reg) (st : BitVec 2) (s : State) : Result :=
  vexec 4 st (fUn (.mask .clr) d 0 false) s

/-- `mmv` (06 Table 06-9). -/
def execMmv (d a : Reg) (st : BitVec 2) (s : State) : Result :=
  vexec 4 st (fUn (.mask .mv) d a false) s

/-- `mpop` (06 Table 06-9). -/
def execMpop (d a : Reg) (st : BitVec 2) (s : State) : Result :=
  vexec 4 st (fToG (.mask .pop) d a) s

/-- `mfirst` (06 Table 06-9). -/
def execMfirst (d a : Reg) (st : BitVec 2) (s : State) : Result :=
  vexec 4 st (fToG (.mask .first) d a) s

/-- `msbf` (06 Table 06-9). -/
def execMsbf (d a : Reg) (st : BitVec 2) (s : State) : Result :=
  vexec 4 st (fUn (.mask .sbf) d a false) s

/-- `mfromv` (06 Table 06-9). -/
def execMfromv (d a : Reg) (st : BitVec 2) (s : State) : Result :=
  vexec 4 st (fUn (.mask .fromv) d a false) s

/-- `mtov` (06 Table 06-9). -/
def execMtov (d a : Reg) (st : BitVec 2) (s : State) : Result :=
  vexec 4 st (fUn (.mask .tov) d a false) s

end Sys2Proof.Machine
end

