-- ==== Sys2Proof/Machine/VecMemInstr.lean ====
section
/-! DEFINITION. Vector loads and stores (07 R179 to R182, Table 07-3).
Each enters the queue with its form; the unit gives it its effect. -/

namespace Sys2Proof.Machine

/-- `vld16` (07 Table 07-3). -/
def execVld16 (d a : Reg) (c : BitVec 4) (m : Bool) (st : BitVec 2) (s : State) : Result :=
  vexec 4 st (fLd (.load .unit 2) d a c m) s

/-- `vlds16` (07 Table 07-3). -/
def execVlds16 (d a b : Reg) (c : BitVec 4) (m : Bool) (st : BitVec 2) (s : State) : Result :=
  vexec 4 st (fLds (.load .stride 2) d a b c m) s

/-- `vldx16` (07 Table 07-3). -/
def execVldx16 (d a b : Reg) (c : BitVec 4) (m : Bool) (st : BitVec 2) (s : State) : Result :=
  vexec 4 st (fLdx (.load .index 2) d a b c m) s

/-- `vldff16` (07 Table 07-3). -/
def execVldff16 (d a : Reg) (c : BitVec 4) (m : Bool) (st : BitVec 2) (s : State) : Result :=
  vexec 4 st (fLd (.loadff 2) d a c m) s

/-- `vld32` (07 Table 07-3). -/
def execVld32 (d a : Reg) (c : BitVec 4) (m : Bool) (st : BitVec 2) (s : State) : Result :=
  vexec 4 st (fLd (.load .unit 4) d a c m) s

/-- `vlds32` (07 Table 07-3). -/
def execVlds32 (d a b : Reg) (c : BitVec 4) (m : Bool) (st : BitVec 2) (s : State) : Result :=
  vexec 4 st (fLds (.load .stride 4) d a b c m) s

/-- `vldx32` (07 Table 07-3). -/
def execVldx32 (d a b : Reg) (c : BitVec 4) (m : Bool) (st : BitVec 2) (s : State) : Result :=
  vexec 4 st (fLdx (.load .index 4) d a b c m) s

/-- `vldff32` (07 Table 07-3). -/
def execVldff32 (d a : Reg) (c : BitVec 4) (m : Bool) (st : BitVec 2) (s : State) : Result :=
  vexec 4 st (fLd (.loadff 4) d a c m) s

/-- `vld64` (07 Table 07-3). -/
def execVld64 (d a : Reg) (c : BitVec 4) (m : Bool) (st : BitVec 2) (s : State) : Result :=
  vexec 4 st (fLd (.load .unit 8) d a c m) s

/-- `vlds64` (07 Table 07-3). -/
def execVlds64 (d a b : Reg) (c : BitVec 4) (m : Bool) (st : BitVec 2) (s : State) : Result :=
  vexec 4 st (fLds (.load .stride 8) d a b c m) s

/-- `vldx64` (07 Table 07-3). -/
def execVldx64 (d a b : Reg) (c : BitVec 4) (m : Bool) (st : BitVec 2) (s : State) : Result :=
  vexec 4 st (fLdx (.load .index 8) d a b c m) s

/-- `vldff64` (07 Table 07-3). -/
def execVldff64 (d a : Reg) (c : BitVec 4) (m : Bool) (st : BitVec 2) (s : State) : Result :=
  vexec 4 st (fLd (.loadff 8) d a c m) s

/-- `vst16` (07 Table 07-3). -/
def execVst16 (d a : Reg) (c : BitVec 4) (m : Bool) (st : BitVec 2) (s : State) : Result :=
  vexec 4 st (fSt (.store .unit 2 true) d a c m) s

/-- `vsts16` (07 Table 07-3). -/
def execVsts16 (d a b : Reg) (c : BitVec 4) (m : Bool) (st : BitVec 2) (s : State) : Result :=
  vexec 4 st (fSts (.store .stride 2 true) d a b c m) s

/-- `vstxo16` (07 Table 07-3). -/
def execVstxo16 (d a b : Reg) (c : BitVec 4) (m : Bool) (st : BitVec 2) (s : State) : Result :=
  vexec 4 st (fStx (.store .index 2 true) d a b c m) s

/-- `vstxa16` (07 Table 07-3). -/
def execVstxa16 (d a b : Reg) (c : BitVec 4) (m : Bool) (st : BitVec 2) (s : State) : Result :=
  vexec 4 st (fStx (.store .index 2 false) d a b c m) s

/-- `vst32` (07 Table 07-3). -/
def execVst32 (d a : Reg) (c : BitVec 4) (m : Bool) (st : BitVec 2) (s : State) : Result :=
  vexec 4 st (fSt (.store .unit 4 true) d a c m) s

/-- `vsts32` (07 Table 07-3). -/
def execVsts32 (d a b : Reg) (c : BitVec 4) (m : Bool) (st : BitVec 2) (s : State) : Result :=
  vexec 4 st (fSts (.store .stride 4 true) d a b c m) s

/-- `vstxo32` (07 Table 07-3). -/
def execVstxo32 (d a b : Reg) (c : BitVec 4) (m : Bool) (st : BitVec 2) (s : State) : Result :=
  vexec 4 st (fStx (.store .index 4 true) d a b c m) s

/-- `vstxa32` (07 Table 07-3). -/
def execVstxa32 (d a b : Reg) (c : BitVec 4) (m : Bool) (st : BitVec 2) (s : State) : Result :=
  vexec 4 st (fStx (.store .index 4 false) d a b c m) s

/-- `vst64` (07 Table 07-3). -/
def execVst64 (d a : Reg) (c : BitVec 4) (m : Bool) (st : BitVec 2) (s : State) : Result :=
  vexec 4 st (fSt (.store .unit 8 true) d a c m) s

/-- `vsts64` (07 Table 07-3). -/
def execVsts64 (d a b : Reg) (c : BitVec 4) (m : Bool) (st : BitVec 2) (s : State) : Result :=
  vexec 4 st (fSts (.store .stride 8 true) d a b c m) s

/-- `vstxo64` (07 Table 07-3). -/
def execVstxo64 (d a b : Reg) (c : BitVec 4) (m : Bool) (st : BitVec 2) (s : State) : Result :=
  vexec 4 st (fStx (.store .index 8 true) d a b c m) s

/-- `vstxa64` (07 Table 07-3). -/
def execVstxa64 (d a b : Reg) (c : BitVec 4) (m : Bool) (st : BitVec 2) (s : State) : Result :=
  vexec 4 st (fStx (.store .index 8 false) d a b c m) s

end Sys2Proof.Machine
end

