-- ==== Sys2Proof/Machine/VecPermInstr.lean ====
section
/-! DEFINITION. Permutes (06 R168 to R170, Table 06-8).
Each enters the queue with its form; the unit gives it its effect. -/

namespace Sys2Proof.Machine

/-- `vslideup` (06 Table 06-8). -/
def execVslideup (d a b : Reg) (m : Bool) (st : BitVec 2) (s : State) : Result :=
  vexec 4 st (fSlide (.perm .slideup) d a b m) s

/-- `vslidedn` (06 Table 06-8). -/
def execVslidedn (d a b : Reg) (m : Bool) (st : BitVec 2) (s : State) : Result :=
  vexec 4 st (fSlide (.perm .slidedn) d a b m) s

/-- `vslide1up` (06 Table 06-8). -/
def execVslide1up (d a b : Reg) (m : Bool) (st : BitVec 2) (s : State) : Result :=
  vexec 4 st (fSlide (.perm .slide1up) d a b m) s

/-- `vslide1dn` (06 Table 06-8). -/
def execVslide1dn (d a b : Reg) (m : Bool) (st : BitVec 2) (s : State) : Result :=
  vexec 4 st (fSlide (.perm .slide1dn) d a b m) s

/-- `vrgath` (06 Table 06-8). -/
def execVrgath (d a b : Reg) (m : Bool) (st : BitVec 2) (s : State) : Result :=
  vexec 4 st (fVV (.perm .rgath) d a b m) s

/-- `vcompress` (06 Table 06-8). -/
def execVcompress (d a : Reg) (m : Bool) (st : BitVec 2) (s : State) : Result :=
  vexec 4 st (fUn (.perm .compress) d a m) s

/-- `vexpand` (06 Table 06-8). -/
def execVexpand (d a : Reg) (m : Bool) (st : BitVec 2) (s : State) : Result :=
  vexec 4 st (fUn (.perm .expand) d a m) s

/-- `vzip` (06 Table 06-8). -/
def execVzip (d a b : Reg) (m : Bool) (st : BitVec 2) (s : State) : Result :=
  vexec 4 st (fVV (.perm .zip) d a b m) s

/-- `vunzipe` (06 Table 06-8). -/
def execVunzipe (d a : Reg) (m : Bool) (st : BitVec 2) (s : State) : Result :=
  vexec 4 st (fUn (.perm .unzipe) d a m) s

/-- `vunzipo` (06 Table 06-8). -/
def execVunzipo (d a : Reg) (m : Bool) (st : BitVec 2) (s : State) : Result :=
  vexec 4 st (fUn (.perm .unzipo) d a m) s

/-- `vdrot` (06 Table 06-8). -/
def execVdrot (d a : Reg) (m : Bool) (st : BitVec 2) (s : State) : Result :=
  vexec 4 st (fUn (.perm .drot) d a m) s

/-- `vsplat` (06 Table 06-8). -/
def execVsplat (d a : Reg) (m : Bool) (st : BitVec 2) (s : State) : Result :=
  vexec 4 st (fScalar (.perm .splat) d a 0 m) s

/-- `vid` (06 Table 06-8). -/
def execVid (d : Reg) (m : Bool) (st : BitVec 2) (s : State) : Result :=
  vexec 4 st (fScalar (.perm .vid) d 0 0 m) s

/-- `vins` (06 Table 06-8). -/
def execVins (d a b : Reg) (m : Bool) (st : BitVec 2) (s : State) : Result :=
  vexec 4 st (fScalar (.perm .ins) d a b m) s

/-- `vext` (06 R170). -/
def execVext (d a b : Reg) (st : BitVec 2) (s : State) : Result :=
  vexec 4 st (fRed .ext d a b false) s

end Sys2Proof.Machine
end

