-- ==== Sys2Proof/Machine/VecRedInstr.lean ====
section
/-! DEFINITION. Reductions, scans and `vsmx` (06 R162 to R167, Table 06-7).
Each enters the queue with its form; the unit gives it its effect. -/

namespace Sys2Proof.Machine

/-- `vredsum` (06 Table 06-7). -/
def execVredsum (d a b : Reg) (m : Bool) (st : BitVec 2) (s : State) : Result :=
  vexec 4 st (fRed (.red .sum) d a b m) s

/-- `vredand` (06 Table 06-7). -/
def execVredand (d a b : Reg) (m : Bool) (st : BitVec 2) (s : State) : Result :=
  vexec 4 st (fRed (.red .and) d a b m) s

/-- `vredor` (06 Table 06-7). -/
def execVredor (d a b : Reg) (m : Bool) (st : BitVec 2) (s : State) : Result :=
  vexec 4 st (fRed (.red .or) d a b m) s

/-- `vredxor` (06 Table 06-7). -/
def execVredxor (d a b : Reg) (m : Bool) (st : BitVec 2) (s : State) : Result :=
  vexec 4 st (fRed (.red .xor) d a b m) s

/-- `vredmin` (06 Table 06-7). -/
def execVredmin (d a b : Reg) (m : Bool) (st : BitVec 2) (s : State) : Result :=
  vexec 4 st (fRed (.red .min) d a b m) s

/-- `vredmax` (06 Table 06-7). -/
def execVredmax (d a b : Reg) (m : Bool) (st : BitVec 2) (s : State) : Result :=
  vexec 4 st (fRed (.red .max) d a b m) s

/-- `vredminn` (06 Table 06-7). -/
def execVredminn (d a b : Reg) (m : Bool) (st : BitVec 2) (s : State) : Result :=
  vexec 4 st (fRed (.red .minn) d a b m) s

/-- `vredmaxn` (06 Table 06-7). -/
def execVredmaxn (d a b : Reg) (m : Bool) (st : BitVec 2) (s : State) : Result :=
  vexec 4 st (fRed (.red .maxn) d a b m) s

/-- `vfredsum` (06 Table 06-7). -/
def execVfredsum (d a b : Reg) (m : Bool) (st : BitVec 2) (s : State) : Result :=
  vexec 4 st (fRed (.red .fsum) d a b m) s

/-- `vfredmin` (06 Table 06-7). -/
def execVfredmin (d a b : Reg) (m : Bool) (st : BitVec 2) (s : State) : Result :=
  vexec 4 st (fRed (.red .fmin) d a b m) s

/-- `vfredmax` (06 Table 06-7). -/
def execVfredmax (d a b : Reg) (m : Bool) (st : BitVec 2) (s : State) : Result :=
  vexec 4 st (fRed (.red .fmax) d a b m) s

/-- `vscan` (06 R165). -/
def execVscan (d a : Reg) (m : Bool) (st : BitVec 2) (s : State) : Result :=
  vexec 4 st (fUn .scan d a m) s

/-- `vfscan` (06 R165). -/
def execVfscan (d a : Reg) (m : Bool) (st : BitVec 2) (s : State) : Result :=
  vexec 4 st (fUn .fscan d a m) s

/-- `vsmx` (06 R166). -/
def execVsmx (d a b : Reg) (m : Bool) (st : BitVec 2) (s : State) : Result :=
  vexec 4 st (fSmx d a b m) s

end Sys2Proof.Machine
end

