-- ==== Sys2Proof/Machine/VxfInstr.lean ====
section
/-! DEFINITION. Members of VXF (07 R199 to R202).
Each enters the queue with its form; the unit gives it its effect. -/

namespace Sys2Proof.Machine

/-- `vpush` (07 R201). -/
def execVpush (d b a : Reg) (dm : BitVec 8) (cls : BitVec 4) (st : BitVec 2) (s : State) : Result :=
  vexec 8 st (fPush d b a dm cls) s

/-- `vtake` (07 R202). -/
def execVtake (d a : Reg) (dm : BitVec 8) (st : BitVec 2) (s : State) : Result :=
  vexec 8 st (fXf .take d a dm) s

/-- `vempty` (07 R202). -/
def execVempty (d : Reg) (dm : BitVec 8) (st : BitVec 2) (s : State) : Result :=
  vexec 8 st (fXf .vempty d 0 dm) s

/-- `vfill` (07 R202). -/
def execVfill (d : Reg) (dm : BitVec 8) (st : BitVec 2) (s : State) : Result :=
  vexec 8 st (fXf .vfill d 0 dm) s

end Sys2Proof.Machine
end

