-- ==== Sys2Proof/Machine/Dispatch.lean ====
section
/-! DEFINITION. Every instruction and device event with its meaning. -/

namespace Sys2Proof.Machine

open Sys2Proof in noncomputable
def exec (i : Instr) (s : State) : Host.Outcome State Fault Refusal :=
  match i with
  | .add d a b st => Sys2Proof.Machine.execAdd d a b st s
  | .sub d a b st => Sys2Proof.Machine.execSub d a b st s
  | .and d a b st => Sys2Proof.Machine.execAnd d a b st s
  | .or d a b st => Sys2Proof.Machine.execOr d a b st s
  | .xor d a b st => Sys2Proof.Machine.execXor d a b st s
  | .andn d a b st => Sys2Proof.Machine.execAndn d a b st s
  | .sll d a b st => Sys2Proof.Machine.execSll d a b st s
  | .srl d a b st => Sys2Proof.Machine.execSrl d a b st s
  | .sra d a b st => Sys2Proof.Machine.execSra d a b st s
  | .ror d a b st => Sys2Proof.Machine.execRor d a b st s
  | .slt d a b st => Sys2Proof.Machine.execSlt d a b st s
  | .sltn d a b st => Sys2Proof.Machine.execSltn d a b st s
  | .min d a b st => Sys2Proof.Machine.execMin d a b st s
  | .max d a b st => Sys2Proof.Machine.execMax d a b st s
  | .minn d a b st => Sys2Proof.Machine.execMinn d a b st s
  | .maxn d a b st => Sys2Proof.Machine.execMaxn d a b st s
  | .mul d a b st => Sys2Proof.Machine.execMul d a b st s
  | .mulh d a b st => Sys2Proof.Machine.execMulh d a b st s
  | .mulhn d a b st => Sys2Proof.Machine.execMulhn d a b st s
  | .div d a b st => Sys2Proof.Machine.execDiv d a b st s
  | .divn d a b st => Sys2Proof.Machine.execDivn d a b st s
  | .rem d a b st => Sys2Proof.Machine.execRem d a b st s
  | .remn d a b st => Sys2Proof.Machine.execRemn d a b st s
  | .clz d a st => Sys2Proof.Machine.execClz d a st s
  | .ctz d a st => Sys2Proof.Machine.execCtz d a st s
  | .cpop d a st => Sys2Proof.Machine.execCpop d a st s
  | .sextb d a st => Sys2Proof.Machine.execSextb d a st s
  | .sexth d a st => Sys2Proof.Machine.execSexth d a st s
  | .sextw d a st => Sys2Proof.Machine.execSextw d a st s
  | .bswap d a st => Sys2Proof.Machine.execBswap d a st s
  | .csel d a b st => Sys2Proof.Machine.execCsel d a b st s
  | .slli d a h st => Sys2Proof.Machine.execSlli d a h st s
  | .srli d a h st => Sys2Proof.Machine.execSrli d a h st s
  | .srai d a h st => Sys2Proof.Machine.execSrai d a h st s
  | .rori d a h st => Sys2Proof.Machine.execRori d a h st s
  | .addi d a im st => Sys2Proof.Machine.execAddi d a im st s
  | .andi d a im st => Sys2Proof.Machine.execAndi d a im st s
  | .ori d a im st => Sys2Proof.Machine.execOri d a im st s
  | .xori d a im st => Sys2Proof.Machine.execXori d a im st s
  | .slti d a im st => Sys2Proof.Machine.execSlti d a im st s
  | .sltin d a im st => Sys2Proof.Machine.execSltin d a im st s
  | .movhi d im st => Sys2Proof.Machine.execMovhi d im st s
  | .pgrel d im st => Sys2Proof.Machine.execPgrel d im st s
  | .jal d im st => Sys2Proof.Machine.execJal d im st s
  | .jalr d a im st => Sys2Proof.Machine.execJalr d a im st s
  | .beq a b im st => Sys2Proof.Machine.execBeq a b im st s
  | .bne a b im st => Sys2Proof.Machine.execBne a b im st s
  | .blt a b im st => Sys2Proof.Machine.execBlt a b im st s
  | .bge a b im st => Sys2Proof.Machine.execBge a b im st s
  | .bltn a b im st => Sys2Proof.Machine.execBltn a b im st s
  | .bgen a b im st => Sys2Proof.Machine.execBgen a b im st s
  | .sbnz a b im st => Sys2Proof.Machine.execSbnz a b im st s
  | .ld8 d a o c st => Sys2Proof.Machine.execLd8 d a o c st s
  | .ld8s d a o c st => Sys2Proof.Machine.execLd8s d a o c st s
  | .ld16 d a o c st => Sys2Proof.Machine.execLd16 d a o c st s
  | .ld16s d a o c st => Sys2Proof.Machine.execLd16s d a o c st s
  | .ld32 d a o c st => Sys2Proof.Machine.execLd32 d a o c st s
  | .ld32s d a o c st => Sys2Proof.Machine.execLd32s d a o c st s
  | .ld64 d a o c st => Sys2Proof.Machine.execLd64 d a o c st s
  | .st8 d a o c st => Sys2Proof.Machine.execSt8 d a o c st s
  | .st16 d a o c st => Sys2Proof.Machine.execSt16 d a o c st s
  | .st32 d a o c st => Sys2Proof.Machine.execSt32 d a o c st s
  | .st64 d a o c st => Sys2Proof.Machine.execSt64 d a o c st s
  | .fadd d a b p st => Sys2Proof.Machine.execFadd d a b p st s
  | .fsub d a b p st => Sys2Proof.Machine.execFsub d a b p st s
  | .fmul d a b p st => Sys2Proof.Machine.execFmul d a b p st s
  | .fdiv d a b p st => Sys2Proof.Machine.execFdiv d a b p st s
  | .fsqrt d a p st => Sys2Proof.Machine.execFsqrt d a p st s
  | .fmin d a b p st => Sys2Proof.Machine.execFmin d a b p st s
  | .fmax d a b p st => Sys2Proof.Machine.execFmax d a b p st s
  | .feq d a b p st => Sys2Proof.Machine.execFeq d a b p st s
  | .flt d a b p st => Sys2Proof.Machine.execFlt d a b p st s
  | .fle d a b p st => Sys2Proof.Machine.execFle d a b p st s
  | .fclass d a p st => Sys2Proof.Machine.execFclass d a p st s
  | .fsgnj d a b p st => Sys2Proof.Machine.execFsgnj d a b p st s
  | .fsgnjn d a b p st => Sys2Proof.Machine.execFsgnjn d a b p st s
  | .fsgnjx d a b p st => Sys2Proof.Machine.execFsgnjx d a b p st s
  | .fcvtfi d a p st => Sys2Proof.Machine.execFcvtfi d a p st s
  | .fcvtfn d a p st => Sys2Proof.Machine.execFcvtfn d a p st s
  | .fcvtif d a p st => Sys2Proof.Machine.execFcvtif d a p st s
  | .fcvtnf d a p st => Sys2Proof.Machine.execFcvtnf d a p st s
  | .fcvtff d a p st => Sys2Proof.Machine.execFcvtff d a p st s
  | .fcvtbf d a p st => Sys2Proof.Machine.execFcvtbf d a p st s
  | .fcvtfb d a p st => Sys2Proof.Machine.execFcvtfb d a p st s
  | .ffma32 d a b e v st => Sys2Proof.Machine.execFfma32 d a b e v st s
  | .ffma64 d a b e v st => Sys2Proof.Machine.execFfma64 d a b e v st s
  | .svc st => Sys2Proof.Machine.execSvc st s
  | .tret st => Sys2Proof.Machine.execTret st s
  | .brk st => Sys2Proof.Machine.execBrk st s
  | .nap st => Sys2Proof.Machine.execNap st s
  | .kend st => Sys2Proof.Machine.execKend st s
  | .iflush st => Sys2Proof.Machine.execIflush st s
  | .uret st => Sys2Proof.Machine.execUret st s
  | .yield st => Sys2Proof.Machine.execYield st s
  | .iprf a o st => Sys2Proof.Machine.execIprf a o st s
  | .dprf a o c st => Sys2Proof.Machine.execDprf a o c st s
  | .fence k e st => Sys2Proof.Machine.execFence k e st s
  | .fenceacq k e st => Sys2Proof.Machine.execFenceacq k e st s
  | .fencerel k e st => Sys2Proof.Machine.execFencerel k e st s
  | .vdrain k e st => Sys2Proof.Machine.execVdrain k e st s
  | .csrrw d a c st => Sys2Proof.Machine.execCsrrw d a c st s
  | .csrrs d a c st => Sys2Proof.Machine.execCsrrs d a c st s
  | .csrrc d a c st => Sys2Proof.Machine.execCsrrc d a c st s
  | .vsetl d a st => Sys2Proof.Machine.execVsetl d a st s
  | .vsetvt d a st => Sys2Proof.Machine.execVsetvt d a st s
  | .vsetty d t st => Sys2Proof.Machine.execVsetty d t st s
  | .vsetdie a b st => Sys2Proof.Machine.execVsetdie a b st s
  | .vaddVv d a b m st => Sys2Proof.Machine.execVaddVv d a b m st s
  | .vaddVs d a b m st => Sys2Proof.Machine.execVaddVs d a b m st s
  | .vaddVi d b im m st => Sys2Proof.Machine.execVaddVi d b im m st s
  | .vsubVv d a b m st => Sys2Proof.Machine.execVsubVv d a b m st s
  | .vsubVs d a b m st => Sys2Proof.Machine.execVsubVs d a b m st s
  | .vsubVi d b im m st => Sys2Proof.Machine.execVsubVi d b im m st s
  | .vrsubVv d a b m st => Sys2Proof.Machine.execVrsubVv d a b m st s
  | .vrsubVs d a b m st => Sys2Proof.Machine.execVrsubVs d a b m st s
  | .vrsubVi d b im m st => Sys2Proof.Machine.execVrsubVi d b im m st s
  | .vmulVv d a b m st => Sys2Proof.Machine.execVmulVv d a b m st s
  | .vmulVs d a b m st => Sys2Proof.Machine.execVmulVs d a b m st s
  | .vmulVi d b im m st => Sys2Proof.Machine.execVmulVi d b im m st s
  | .vmulhVv d a b m st => Sys2Proof.Machine.execVmulhVv d a b m st s
  | .vmulhVs d a b m st => Sys2Proof.Machine.execVmulhVs d a b m st s
  | .vmulhVi d b im m st => Sys2Proof.Machine.execVmulhVi d b im m st s
  | .vmulhnVv d a b m st => Sys2Proof.Machine.execVmulhnVv d a b m st s
  | .vmulhnVs d a b m st => Sys2Proof.Machine.execVmulhnVs d a b m st s
  | .vmulhnVi d b im m st => Sys2Proof.Machine.execVmulhnVi d b im m st s
  | .vmacVv d a b m st => Sys2Proof.Machine.execVmacVv d a b m st s
  | .vmacVs d a b m st => Sys2Proof.Machine.execVmacVs d a b m st s
  | .vmacVi d b im m st => Sys2Proof.Machine.execVmacVi d b im m st s
  | .vandVv d a b m st => Sys2Proof.Machine.execVandVv d a b m st s
  | .vandVs d a b m st => Sys2Proof.Machine.execVandVs d a b m st s
  | .vandVi d b im m st => Sys2Proof.Machine.execVandVi d b im m st s
  | .vorVv d a b m st => Sys2Proof.Machine.execVorVv d a b m st s
  | .vorVs d a b m st => Sys2Proof.Machine.execVorVs d a b m st s
  | .vorVi d b im m st => Sys2Proof.Machine.execVorVi d b im m st s
  | .vxorVv d a b m st => Sys2Proof.Machine.execVxorVv d a b m st s
  | .vxorVs d a b m st => Sys2Proof.Machine.execVxorVs d a b m st s
  | .vxorVi d b im m st => Sys2Proof.Machine.execVxorVi d b im m st s
  | .vsllVv d a b m st => Sys2Proof.Machine.execVsllVv d a b m st s
  | .vsllVs d a b m st => Sys2Proof.Machine.execVsllVs d a b m st s
  | .vsllVi d b im m st => Sys2Proof.Machine.execVsllVi d b im m st s
  | .vsrlVv d a b m st => Sys2Proof.Machine.execVsrlVv d a b m st s
  | .vsrlVs d a b m st => Sys2Proof.Machine.execVsrlVs d a b m st s
  | .vsrlVi d b im m st => Sys2Proof.Machine.execVsrlVi d b im m st s
  | .vsraVv d a b m st => Sys2Proof.Machine.execVsraVv d a b m st s
  | .vsraVs d a b m st => Sys2Proof.Machine.execVsraVs d a b m st s
  | .vsraVi d b im m st => Sys2Proof.Machine.execVsraVi d b im m st s
  | .vminVv d a b m st => Sys2Proof.Machine.execVminVv d a b m st s
  | .vminVs d a b m st => Sys2Proof.Machine.execVminVs d a b m st s
  | .vminVi d b im m st => Sys2Proof.Machine.execVminVi d b im m st s
  | .vmaxVv d a b m st => Sys2Proof.Machine.execVmaxVv d a b m st s
  | .vmaxVs d a b m st => Sys2Proof.Machine.execVmaxVs d a b m st s
  | .vmaxVi d b im m st => Sys2Proof.Machine.execVmaxVi d b im m st s
  | .vminnVv d a b m st => Sys2Proof.Machine.execVminnVv d a b m st s
  | .vminnVs d a b m st => Sys2Proof.Machine.execVminnVs d a b m st s
  | .vminnVi d b im m st => Sys2Proof.Machine.execVminnVi d b im m st s
  | .vmaxnVv d a b m st => Sys2Proof.Machine.execVmaxnVv d a b m st s
  | .vmaxnVs d a b m st => Sys2Proof.Machine.execVmaxnVs d a b m st s
  | .vmaxnVi d b im m st => Sys2Proof.Machine.execVmaxnVi d b im m st s
  | .vdivVv d a b m st => Sys2Proof.Machine.execVdivVv d a b m st s
  | .vdivVs d a b m st => Sys2Proof.Machine.execVdivVs d a b m st s
  | .vdivVi d b im m st => Sys2Proof.Machine.execVdivVi d b im m st s
  | .vdivnVv d a b m st => Sys2Proof.Machine.execVdivnVv d a b m st s
  | .vdivnVs d a b m st => Sys2Proof.Machine.execVdivnVs d a b m st s
  | .vdivnVi d b im m st => Sys2Proof.Machine.execVdivnVi d b im m st s
  | .vremVv d a b m st => Sys2Proof.Machine.execVremVv d a b m st s
  | .vremVs d a b m st => Sys2Proof.Machine.execVremVs d a b m st s
  | .vremVi d b im m st => Sys2Proof.Machine.execVremVi d b im m st s
  | .vremnVv d a b m st => Sys2Proof.Machine.execVremnVv d a b m st s
  | .vremnVs d a b m st => Sys2Proof.Machine.execVremnVs d a b m st s
  | .vremnVi d b im m st => Sys2Proof.Machine.execVremnVi d b im m st s
  | .vsaddVv d a b m st => Sys2Proof.Machine.execVsaddVv d a b m st s
  | .vsaddVs d a b m st => Sys2Proof.Machine.execVsaddVs d a b m st s
  | .vsaddVi d b im m st => Sys2Proof.Machine.execVsaddVi d b im m st s
  | .vssubVv d a b m st => Sys2Proof.Machine.execVssubVv d a b m st s
  | .vssubVs d a b m st => Sys2Proof.Machine.execVssubVs d a b m st s
  | .vssubVi d b im m st => Sys2Proof.Machine.execVssubVi d b im m st s
  | .vmergeVv d a b st => Sys2Proof.Machine.execVmergeVv d a b st s
  | .vmergeVs d a b st => Sys2Proof.Machine.execVmergeVs d a b st s
  | .vmergeVi d b im st => Sys2Proof.Machine.execVmergeVi d b im st s
  | .vmvVv d a m st => Sys2Proof.Machine.execVmvVv d a m st s
  | .vmvVs d a m st => Sys2Proof.Machine.execVmvVs d a m st s
  | .vmvVi d im m st => Sys2Proof.Machine.execVmvVi d im m st s
  | .vseqVv d a b m st => Sys2Proof.Machine.execVseqVv d a b m st s
  | .vseqVs d a b m st => Sys2Proof.Machine.execVseqVs d a b m st s
  | .vseqVi d b im m st => Sys2Proof.Machine.execVseqVi d b im m st s
  | .vsneVv d a b m st => Sys2Proof.Machine.execVsneVv d a b m st s
  | .vsneVs d a b m st => Sys2Proof.Machine.execVsneVs d a b m st s
  | .vsneVi d b im m st => Sys2Proof.Machine.execVsneVi d b im m st s
  | .vsltVv d a b m st => Sys2Proof.Machine.execVsltVv d a b m st s
  | .vsltVs d a b m st => Sys2Proof.Machine.execVsltVs d a b m st s
  | .vsltVi d b im m st => Sys2Proof.Machine.execVsltVi d b im m st s
  | .vsltnVv d a b m st => Sys2Proof.Machine.execVsltnVv d a b m st s
  | .vsltnVs d a b m st => Sys2Proof.Machine.execVsltnVs d a b m st s
  | .vsltnVi d b im m st => Sys2Proof.Machine.execVsltnVi d b im m st s
  | .vsleVv d a b m st => Sys2Proof.Machine.execVsleVv d a b m st s
  | .vsleVs d a b m st => Sys2Proof.Machine.execVsleVs d a b m st s
  | .vsleVi d b im m st => Sys2Proof.Machine.execVsleVi d b im m st s
  | .vslenVv d a b m st => Sys2Proof.Machine.execVslenVv d a b m st s
  | .vslenVs d a b m st => Sys2Proof.Machine.execVslenVs d a b m st s
  | .vslenVi d b im m st => Sys2Proof.Machine.execVslenVi d b im m st s
  | .vfaddVv d a b m st => Sys2Proof.Machine.execVfaddVv d a b m st s
  | .vfaddVs d a b m st => Sys2Proof.Machine.execVfaddVs d a b m st s
  | .vfsubVv d a b m st => Sys2Proof.Machine.execVfsubVv d a b m st s
  | .vfsubVs d a b m st => Sys2Proof.Machine.execVfsubVs d a b m st s
  | .vfmulVv d a b m st => Sys2Proof.Machine.execVfmulVv d a b m st s
  | .vfmulVs d a b m st => Sys2Proof.Machine.execVfmulVs d a b m st s
  | .vfdivVv d a b m st => Sys2Proof.Machine.execVfdivVv d a b m st s
  | .vfdivVs d a b m st => Sys2Proof.Machine.execVfdivVs d a b m st s
  | .vfsqrt d a m st => Sys2Proof.Machine.execVfsqrt d a m st s
  | .vfrsqe d a m st => Sys2Proof.Machine.execVfrsqe d a m st s
  | .vfrece d a m st => Sys2Proof.Machine.execVfrece d a m st s
  | .vfexp d a m st => Sys2Proof.Machine.execVfexp d a m st s
  | .vfexp2 d a m st => Sys2Proof.Machine.execVfexp2 d a m st s
  | .vflog2 d a m st => Sys2Proof.Machine.execVflog2 d a m st s
  | .vfminVv d a b m st => Sys2Proof.Machine.execVfminVv d a b m st s
  | .vfminVs d a b m st => Sys2Proof.Machine.execVfminVs d a b m st s
  | .vfmaxVv d a b m st => Sys2Proof.Machine.execVfmaxVv d a b m st s
  | .vfmaxVs d a b m st => Sys2Proof.Machine.execVfmaxVs d a b m st s
  | .vfsgnjVv d a b m st => Sys2Proof.Machine.execVfsgnjVv d a b m st s
  | .vfsgnjVs d a b m st => Sys2Proof.Machine.execVfsgnjVs d a b m st s
  | .vfsgnjnVv d a b m st => Sys2Proof.Machine.execVfsgnjnVv d a b m st s
  | .vfsgnjnVs d a b m st => Sys2Proof.Machine.execVfsgnjnVs d a b m st s
  | .vfsgnjxVv d a b m st => Sys2Proof.Machine.execVfsgnjxVv d a b m st s
  | .vfsgnjxVs d a b m st => Sys2Proof.Machine.execVfsgnjxVs d a b m st s
  | .vfeqVv d a b m st => Sys2Proof.Machine.execVfeqVv d a b m st s
  | .vfeqVs d a b m st => Sys2Proof.Machine.execVfeqVs d a b m st s
  | .vfneVv d a b m st => Sys2Proof.Machine.execVfneVv d a b m st s
  | .vfneVs d a b m st => Sys2Proof.Machine.execVfneVs d a b m st s
  | .vfltVv d a b m st => Sys2Proof.Machine.execVfltVv d a b m st s
  | .vfltVs d a b m st => Sys2Proof.Machine.execVfltVs d a b m st s
  | .vfleVv d a b m st => Sys2Proof.Machine.execVfleVv d a b m st s
  | .vfleVs d a b m st => Sys2Proof.Machine.execVfleVs d a b m st s
  | .vfclass d a m st => Sys2Proof.Machine.execVfclass d a m st s
  | .vfcvt d a m st => Sys2Proof.Machine.execVfcvt d a m st s
  | .vfround d a m st => Sys2Proof.Machine.execVfround d a m st s
  | .vfmergeVv d a b st => Sys2Proof.Machine.execVfmergeVv d a b st s
  | .vfmergeVs d a b st => Sys2Proof.Machine.execVfmergeVs d a b st s
  | .vfmaccVv d a b m st => Sys2Proof.Machine.execVfmaccVv d a b m st s
  | .vfnmaccVv d a b m st => Sys2Proof.Machine.execVfnmaccVv d a b m st s
  | .vfmsacVv d a b m st => Sys2Proof.Machine.execVfmsacVv d a b m st s
  | .vfnmsacVv d a b m st => Sys2Proof.Machine.execVfnmsacVv d a b m st s
  | .vfmaccVs d a b m st => Sys2Proof.Machine.execVfmaccVs d a b m st s
  | .vfnmaccVs d a b m st => Sys2Proof.Machine.execVfnmaccVs d a b m st s
  | .vfmsacVs d a b m st => Sys2Proof.Machine.execVfmsacVs d a b m st s
  | .vfnmsacVs d a b m st => Sys2Proof.Machine.execVfnmsacVs d a b m st s
  | .vredsum d a b m st => Sys2Proof.Machine.execVredsum d a b m st s
  | .vredand d a b m st => Sys2Proof.Machine.execVredand d a b m st s
  | .vredor d a b m st => Sys2Proof.Machine.execVredor d a b m st s
  | .vredxor d a b m st => Sys2Proof.Machine.execVredxor d a b m st s
  | .vredmin d a b m st => Sys2Proof.Machine.execVredmin d a b m st s
  | .vredmax d a b m st => Sys2Proof.Machine.execVredmax d a b m st s
  | .vredminn d a b m st => Sys2Proof.Machine.execVredminn d a b m st s
  | .vredmaxn d a b m st => Sys2Proof.Machine.execVredmaxn d a b m st s
  | .vfredsum d a b m st => Sys2Proof.Machine.execVfredsum d a b m st s
  | .vfredmin d a b m st => Sys2Proof.Machine.execVfredmin d a b m st s
  | .vfredmax d a b m st => Sys2Proof.Machine.execVfredmax d a b m st s
  | .vscan d a m st => Sys2Proof.Machine.execVscan d a m st s
  | .vfscan d a m st => Sys2Proof.Machine.execVfscan d a m st s
  | .vsmx d a b m st => Sys2Proof.Machine.execVsmx d a b m st s
  | .vslideup d a b m st => Sys2Proof.Machine.execVslideup d a b m st s
  | .vslidedn d a b m st => Sys2Proof.Machine.execVslidedn d a b m st s
  | .vslide1up d a b m st => Sys2Proof.Machine.execVslide1up d a b m st s
  | .vslide1dn d a b m st => Sys2Proof.Machine.execVslide1dn d a b m st s
  | .vrgath d a b m st => Sys2Proof.Machine.execVrgath d a b m st s
  | .vcompress d a m st => Sys2Proof.Machine.execVcompress d a m st s
  | .vexpand d a m st => Sys2Proof.Machine.execVexpand d a m st s
  | .vzip d a b m st => Sys2Proof.Machine.execVzip d a b m st s
  | .vunzipe d a m st => Sys2Proof.Machine.execVunzipe d a m st s
  | .vunzipo d a m st => Sys2Proof.Machine.execVunzipo d a m st s
  | .vdrot d a m st => Sys2Proof.Machine.execVdrot d a m st s
  | .vsplat d a m st => Sys2Proof.Machine.execVsplat d a m st s
  | .vid d m st => Sys2Proof.Machine.execVid d m st s
  | .vins d a b m st => Sys2Proof.Machine.execVins d a b m st s
  | .vext d a b st => Sys2Proof.Machine.execVext d a b st s
  | .mand d a b st => Sys2Proof.Machine.execMand d a b st s
  | .mor d a b st => Sys2Proof.Machine.execMor d a b st s
  | .mxor d a b st => Sys2Proof.Machine.execMxor d a b st s
  | .mandn d a b st => Sys2Proof.Machine.execMandn d a b st s
  | .mnot d a st => Sys2Proof.Machine.execMnot d a st s
  | .mset d st => Sys2Proof.Machine.execMset d st s
  | .mclr d st => Sys2Proof.Machine.execMclr d st s
  | .mmv d a st => Sys2Proof.Machine.execMmv d a st s
  | .mpop d a st => Sys2Proof.Machine.execMpop d a st s
  | .mfirst d a st => Sys2Proof.Machine.execMfirst d a st s
  | .msbf d a st => Sys2Proof.Machine.execMsbf d a st s
  | .mfromv d a st => Sys2Proof.Machine.execMfromv d a st s
  | .mtov d a st => Sys2Proof.Machine.execMtov d a st s
  | .vld16 d a c m st => Sys2Proof.Machine.execVld16 d a c m st s
  | .vlds16 d a b c m st => Sys2Proof.Machine.execVlds16 d a b c m st s
  | .vldx16 d a b c m st => Sys2Proof.Machine.execVldx16 d a b c m st s
  | .vldff16 d a c m st => Sys2Proof.Machine.execVldff16 d a c m st s
  | .vld32 d a c m st => Sys2Proof.Machine.execVld32 d a c m st s
  | .vlds32 d a b c m st => Sys2Proof.Machine.execVlds32 d a b c m st s
  | .vldx32 d a b c m st => Sys2Proof.Machine.execVldx32 d a b c m st s
  | .vldff32 d a c m st => Sys2Proof.Machine.execVldff32 d a c m st s
  | .vld64 d a c m st => Sys2Proof.Machine.execVld64 d a c m st s
  | .vlds64 d a b c m st => Sys2Proof.Machine.execVlds64 d a b c m st s
  | .vldx64 d a b c m st => Sys2Proof.Machine.execVldx64 d a b c m st s
  | .vldff64 d a c m st => Sys2Proof.Machine.execVldff64 d a c m st s
  | .vst16 d a c m st => Sys2Proof.Machine.execVst16 d a c m st s
  | .vsts16 d a b c m st => Sys2Proof.Machine.execVsts16 d a b c m st s
  | .vstxo16 d a b c m st => Sys2Proof.Machine.execVstxo16 d a b c m st s
  | .vstxa16 d a b c m st => Sys2Proof.Machine.execVstxa16 d a b c m st s
  | .vst32 d a c m st => Sys2Proof.Machine.execVst32 d a c m st s
  | .vsts32 d a b c m st => Sys2Proof.Machine.execVsts32 d a b c m st s
  | .vstxo32 d a b c m st => Sys2Proof.Machine.execVstxo32 d a b c m st s
  | .vstxa32 d a b c m st => Sys2Proof.Machine.execVstxa32 d a b c m st s
  | .vst64 d a c m st => Sys2Proof.Machine.execVst64 d a c m st s
  | .vsts64 d a b c m st => Sys2Proof.Machine.execVsts64 d a b c m st s
  | .vstxo64 d a b c m st => Sys2Proof.Machine.execVstxo64 d a b c m st s
  | .vstxa64 d a b c m st => Sys2Proof.Machine.execVstxa64 d a b c m st s
  | .ldi d imm st => Sys2Proof.Machine.execLdi d imm st s
  | .ldih d imm st => Sys2Proof.Machine.execLdih d imm st s
  | .lacq d a imm w scope cls st => Sys2Proof.Machine.execLacq d a imm w scope cls st s
  | .srel b a imm w scope cls st => Sys2Proof.Machine.execSrel b a imm w scope cls st s
  | .aswap d a b imm ord wide scope cls st => Sys2Proof.Machine.execAswap d a b imm ord wide scope cls st s
  | .aadd d a b imm ord wide scope cls st => Sys2Proof.Machine.execAadd d a b imm ord wide scope cls st s
  | .aand d a b imm ord wide scope cls st => Sys2Proof.Machine.execAand d a b imm ord wide scope cls st s
  | .aor d a b imm ord wide scope cls st => Sys2Proof.Machine.execAor d a b imm ord wide scope cls st s
  | .axor d a b imm ord wide scope cls st => Sys2Proof.Machine.execAxor d a b imm ord wide scope cls st s
  | .amin d a b imm ord wide scope cls st => Sys2Proof.Machine.execAmin d a b imm ord wide scope cls st s
  | .amax d a b imm ord wide scope cls st => Sys2Proof.Machine.execAmax d a b imm ord wide scope cls st s
  | .aminn d a b imm ord wide scope cls st => Sys2Proof.Machine.execAminn d a b imm ord wide scope cls st s
  | .amaxn d a b imm ord wide scope cls st => Sys2Proof.Machine.execAmaxn d a b imm ord wide scope cls st s
  | .ainc d a b imm ord wide scope cls st => Sys2Proof.Machine.execAinc d a b imm ord wide scope cls st s
  | .adec d a b imm ord wide scope cls st => Sys2Proof.Machine.execAdec d a b imm ord wide scope cls st s
  | .abadd d a b e imm ord wide scope cls st => Sys2Proof.Machine.execAbadd d a b e imm ord wide scope cls st s
  | .acas d a b e imm ord wide scope cls st => Sys2Proof.Machine.execAcas d a b e imm ord wide scope cls st s
  | .ll d a imm ord wide scope cls st => Sys2Proof.Machine.execLl d a imm ord wide scope cls st s
  | .sc d a b imm ord wide scope cls st => Sys2Proof.Machine.execSc d a b imm ord wide scope cls st s
  | .vaadd d a b e ret dm me mi scope cls st => Sys2Proof.Machine.execVaadd d a b e ret dm me mi scope cls st s
  | .vaand d a b e ret dm me mi scope cls st => Sys2Proof.Machine.execVaand d a b e ret dm me mi scope cls st s
  | .vaor d a b e ret dm me mi scope cls st => Sys2Proof.Machine.execVaor d a b e ret dm me mi scope cls st s
  | .vaxor d a b e ret dm me mi scope cls st => Sys2Proof.Machine.execVaxor d a b e ret dm me mi scope cls st s
  | .vamin d a b e ret dm me mi scope cls st => Sys2Proof.Machine.execVamin d a b e ret dm me mi scope cls st s
  | .vamax d a b e ret dm me mi scope cls st => Sys2Proof.Machine.execVamax d a b e ret dm me mi scope cls st s
  | .vaswap d a b e ret dm me mi scope cls st => Sys2Proof.Machine.execVaswap d a b e ret dm me mi scope cls st s
  | .vainc d a b e ret dm me mi scope cls st => Sys2Proof.Machine.execVainc d a b e ret dm me mi scope cls st s
  | .vabadd d a b e ret dm me mi scope cls st => Sys2Proof.Machine.execVabadd d a b e ret dm me mi scope cls st s
  | .vfaadd d a b e ret dm me mi scope cls st => Sys2Proof.Machine.execVfaadd d a b e ret dm me mi scope cls st s
  | .vfamax d a b e ret dm me mi scope cls st => Sys2Proof.Machine.execVfamax d a b e ret dm me mi scope cls st s
  | .vgl d a b dm me mi scope cls st => Sys2Proof.Machine.execVgl d a b dm me mi scope cls st s
  | .vsc d a b e dm me mi scope cls st => Sys2Proof.Machine.execVsc d a b e dm me mi scope cls st s
  | .vldq d a q8 grp dm me mi cls st => Sys2Proof.Machine.execVldq d a q8 grp dm me mi cls st s
  | .vstq e a q8 grp dm me mi cls st => Sys2Proof.Machine.execVstq e a q8 grp dm me mi cls st s
  | .vldf16 d a dm me mi cls st => Sys2Proof.Machine.execVldf16 d a dm me mi cls st s
  | .vstf16 e a dm me mi cls st => Sys2Proof.Machine.execVstf16 e a dm me mi cls st s
  | .vlseg d a f w dm me mi cls st => Sys2Proof.Machine.execVlseg d a f w dm me mi cls st s
  | .vsseg e a f w dm me mi cls st => Sys2Proof.Machine.execVsseg e a f w dm me mi cls st s
  | .vpush d b a dm cls st => Sys2Proof.Machine.execVpush d b a dm cls st s
  | .vtake d a dm st => Sys2Proof.Machine.execVtake d a dm st s
  | .vempty d dm st => Sys2Proof.Machine.execVempty d dm st s
  | .vfill d dm st => Sys2Proof.Machine.execVfill d dm st s
  | .fget d a imm scope cls st => Sys2Proof.Machine.execFget d a imm scope cls st s
  | .ftake d a imm scope cls st => Sys2Proof.Machine.execFtake d a imm scope cls st s
  | .fgive b a imm scope cls st => Sys2Proof.Machine.execFgive b a imm scope cls st s
  | .fempty a imm scope cls st => Sys2Proof.Machine.execFempty a imm scope cls st s
  | .fpeek d a imm scope cls st => Sys2Proof.Machine.execFpeek d a imm scope cls st s
  | .sbind d a imm st => Sys2Proof.Machine.execSbind d a imm st s
  | .sunbind d st => Sys2Proof.Machine.execSunbind d st s
  | .sstat d b st => Sys2Proof.Machine.execSstat d b st s
  | .sflush d st => Sys2Proof.Machine.execSflush d st s
  | .tplanar d a b e keep cls st => Sys2Proof.Machine.execTplanar d a b e keep cls st s
  | .tpost d a scope cls st => Sys2Proof.Machine.execTpost d a scope cls st s
  | .tzero a cls st => Sys2Proof.Machine.execTzero a cls st s
  | .trenorm a b cls st => Sys2Proof.Machine.execTrenorm a b cls st s
  | .tload d a b me mi cls st => Sys2Proof.Machine.execTload d a b me mi cls st s
  | .tinit a b p role cls st => Sys2Proof.Machine.execTinit a b p role cls st s
  | .tstat d a cls st => Sys2Proof.Machine.execTstat d a cls st s
  | .tflags d a b cls st => Sys2Proof.Machine.execTflags d a b cls st s
  | .epost d a st => Sys2Proof.Machine.execEpost d a st s
  | .esusp d a all st => Sys2Proof.Machine.execEsusp d a all st s
  | .eresm d a all st => Sys2Proof.Machine.execEresm d a all st s
  | .estat d a sel st => Sys2Proof.Machine.execEstat d a sel st s
  | .ewait d a b imm scope cls st => Sys2Proof.Machine.execEwait d a b imm scope cls st s
  | .lkacq d a mode scope st => Sys2Proof.Machine.execLkacq d a mode scope st s
  | .lktry d a mode scope st => Sys2Proof.Machine.execLktry d a mode scope st s
  | .lkrel d a scope st => Sys2Proof.Machine.execLkrel d a scope st s
  | .lkup d a mode scope st => Sys2Proof.Machine.execLkup d a mode scope st s
  | .lkdown d a mode scope st => Sys2Proof.Machine.execLkdown d a mode scope st s
  | .lkrelall d scope st => Sys2Proof.Machine.execLkrelall d scope st s
  | .lkstat d a scope st => Sys2Proof.Machine.execLkstat d a scope st s
  | .nlaunch d a sup st => Sys2Proof.Machine.execNlaunch d a sup st s
  | .llease a b st => Sys2Proof.Machine.execLlease a b st s
  | .bset n a st => Sys2Proof.Machine.execBset n a st s
  | .barr d n scope st => Sys2Proof.Machine.execBarr d n scope st s
  | .bwait n a scope st => Sys2Proof.Machine.execBwait n a scope st s
  | .bsync n scope st => Sys2Proof.Machine.execBsync n scope st s
  | .tsread d k st => Sys2Proof.Machine.execTsread d k st s
  | .xv f6 op ds vm dm cls me mi b a d st => Sys2Proof.Machine.execXv f6 op ds vm dm cls me mi b a d st s
  | .xvi op d a f6 imm st => Sys2Proof.Machine.execXvi op d a f6 imm st s
  | .cIllegal a b => Sys2Proof.Machine.execCIllegal a b s
  | .cAdd a b => Sys2Proof.Machine.execCAdd a b s
  | .cSub a b => Sys2Proof.Machine.execCSub a b s
  | .cMv a b => Sys2Proof.Machine.execCMv a b s
  | .cAddi a im => Sys2Proof.Machine.execCAddi a im s
  | .cLi a im => Sys2Proof.Machine.execCLi a im s
  | .cSlli a h => Sys2Proof.Machine.execCSlli a h s
  | .cSrli a h => Sys2Proof.Machine.execCSrli a h s
  | .cAnd a b => Sys2Proof.Machine.execCAnd a b s
  | .cOr a b => Sys2Proof.Machine.execCOr a b s
  | .cXor a b => Sys2Proof.Machine.execCXor a b s
  | .cLd64 a b => Sys2Proof.Machine.execCLd64 a b s
  | .cSt64 a b => Sys2Proof.Machine.execCSt64 a b s
  | .cBeqz a im => Sys2Proof.Machine.execCBeqz a im s
  | .cBnez a im => Sys2Proof.Machine.execCBnez a im s
  | .cJ im => Sys2Proof.Machine.execCJ im s
  | .cJr a => Sys2Proof.Machine.execCJr a s
  | .cVsetl a b => Sys2Proof.Machine.execCVsetl a b s
  | .cVadd a b => Sys2Proof.Machine.execCVadd a b s
  | .cVfadd a b => Sys2Proof.Machine.execCVfadd a b s
  | .cVmv a b => Sys2Proof.Machine.execCVmv a b s
  | .cKend => Sys2Proof.Machine.execCKend s
  | .cNop => Sys2Proof.Machine.execCNop s
  | .vtypeWrite v => Sys2Proof.Machine.execVtypeWrite v s
  | .vlWrite v => Sys2Proof.Machine.execVlWrite v s
  | .vstartWrite v => Sys2Proof.Machine.execVstartWrite v s
  | .vtagsWrite hi v => Sys2Proof.Machine.execVtagsWrite hi v s
  | .pairctlModeSolo v => Sys2Proof.Machine.execPairctlModeSolo v s
  | .pairctlModePair v => Sys2Proof.Machine.execPairctlModePair v s
  | .ksliceWrite v => Sys2Proof.Machine.execKsliceWrite v s
  | .catctlWrite v => Sys2Proof.Machine.execCatctlWrite v s
  | .curcmpWrite v => Sys2Proof.Machine.execCurcmpWrite v s
  | .ptbaseWrite v => Sys2Proof.Machine.execPtbaseWrite v s
  | .sctxWrite v => Sys2Proof.Machine.execSctxWrite v s
  | .tbcfgWrite v => Sys2Proof.Machine.execTbcfgWrite v s
  | .dspsupWrite v => Sys2Proof.Machine.execDspsupWrite v s
  | .csrWrite csr v => Sys2Proof.Machine.execCsrWrite csr v s
  | .preemptRequestWrite n v => Sys2Proof.Machine.execPreemptRequestWrite n v s
  | .hostDoorbellWrite n v => Sys2Proof.Machine.execHostDoorbellWrite n v s
  | .hostMailboxWrite w size v => Sys2Proof.Machine.execHostMailboxWrite w size v s
  | .hostMemoryRead off size => Sys2Proof.Machine.execHostMemoryRead off size s
  | .hostMemoryWrite off size v => Sys2Proof.Machine.execHostMemoryWrite off size v s
  | .attestationRequest nonce asid => Sys2Proof.Machine.execAttestationRequest nonce asid s
  | .registrarServe => Sys2Proof.Machine.execRegistrarServe s
  | .waitWordRead seq => Sys2Proof.Machine.execWaitWordRead seq s
  | .walkerDispatch => Sys2Proof.Machine.execWalkerDispatch s
  | .threadResume => Sys2Proof.Machine.execThreadResume s
  | .kendRetire n => Sys2Proof.Machine.execKendRetire n s
  | .iterationFaultEnd n => Sys2Proof.Machine.execIterationFaultEnd n s
  | .nestDone seq => Sys2Proof.Machine.execNestDone seq s
  | .nestAbort seq => Sys2Proof.Machine.execNestAbort seq s
  | .featureRequeue seq => Sys2Proof.Machine.execFeatureRequeue seq s
  | .gangAck gid fabric => Sys2Proof.Machine.execGangAck gid fabric s
  | .gangTimeout seq => Sys2Proof.Machine.execGangTimeout seq s
  | .tileTaskWtokReady id => Sys2Proof.Machine.execTileTaskWtokReady id s
  | .curatorGrant => Sys2Proof.Machine.execCuratorGrant s
  | .lockRevoke name tid => Sys2Proof.Machine.execLockRevoke name tid s
  | .tileTaskIssue c => Sys2Proof.Machine.execTileTaskIssue c s
  | .tileSliceStep id => Sys2Proof.Machine.execTileSliceStep id s
  | .tileMergeTurn id => Sys2Proof.Machine.execTileMergeTurn id s
  | .tileTaskFinish id => Sys2Proof.Machine.execTileTaskFinish id s
  | .copyStart c => Sys2Proof.Machine.execCopyStart c s
  | .copyChunk id => Sys2Proof.Machine.execCopyChunk id s
  | .copyFinish id => Sys2Proof.Machine.execCopyFinish id s
  | .futureWaitComplete n => Sys2Proof.Machine.execFutureWaitComplete n s
  | .bwaitReturn n => Sys2Proof.Machine.execBwaitReturn n s
  | .ewaitReturn n => Sys2Proof.Machine.execEwaitReturn n s
  | .gatedReadProceed n => Sys2Proof.Machine.execGatedReadProceed n s
  | .vpushProceed n => Sys2Proof.Machine.execVpushProceed n s
  | .napWake n => Sys2Proof.Machine.execNapWake n s
  | .emptyTimeout n => Sys2Proof.Machine.execEmptyTimeout n s
  | .reservationExpire n => Sys2Proof.Machine.execReservationExpire n s
  | .viqIssue n => Sys2Proof.Machine.execViqIssue n s
  | .viqComplete n => Sys2Proof.Machine.execViqComplete n s
  | .viqRetire n => Sys2Proof.Machine.execViqRetire n s
  | .catalogueDedup n => Sys2Proof.Machine.execCatalogueDedup n s
  | .streamFetch n r => Sys2Proof.Machine.execStreamFetch n r s
  | .leadIssue n => Sys2Proof.Machine.execLeadIssue n s
  | .leadForkCopyDone n => Sys2Proof.Machine.execLeadForkCopyDone n s
  | .asyncTrapTake n => Sys2Proof.Machine.execAsyncTrapTake n s
  | .timerCompare n => Sys2Proof.Machine.execTimerCompare n s
  | .userTrapDeliver n => Sys2Proof.Machine.execUserTrapDeliver n s
  | .scratchWayRestore n w => Sys2Proof.Machine.execScratchWayRestore n w s
  | .icacheFill n addr => Sys2Proof.Machine.execIcacheFill n addr s
  | .pageWalk n addr kind => Sys2Proof.Machine.execPageWalk n addr kind s
  | .l2Fill pa => Sys2Proof.Machine.execL2Fill pa s
  | .coalesceDrainTimeout n => Sys2Proof.Machine.execCoalesceDrainTimeout n s
  | .loanRecallDone pa => Sys2Proof.Machine.execLoanRecallDone pa s
  | .slotWheelFrame => Sys2Proof.Machine.execSlotWheelFrame s
  | .goldenEpoch => Sys2Proof.Machine.execGoldenEpoch s
  | .linkFlitReceive link flit => Sys2Proof.Machine.execLinkFlitReceive link flit s
  | .axolotlReplan die group short => Sys2Proof.Machine.execAxolotlReplan die group short s
  | .dieDomainDown die => Sys2Proof.Machine.execDieDomainDown die s
  | .deviceReset => Sys2Proof.Machine.execDeviceReset s
  | .uncorrectableErrorAfterAck seq loc => Sys2Proof.Machine.execUncorrectableErrorAfterAck seq loc s

end Sys2Proof.Machine
end

