-- ==== Sys2Proof/Machine/Sched.lean ====
section
/-! DEFINITION. Whose turn it is: what the device's agents do of themselves, what happens on a core before its next
instruction, and the passing of the turn (log 1, 2). -/

namespace Sys2Proof.Machine

noncomputable section

/-! ### Moves of the device's agents -/

/-- The first of some moves that can be made. -/
def firstMove (s : State) : List (State → Option State) → Option State
  | [] => none
  | f :: l =>
    match f s with
    | some t => some t
    | none => firstMove s l

/-- A frame of the slot wheel or an epoch of the golden packet that begins (17 R395, R401). -/
def moveClock (s : State) : Option State :=
  if s.dev.fabric.frame < s.dev.clk / 4096 then some (slotFrame s)
  else if s.dev.fabric.epoch < s.dev.clk / 512 then some (goldenStep s)
  else none

/-- A round of the Registrar (14 R327). -/
def moveRegistrar (s : State) : Option State :=
  if (s.dev.mem.full.isEmpty && s.dev.reg.kept.toList.all (·.isNone)) || !registrarBusy s then none else some (registrarRound s)

/-- The read of a wait word that makes its nest eligible, or that finds it unreadable for the first time (14 R331). -/
def moveWait (s : State) : Option State :=
  s.dev.walker.nests.findSome? (fun n =>
    if n.eligible then none
    else
      let t := waitRead n.seq s
      match nestAt t n.seq with
      | some m => if m.eligible || (m.badWait && !n.badWait) then some t else none
      | none => some t)

/-- The end of a nest (14 R342). -/
def moveDone (s : State) : Option State :=
  (s.dev.walker.nests.find? (nestReady s)).map (fun n => nestDone n.seq s)

/-- A gang that has not formed in time (14 R347, R348). -/
def moveGang (s : State) : Option State :=
  (s.dev.walker.nests.find? (fun n => !n.gangFormed && !n.gangLate && decide (n.postedAt + gangTo ≤ s.dev.clk))).map
    (fun n => gangTimeout n.seq s)

/-- A resumption or a dispatch (14 R334, R337). -/
def moveWalker (s : State) : Option State :=
  if s.dev.walker.nests.isEmpty && s.dev.walker.aside.isEmpty then none
  else
    match walkerMove s with
    | some (.resume a k) => some (resumeAny a k s)
    | some (.dispatch q c ks) => some (dispatch q c ks s)
    | none =>
      if s.dev.walker.nests.any (wantsRoom s) || s.dev.walker.aside.any (asideWantsRoom s) then some (postRequests s) else none

/-- What a tile task does next, but its issue (16 Table 16-2). -/
def taskMove (s : State) (t : TileTask) : Option State :=
  match t.state with
  | .waiting => if tokenReady s t then some (taskToken t.id s) else none
  | .queued =>
    if !s.dev.cur.queue.any (fun r => r.holder == .task t.id) && s.dev.cur.fits t.lockReq then some (taskEnqueue t.id s) else none
  | .running =>
    if s.dev.clk < t.due then none
    else if decide (1 < t.op) || t.stopped || decide (t.slice < t.fld 2 16) then some (taskSlice t.id s)
    else
      let u := taskTurn t.id s
      if ((taskAt u t.id).map (·.state)) = some .finishing then some u else none
  | .finishing => if s.dev.clk < t.due then none else some (taskFinish t.id s)
  | _ => none

/-- A move of a tile task. -/
def moveTask (s : State) : Option State := s.dev.tasks.findSome? (taskMove s)

/-- The issue of a tile task (14 R340). -/
def moveIssue (s : State) : Option State :=
  if s.dev.tasks.isEmpty then none
  else
    ((List.range 32).find? (fun c => ((oldestReady s c).bind (chooseEngine s)).isSome)).map (fun c => taskIssue c s)

/-- A move of a copy (08 R217, R221; 14 R341). -/
def moveCopy (s : State) : Option State :=
  if s.dev.copies.isEmpty then none
  else
    match s.dev.copies.find? (fun c => c.state != .queued && decide (c.due ≤ s.dev.clk)) with
    | some c => some (if c.state = .finished then copyEnd c.id s else copyMove c.id s)
    | none => ((List.range 32).find? (fun k => (nextCopy s k).isSome)).map (fun k => copyStart k s)

/-- Whether a waiting request still has a wound to make (16 R377). -/
def woundDue (s : State) : Bool :=
  s.dev.cur.waiters.any (fun r => (s.dev.cur.woundees r).any (fun e =>
    match e.holder with
    | .thread _ _ => e.wounded.isNone
    | .task id => ((taskAt s id).map (fun t => t.state != .finishing)).getD false))

/-- A wound, a grant to a task, or a revocation (16 R375 to R378). -/
def moveCurator (s : State) : Option State :=
  if woundDue s then some (woundAll s)
  else
    match taskGrantable s with
    | some (r, id) => some (grantTask r id s)
    | none =>
      (s.dev.cur.held.find? (fun e =>
        (match e.holder with
         | .thread _ _ => true
         | .task _ => false) &&
        (match e.wounded with
         | some t => decide (t + s.dev.cur.grace.toNat ≤ s.dev.clk)
         | none => false))).map (fun e => revoke e.name e.tid s)

/-- The next move of the device's own agents, none where nothing waits for one. -/
def devMove (s : State) : Option State :=
  firstMove s [moveClock, moveRegistrar, moveWait, moveDone, moveGang, moveCurator, moveTask, moveIssue, moveCopy, moveWalker]

/-! ### The turn -/

/-- The cores that hold a thread, rising. -/
def activeCores (s : State) : List Nat := s.knownCores.filter (fun n => (s.coreAt n).occupied)

/-- The first cycle at which some core of a list is ready. -/
def firstReady (s : State) : List Nat → Nat
  | [] => s.dev.clk
  | [n] => (s.coreAt n).ready
  | n :: l => min (s.coreAt n).ready (firstReady s l)

/-- The clock moved on to the first cycle at which a core that holds a thread is ready. -/
def toReady (s : State) : State :=
  let c := firstReady s (activeCores s)
  s.mapDev (fun d => { d with clk := max d.clk c })

/-- The turn passes to the next core in rotation that holds a thread and is ready; where none is, time passes until one
is (log 1, 6). A core alone is ready then. -/
def passTurn (s : State) : State :=
  let s := toReady s
  match activeCores s with
  | [n] => s.select n
  | cs =>
    let l := cs.filter (fun n => decide ((s.coreAt n).ready ≤ s.dev.clk))
    match l.find? (fun n => decide (s.at_ < n)) with
    | some n => s.select n
    | none =>
      match l with
      | n :: _ => s.select n
      | [] => s

/-- What stands before the next instruction of a core: its end after a stop, an asynchronous cause, a user-level trap, a
scratch way that comes back (14 R342, R349; 20 R431; 22 R466). -/
def boundary (s : State) : Option State :=
  if s.core.run = .stopped then some (faultEnd s)
  else if asyncNow s then some (asyncTake s)
  else if (userTrapNow s).isSome then some (userTrap s)
  else (wayDue s).map (fun w => wayBack w s)

/-- Whether a run of the vector unit ended in a retirement, a trap or a handler. -/
def vecMoved (s t : State) : Bool := t.core.th.viq.length != s.core.th.viq.length || vecLeft s t

/-- How far the scalar unit runs ahead of the vector unit from now on is free (10 R261, log 11). -/
def renewAhead (s : State) : State := s.mapCore (fun c => { c with ahead := Config.runAhead s.free % 64 })

/-- What the vector unit does in a turn: nothing while the scalar unit is ahead and can issue, else its head runs, or an entry
behind it fails first. -/
def vecPhase (s : State) : State :=
  if (headEntry s).isNone then s
  else if s.core.ahead != 0 && !issueBlocked s then s.mapCore (fun c => { c with ahead := c.ahead - 1 })
  else (overtake s).getD (vecRun s)

/-- How long the scalar unit waits for what a load returns is free (02 Table 02-8, log 6). -/
def loadWait (i : Instr) (s : State) : State :=
  if (leadAct i).any (fun a => a.kind == .load || a.kind == .acq) then
    (s.mapCore (fun c => { c with ready := c.ready + Config.loadTime s.free % 4096 })).draw
  else s

/-- The instruction at the pc of the core whose turn it is, fetched and executed; the lead follows (02 R43, R44; 12 R307). -/
def issue (s : State) : Result :=
  let d := s.core.th.din
  let s := resumeOps s
  match fetchPc s with
  | (s, .failed c v) => .next (trap c v s)
  | (s, .reserved) => .next (trap .illegal 0 s)
  | (s, .instr i) =>
    match exec i s with
    | .next t => .next (loadWait i (if t.core.th.din = d + 1 then leadReconcile d (branchTaken i s) t else t))
    | r => r

/-- The turn of a core that holds a thread and has nothing before its next instruction: the vector unit moves, unless the
scalar unit is ahead of it; a fork that is wanted is made where the vector unit has not trapped (12 R314); then the scalar unit
issues. -/
def advance (s : State) : Result :=
  let s := leadCopied (drainOld s)
  let t := leadFork (leadPassed (vecPhase s))
  if (headEntry s).isSome && vecMoved s t then .next ((renewAhead t).tick 1)
  else if issueBlocked t then .next (stall t)
  else issue t

/-- One turn. -/
def turn (s : State) : Result :=
  if s.core.run = .idle then .next (s.mapDev (fun d => { d with clk := d.clk + 1 }))
  else
    match boundary s with
    | some t => .next t
    | none => advance s

/-- A turn followed by the passing of the turn. -/
def turnAndPass (s : State) : Result :=
  match turn s with
  | .next t => .next (passTurn t)
  | r => r

/-- An entry of the agenda: only a device event acts; the meaning of an instruction word is not an event. -/
def agendaEvent (i : Instr) (s : State) : Result := if (encode i).isNone then exec i s else .next s

end

/-! ### Placing an instruction -/

/-- The address at which a program placed by hand starts. -/
def placePc : Word := 0x1000010000

/-- The page of the level-0 table placed with it: one leaf that maps the lowest 4 TiB to themselves. -/
def placeRoot : Word := 0x1000000000

/-- Bytes put at rising locations. -/
def placeBytes : List Host.Cell → Nat → List Byte → List Host.Cell
  | cs, _, [] => cs
  | cs, a, b :: l => placeBytes (cellSet cs a b) (a + 1) l

/-- The device with nothing of its own to do, and with a page table and some bytes placed. -/
def placeDev (d : Dev) (bs : List Byte) : Dev :=
  { d with
    mem := { d.mem with
      cells := placeBytes (placeBytes d.mem.cells placeRoot.toNat [0x7F, 0, 0, 0, 0, 0, 0, 0]) placePc.toNat bs
      full := [], poison := [], keys := [] }
    tlbs := [], savedWays := [], tasks := [], copies := [], down := 0, cur := Curator.start, walker := Dev.start.walker, reg := Dev.start.reg
    fabric := { d.fabric with frame := d.clk / 4096, epoch := d.clk / 512 } }

/-- A core with a live user thread at the placed address. -/
def placeCore (c : Core) : Core :=
  { c with
    run := .live, ready := 0, ahead := 0, level := .user, preempt := false, preemptStop := false, hostint := none, gangfail := none, icache := [], fills := []
    lead := none, refork := false, diverged := false
    sup := { c.sup with ptbase := placeRoot, asid := 0, timecmp := 0xFFFFFFFFFFFFFFFF }
    th := { c.th with
      pc := placePc, viq := [], utq := [], woundOverflow := false, held := 0, uvec := none, wait := none, lat := [], bank := none
      csr := { c.th.csr with utActive := false } } }

end Sys2Proof.Machine
end

