-- ==== Sys2Proof/Machine/Step.lean ====
section
/-! DEFINITION. One step of the machine (log 1, 2, 3). -/

namespace Sys2Proof.Machine

noncomputable section

/-- One step: the head of the agenda, else a move of the device's agents, else one turn of a core. -/
def step (s : State) : Host.Outcome State Fault Refusal :=
  match s.agenda with
  | i :: rest => agendaEvent i { s with agenda := rest }
  | [] =>
    match devMove s with
    | some t => .next t
    | none => turnAndPass s

end

/-- The state with an instruction placed where the next step fetches, and with what it takes for that step to fetch: a live
user thread, a page table, nothing waiting elsewhere (log 3). -/
def State.withFetchWord (s : State) (nbits w : Nat) : State :=
  { s with core := placeCore s.core, others := [], agenda := [], dev := placeDev s.dev (leBytes 8 (w % 2 ^ nbits)) }

end Sys2Proof.Machine
end

