-- ==== Sys2Proof/WellFormed.lean ====
section
/-! DEFINITION. Which instructions the encoding can hold: the values of fields that decoding does not refuse (02 R49 to R52,
R59; 03 R66), checked on the syntax alone. -/

namespace Sys2Proof

/-- A die mask that names a die, and a mask base that is zero without its enable (02 R49). -/
def dieFieldsOk (dm : BitVec 8) (me : Bool) (mi : BitVec 4) : Bool := dm != 0 && (me || mi == 0)

/-- A lock mode that is one: 0 and 7 are reserved (08 R244). -/
def lockModeOk (mode : BitVec 3) : Bool := mode != 0 && mode != 7

/-- Whether the fields of an instruction have an encoding. A device event has no word and no such fields. -/
noncomputable def Instr.wf : Instr → Bool
  | .vaadd _ _ _ _ _ dm me mi _ _ _ => dieFieldsOk dm me mi
  | .vaand _ _ _ _ _ dm me mi _ _ _ => dieFieldsOk dm me mi
  | .vaor _ _ _ _ _ dm me mi _ _ _ => dieFieldsOk dm me mi
  | .vaxor _ _ _ _ _ dm me mi _ _ _ => dieFieldsOk dm me mi
  | .vamin _ _ _ _ _ dm me mi _ _ _ => dieFieldsOk dm me mi
  | .vamax _ _ _ _ _ dm me mi _ _ _ => dieFieldsOk dm me mi
  | .vaswap _ _ _ _ _ dm me mi _ _ _ => dieFieldsOk dm me mi
  | .vainc _ _ _ _ _ dm me mi _ _ _ => dieFieldsOk dm me mi
  | .vabadd _ _ _ _ _ dm me mi _ _ _ => dieFieldsOk dm me mi
  | .vfaadd _ _ _ _ _ dm me mi _ _ _ => dieFieldsOk dm me mi
  | .vfamax _ _ _ _ _ dm me mi _ _ _ => dieFieldsOk dm me mi
  | .vgl _ _ _ dm me mi _ _ _ => dieFieldsOk dm me mi
  | .vsc _ _ _ _ dm me mi _ _ _ => dieFieldsOk dm me mi
  | .vldq _ _ _ grp dm me mi _ _ => grp != 3 && dieFieldsOk dm me mi
  | .vstq _ _ _ grp dm me mi _ _ => grp != 3 && dieFieldsOk dm me mi
  | .vldf16 _ _ dm me mi _ _ => dieFieldsOk dm me mi
  | .vstf16 _ _ dm me mi _ _ => dieFieldsOk dm me mi
  | .vlseg _ _ f _ dm me mi _ _ => f != 0 && dieFieldsOk dm me mi
  | .vsseg _ _ f _ dm me mi _ _ => f != 0 && dieFieldsOk dm me mi
  | .vpush _ _ _ dm _ _ => dm != 0
  | .vtake _ _ dm _ => dm != 0
  | .vempty _ dm _ => dm != 0
  | .vfill _ dm _ => dm != 0
  | .tload _ _ _ me mi _ _ => me || mi == 0
  | .tinit _ _ p _ _ _ => decide (1 ≤ p.toNat) && decide (p.toNat ≤ 25)
  | .lkacq _ _ mode scope _ => lockModeOk mode && scope != 0
  | .lktry _ _ mode scope _ => lockModeOk mode && scope != 0
  | .lkup _ _ mode scope _ => lockModeOk mode && scope != 0
  | .lkdown _ _ mode scope _ => lockModeOk mode && scope != 0
  | .lkrel _ _ scope _ => scope != 0
  | .lkrelall _ scope _ => scope != 0
  | .lkstat _ _ scope _ => scope != 0
  | .barr _ _ scope _ => scope != 0
  | .bwait _ _ scope _ => scope != 0
  | .bsync _ scope _ => scope != 0
  | .xv f6 op ds vm dm cls me mi b a d _ => xvFieldsOk f6 op ds vm dm cls me mi && (xvInner f6 op vm cls me b a d).isSome
  | .xvi op d a f6 _ _ => (xviInner op f6 a d).isSome
  | _ => true

end Sys2Proof
end

