-- ==== Sys2Proof/Safety.lean ====
section
/-! DEFINITION. What counts as a safe run: the invariants that statements are made in terms of. -/

namespace Sys2Proof.Machine

/-- The memory keeps its canonical form (17 R381; log 4). -/
def State.memOk (s : State) : Prop := s.dev.mem.wf = true

/-- Every agenda entry is a device event: no instruction word comes from outside memory (log 2). -/
def State.agendaOk (s : State) : Prop := s.agenda.all (fun i => (encode i).isNone) = true

/-- The list of the other cores rises and does not name the core whose turn it is. -/
def State.coresOk (s : State) : Prop := assocWf 0 s.others = true ∧ s.others.all (fun p => p.1 != s.at_) = true

/-- A step that stops: the machine has no fault, and a refusal says that an instruction has no meaning. -/
def State.stops (s : State) : Prop := ∀ t, step s ≠ .next t

/-! ### What the scalar unit does, in terms that statements use -/

/-- Whether register d names the second bank: g24 to g31 at user level in a handler, whose bank is there (01 R16). -/
def State.second (s : State) (d : Reg) : Bool := s.core.banked && decide (24 ≤ d.toNat) && s.core.th.bank.isSome

/-- No register of a list waits for a vector result or stands inside a latency: each reads as it is (02 R56 to R58, R61;
10 R262). -/
def State.ready (s : State) (rs : List Reg) : Bool := rs.all (fun r => !srqPending s r && !hazard s r)

/-- From s to t register d takes v in the one bank that its number names: g24 to g31 in the second bank while a user-level handler
runs, so that those of the interrupted thread stay; g0 takes nothing, and every other register of both banks is as before
(01 R15, R16). -/
structure TakesReg (s t : State) (d : Reg) (v : Word) : Prop where
  first : t.core.th.g = if d = 0 ∨ s.second d = true then s.core.th.g else s.core.th.g.set d.toNat v d.isLt
  second : t.core.th.bank = if s.second d = true
    then s.core.th.bank.map (·.set (d.toNat % 8) v (Nat.mod_lt _ (by decide))) else s.core.th.bank

/-- From s to t a scalar instruction has issued and nothing else has happened: it goes on at `pc`, register d takes v
(g0 discards it), FFLAGS gains `fl`, INSTRET one, and every other register, flag, CSR, core and byte is as before
(01 R15, R16, R39; 02 R43; 04 R91; 10 R262). -/
structure ScalarEffect (s t : State) (pc : Word) (d : Reg) (v : Word) (fl : Flags) : Prop where
  state : t = { s with core := t.core, free := t.free }
  core : t.core = { s.core with th := t.core.th, ready := t.core.ready }
  thread : t.core.th = { s.core.th with
    g := t.core.th.g, bank := t.core.th.bank, lat := t.core.th.lat, slot := t.core.th.slot
    viq := if d = 0 then s.core.th.viq else (dropSrq s d).core.th.viq
    pc := pc, wait := none, din := s.core.th.din + 1
    csr := { s.csr with fflags := s.csr.fflags ||| fl, instret := s.csr.instret + 1 } }
  result : readG t d = if d = 0 then 0 else v
  regs : ∀ r, r ≠ d → readG t r = readG s r
  banks : TakesReg s t d v

/-- The instruction, once the registers it reads are ready, completes with that effect. -/
def Goes (rs : List Reg) (i : Instr) (s : State) (pc : Word) (d : Reg) (v : Word) (fl : Flags) : Prop :=
  s.ready rs = true → ∃ t, exec i s = .next t ∧ ScalarEffect s t pc d v fl

/-- An instruction of n bytes completes, register d takes v, and execution goes on behind it. -/
def Gives (rs : List Reg) (n : Word) (i : Instr) (s : State) (d : Reg) (v : Word) : Prop :=
  Goes rs i s (s.core.th.pc + n) d v 0

/-- The instruction of n bytes, once the registers it reads are ready, completes: beside gd and what every scalar
instruction changes, s2 says all that it does. -/
def Acts (rs : List Reg) (n : Word) (i : Instr) (s s2 : State) (d : Reg) (v : Word) : Prop :=
  s.ready rs = true → ∃ t, exec i s = .next t ∧ ScalarEffect s2 t (s.core.th.pc + n) d v 0

/-- The instruction does not complete now: its wait is recorded, and beside that only the cycle at which its core is next
ready changes (07 R198; 05 R135). -/
structure WaitEffect (s t : State) : Prop where
  state : t = { s with core := t.core }
  core : t.core = { s.core with th := { s.core.th with wait := t.core.th.wait }, ready := t.core.ready }
  wait : t.core.th.wait = some ((s.core.th.wait).getD ⟨s.dev.clk⟩)
  later : s.dev.clk < t.core.ready

/-- From s to t the core has taken a supervisor trap of a scalar instruction or a boundary, and nothing else has happened
(20 R430; 02 R58; 12 R303; 07 R198; 08 R246): the lead is squashed, results in flight are written, what the thread waited for is
withdrawn, and a core without a handler stops. -/
structure TrapEntry (s t : State) (c : Cause) (val sepc : Word) : Prop where
  state : t = { s with core := t.core, dev := t.dev }
  level : t.core.level = if s.core.level = .firmware then .firmware else .supervisor
  pc : t.core.th.pc = s.core.sup.stvec
  sup : t.core.sup = { s.core.sup with
    sepc := sepc, scause := BitVec.ofNat 8 c.code, stval := val
    sstatus := BitVec.ofNat 64 (s.core.level.num + (if s.core.sup.sstatus.getLsbD 2 then 8 else 0)
      + (if s.csr.utActive then 256 else 0)) }
  core : t.core = { s.core with
    th := t.core.th, sup := t.core.sup, level := t.core.level, ready := t.core.ready
    lead := none, leadV := t.core.leadV, diverged := false, refork := false
    run := if s.core.sup.stvec = 0 then .stopped else .live }
  thread : t.core.th = { s.core.th with pc := t.core.th.pc, lat := [], wait := none }
  leadV : t.core.leadV = ((s.core.lead.map (·.v)).getD s.core.leadV)
  dev : t.dev = { s.dev with
    futq := s.dev.futq.filter (fun w => w.core != s.at_)
    cur := { s.dev.cur with
      queue := s.dev.cur.queue.filter (fun r => r.holder != meHolder s)
      starved := s.dev.cur.starved.filter (fun r => r.holder != meHolder s) } }

/-- The instruction, once the registers it reads are ready, takes a supervisor trap, SEPC naming the instruction itself. -/
def Traps (rs : List Reg) (i : Instr) (s : State) (c : Cause) (val : Word) : Prop :=
  s.ready rs = true → ∃ t, exec i s = .next t ∧ TrapEntry s t c val s.core.th.pc

/-- The instruction does not issue: only the cycle at which its core is next ready changes. -/
def Holds (i : Instr) (s : State) : Prop :=
  ∃ k, exec i s = .next { s with core := { s.core with ready := k } } ∧ s.dev.clk < k

/-! ### What the vector unit does -/

/-- The entry a vector instruction enters the queue with: its fields, its address, and the values it captures (10 R260; 05 R130). -/
def VForm.entry (f : VForm) (s : State) : VEntry :=
  let rd (r : Option Reg) : Word := (r.map (readG s)).getD 0
  { desc := f.desc, pc := s.core.th.pc, x1 := rd f.ports.r1, x2 := rd f.ports.r2, x3 := rd f.ports.r3
    vl := s.csr.vl, vtype := s.csr.vtype, granted := s.csr.leaseGranted, frm := s.csr.frm, ftz := s.csr.ftz
    progress := 0, abandoned := false, stage := .queued, popped := false, srq := f.ports.res, results := [], since := 0
    din := s.core.th.din, ctx := s.ctx, cat := catOn s.csr f.desc, banked := s.core.banked, spin := s.csr.emptyspin
    otag := none }

/-- The g registers a vector instruction captures. -/
def VForm.reads (f : VForm) : List Reg := f.ports.r1.toList ++ f.ports.r2.toList ++ f.ports.r3.toList

/-- The g registers an instruction reads in a state: none where its encoding is reserved or its level may not run it, since it
then takes another trap (05 R115, R131; 02 R59; 06 R144). -/
noncomputable def State.readsOf (s : State) : Instr → List Reg
  | .add _ a b _ | .sub _ a b _ | .and _ a b _ | .or _ a b _ | .xor _ a b _ | .andn _ a b _ | .sll _ a b _ | .srl _ a b _
  | .sra _ a b _ | .ror _ a b _ | .slt _ a b _ | .sltn _ a b _ | .min _ a b _ | .max _ a b _ | .minn _ a b _ | .maxn _ a b _
  | .mul _ a b _ | .mulh _ a b _ | .mulhn _ a b _ | .div _ a b _ | .divn _ a b _ | .rem _ a b _ | .remn _ a b _ => [a, b]
  | .csel d a b _ => [a, b, d]
  | .clz _ a _ | .ctz _ a _ | .cpop _ a _ | .sextb _ a _ | .sexth _ a _ | .sextw _ a _ | .bswap _ a _ => [a]
  | .slli _ a _ _ | .srli _ a _ _ | .srai _ a _ _ | .rori _ a _ _ | .addi _ a _ _ | .andi _ a _ _ | .ori _ a _ _
  | .xori _ a _ _ | .slti _ a _ _ | .sltin _ a _ _ | .jalr _ a _ _ => [a]
  | .ldih d _ _ => [d]
  | .beq a b _ _ | .bne a b _ _ | .blt a b _ _ | .bge a b _ _ | .bltn a b _ _ | .bgen a b _ _ | .sbnz a b _ _ => [a, b]
  | .ld8 _ a _ _ _ | .ld8s _ a _ _ _ | .ld16 _ a _ _ _ | .ld16s _ a _ _ _ | .ld32 _ a _ _ _ | .ld32s _ a _ _ _
  | .ld64 _ a _ _ _ | .iprf a _ _ => [a]
  | .dprf a _ c _ => if c.toNat < 2 then [a] else []
  | .st8 d a _ _ _ | .st16 d a _ _ _ | .st32 d a _ _ _ | .st64 d a _ _ _ => [a, d]
  | .fadd _ a b _ _ | .fsub _ a b _ _ | .fmul _ a b _ _ | .fdiv _ a b _ _ | .fmin _ a b _ _ | .fmax _ a b _ _ | .feq _ a b _ _
  | .flt _ a b _ _ | .fle _ a b _ _ | .fsgnj _ a b _ _ | .fsgnjn _ a b _ _ | .fsgnjx _ a b _ _ => [a, b]
  | .fsqrt _ a _ _ | .fclass _ a _ _ | .fcvtfi _ a _ _ | .fcvtfn _ a _ _ | .fcvtif _ a _ _ | .fcvtnf _ a _ _
  | .fcvtff _ a _ _ | .fcvtbf _ a _ _ | .fcvtfb _ a _ _ => [a]
  | .ffma32 _ a b e _ _ | .ffma64 _ a b e _ _ => [a, b, e]
  | .csrrw _ a c _ | .csrrs _ a c _ | .csrrc _ a c _ =>
    match csrLevel c.toNat with
    | some l => if l.num ≤ s.core.level.num then [a] else []
    | none => []
  | .vsetl _ a _ | .vsetvt _ a _ => [a]
  | .vsetdie a b _ => [a, b]
  | .lacq _ a _ _ _ _ _ | .ll _ a _ _ _ _ _ _ | .fget _ a _ _ _ _ | .ftake _ a _ _ _ _ | .fempty a _ _ _ _
  | .fpeek _ a _ _ _ _ => [a]
  | .srel b a _ _ _ _ _ | .sc _ a b _ _ _ _ _ _ | .fgive b a _ _ _ _ | .ewait _ a b _ _ _ _ => [a, b]
  | .aswap _ a b _ _ _ _ _ _ | .aadd _ a b _ _ _ _ _ _ | .aand _ a b _ _ _ _ _ _ | .aor _ a b _ _ _ _ _ _
  | .axor _ a b _ _ _ _ _ _ | .amin _ a b _ _ _ _ _ _ | .amax _ a b _ _ _ _ _ _ | .aminn _ a b _ _ _ _ _ _
  | .amaxn _ a b _ _ _ _ _ _ | .ainc _ a b _ _ _ _ _ _ | .adec _ a b _ _ _ _ _ _ => [a, b]
  | .abadd _ a b e _ _ _ _ _ _ | .acas _ a b e _ _ _ _ _ _ => [a, b, e]
  | .esusp _ a _ _ | .eresm _ a _ _ | .estat _ a _ _ | .lkacq _ a _ _ _ | .lktry _ a _ _ _ | .lkrel _ a _ _ | .lkup _ a _ _ _
  | .lkdown _ a _ _ _ | .lkstat _ a _ _ | .bset _ a _ => [a]
  | .nlaunch _ a sup _ => if sup && s.core.level == .user then [] else [a]
  | .llease a b _ => [a, b]
  | .bwait _ a scope _ => if scope = 0 then [] else [a]
  | .cAdd a b | .cSub a b | .cAnd a b | .cOr a b | .cXor a b => if a = 0 then [] else [a, b]
  | .cMv a b | .cLd64 a b | .cVsetl a b => if a = 0 then [] else [b]
  | .cAddi a _ | .cSlli a _ | .cSrli a _ => if a = 0 then [] else [a]
  | .cSt64 a b => if a = 0 then [] else [b, a]
  | .cJr a => if a = 0 then [] else [a]
  | .cBeqz a _ | .cBnez a _ => [a]
  | .xv f6 op ds vm dm cls me mi b a d _ =>
    if op = 0x26 ∧ f6 = 3 then [a, b]
    else if op = 0x26 ∧ f6.toNat < 2 then [a]
    else ((xvForm f6 op ds vm dm cls me mi b a d).map (·.reads)).getD []
  | i => ((formOf i).map (·.reads)).getD []

/-- From s to t a vector instruction of n bytes has left the scalar unit for the end of the queue, and nothing else has
happened (10 R260, R262). -/
structure VecEntered (s t : State) (n : Word) (f : VForm) : Prop where
  state : t = { s with core := t.core, free := t.free }
  core : t.core = { s.core with th := t.core.th, ready := t.core.ready }
  thread : t.core.th = { s.core.th with
    lat := t.core.th.lat, slot := t.core.th.slot
    viq := s.core.th.viq ++ [f.entry s], vecSeen := true
    pc := s.core.th.pc + n, wait := none, din := s.core.th.din + 1 }

/-- Thread t holds the result of an element-wise instruction in the group at vd: active elements take their values at width
w, every other element of the group and every other register is as before, and the group has the tag (06 R145). -/
structure GroupResult (x : VX) (t : Thread) (w : Nat) (tag : Tag) (val : Nat → Nat) : Prop where
  active : ∀ i < x.vl, x.active w i = true → el t x.vlen x.vd w i = val i % 2 ^ w
  rest : ∀ i < capacity x.vlen w x.grp, (i < x.vl → x.active w i = false) → el t x.vlen x.vd w i = el x.t x.vlen x.vd w i
  tags : ∀ r, x.vd ≤ r → r < x.vd + x.grp → (vreg t r).tag = tag
  others : ∀ r, r < x.vd ∨ x.vd + x.grp ≤ r → vreg t r = vreg x.t r

/-- Thread t holds a group written at vd: the elements below vl that `act` names take their values at width w, every other
element and register is as before, and the group has the tag (06 R145, R168). -/
structure Placed (x : VX) (t : Thread) (w : Nat) (tag : Tag) (act : Nat → Bool) (val : Nat → Nat) : Prop where
  written : ∀ i < x.vl, act i = true → el t x.vlen x.vd w i = val i % 2 ^ w
  rest : ∀ i < capacity x.vlen w x.grp, (i < x.vl → act i = false) → el t x.vlen x.vd w i = el x.t x.vlen x.vd w i
  tags : ∀ r, x.vd ≤ r → r < x.vd + x.grp → (vreg t r).tag = tag
  others : ∀ r, r < x.vd ∨ x.vd + x.grp ≤ r → vreg t r = vreg x.t r

/-- Elements are left, the group at vd lies in the register file and holds vl elements of width w, and no register is
poisoned (01 R20; 06 R173). -/
structure Clean (x : VX) (w : Nat) : Prop where
  left : x.start < x.vl
  length : x.vlen ≤ 16384
  fits : x.vl ≤ capacity x.vlen w x.grp
  file : x.vd + x.grp ≤ 32
  sound : ∀ r, (vreg x.t r).poison = 0

/-- Thread t holds the result of a compare in the mask group at vd: bits of active elements are set or cleared, every other
mask bit is as before (06 R156, R171). -/
structure MaskResult (x : VX) (t : Thread) (w : Nat) (val : Nat → Bool) : Prop where
  active : ∀ i < x.vl, x.active w i = true → maskBit t x.vd i = val i
  rest : ∀ i < 1024 * x.ms, (i < x.vl → x.active w i = false) → maskBit t x.vd i = maskBit x.t x.vd i
  others : ∀ r, r < x.vd ∨ x.vd + x.ms ≤ r → t.m.getD r 0 = x.t.m.getD r 0

/-- An element-wise instruction that can run: elements are left, its destination lies in the register file and holds vl
elements of width w, and no active element of its sources is poisoned (01 R20; 06 R173). -/
structure Runs (x : VX) (w : Nat) (srcs : List (Nat × Nat)) : Prop where
  left : x.start < x.vl
  length : x.vlen ≤ 16384
  fits : x.vl ≤ capacity x.vlen w x.grp
  file : x.vd + x.grp ≤ 32
  clean : ∀ i < x.vl, x.active w i = true → ∀ p ∈ srcs, x.bad p.1 p.2 i = false

/-- Flags that are the union of some (04 R91). -/
def UnionOf (fl : Flags) (l : List Flags) : Prop := ∀ k, fl.getLsbD k = l.any (·.getLsbD k)

/-- Thread t holds the group at vd of an element-wise instruction that stopped at element k: the elements below it that `act`
names have their values at width w, every other element and register is as before (06 R149, R173). -/
structure StoppedAt (x : VX) (t : Thread) (k w : Nat) (act : Nat → Bool) (val : Nat → Nat) : Prop where
  below : ∀ i < k, act i = true → el t x.vlen x.vd w i = val i % 2 ^ w
  rest : ∀ i < capacity x.vlen w x.grp, (i < k → act i = false) → el t x.vlen x.vd w i = el x.t x.vlen x.vd w i
  others : ∀ r, r < x.vd ∨ x.vd + x.grp ≤ r → vreg t r = vreg x.t r

/-- As an instruction over the elements below k alone. -/
def VX.upTo (x : VX) (k : Nat) : VX := { x with e := { x.e with vl := BitVec.ofNat 15 k } }

/-- Some elements in turn, each from the state that the one before it left: all of them succeed, with what each one gives
(07 R174, R175). -/
inductive Performs {σ α ε : Type} (f : σ → Nat → σ × Except ε α) : σ → List Nat → σ → List (Nat × α) → Prop where
  | nil (s : σ) : Performs f s [] s []
  | cons {s s' t : σ} {i : Nat} {is : List Nat} {v : α} {vs : List (Nat × α)} :
      f s i = (s', .ok v) → Performs f s' is t vs → Performs f s (i :: is) t ((i, v) :: vs)

/-- An instruction over elements in turn: where all succeed it is done, and where one fails after those before it succeeded it
raises that one's cause and value at its position; `fin` says what it then leaves, from the state after the last element tried, what
the elements gave, and where it failed (07 R174, R175). -/
def InTurn {α : Type} (f : State → Nat → State × Except (Cause × Word) α) (is : List Nat) (pos : Nat → Nat) (s : State)
    (run : VOut) (fin : State → List (Nat × α) → Option Nat → State → Flags → Prop) : Prop :=
  (∀ t vs, Performs f s is t vs → ∃ u fl, run = .done u fl [] ∧ fin t vs none u fl) ∧
  ∀ pre i post t u vs c a, is = pre ++ i :: post → Performs f s pre t vs → f t i = (u, .error (c, a)) →
    ∃ z fl, run = .fault z fl c a (pos i) ∧ fin u vs (some i) z fl

/-- A group of the size of x's at a base lies in the register file and holds vl elements of width w (01 R20). -/
def VX.Fits (x : VX) (base w : Nat) : Prop := x.vlen ≤ 16384 ∧ base + x.grp ≤ 32 ∧ x.vl ≤ capacity x.vlen w x.grp

/-- Thread t holds in the group at a base what some elements gave, values of width w and their poison, and every other element of
the group as it was; the group has the tag where anything was written (06 R145; 07 R176, R180). -/
structure Held (x : VX) (t : Thread) (base w : Nat) (tag : Tag) (vs : List (Nat × Nat × Bool)) : Prop where
  given : ∀ q ∈ vs, el t x.vlen base w q.1 = q.2.1 % 2 ^ w ∧ elPoison t x.vlen base w q.1 = q.2.2
  rest : ∀ i < capacity x.vlen w x.grp, (∀ q ∈ vs, q.1 ≠ i) →
    el t x.vlen base w i = el x.t x.vlen base w i ∧ elPoison t x.vlen base w i = elPoison x.t x.vlen base w i
  tags : vs ≠ [] → ∀ r, base ≤ r → r < base + x.grp → (vreg t r).tag = tag

/-- From x's thread to t no register changes but n from a base on. -/
def VX.Only (x : VX) (t : Thread) (base n : Nat) : Prop :=
  t.m = x.t.m ∧ t.g = x.t.g ∧ t.bank = x.t.bank ∧ ∀ r, r < base ∨ base + n ≤ r → vreg t r = vreg x.t r

/-- The sum of some patterns, each used once, over some tree of additions, with the flags of them all: over any order of the terms,
or, where `free` does not hold, over their own (04 R99). -/
inductive SumOf (free : Bool) (f : Fmt) (rm : Rm) (ftz : Bool) : List Nat → Nat → Flags → Prop where
  | term (a : Nat) : SumOf free f rm ftz [a] a 0
  | add {l l1 l2 : List Nat} {a b : Nat} {fa fb : Flags} : (if free then l.Perm (l1 ++ l2) else l = l1 ++ l2) →
      SumOf free f rm ftz l1 a fa → SumOf free f rm ftz l2 b fb →
      SumOf free f rm ftz l (fvAdd f rm ftz (unpack f ftz a) (unpack f ftz b)).1
        (fa ||| fb ||| (fvAdd f rm ftz (unpack f ftz a) (unpack f ftz b)).2)

/-- Of some records a post takes the first n: those before the first that is not valid or finds no free slot, validity first; and the
word it returns for that (08 R220). -/
structure PostTakes (valid : BitVec 512 → Bool) (recs : List (BitVec 512)) (free n : Nat) (v : Word) : Prop where
  within : n ≤ recs.length ∧ n ≤ free
  good : ∀ j < n, valid (recs.getD j 0) = true
  stop : n < recs.length → valid (recs.getD n 0) = false ∨ n = free
  taken : ∀ j < 32, v.getLsbD j = decide (j < n)
  invalid : v.getLsbD 32 = decide (n < recs.length ∧ valid (recs.getD n 0) = false)
  which : v.toNat / 2 ^ 33 = if v.getLsbD 32 then n else 0

/-! ### Accesses of the scalar unit (05 R124, R125) -/

/-- The instruction of n bytes loads z bytes at an address that is aligned, mapped, permitted and not poisoned: gd takes them,
extended, and beside that only the A bit, the caches, and what the thread has seen of its completion objects change
(18 R412). -/
def Loads (rs : List Reg) (n : Word) (i : Instr) (s : State) (d : Reg) (va : Word) (z : Nat) (ext : BitVec (8 * z) → Word) : Prop :=
  ∀ (s1 : State) (p : Place), s.ready rs = true → va.toNat % z = 0 → translate s s.ctx s.dtlb .read va = (s1, .ok p) →
    anyPoisoned s1.dev z p.loc = false →
    let s2 := seeJoin p.loc (noteLoad p (setAD p s1))
    ∃ t, exec i s = .next t ∧
      ScalarEffect s2 t (s.core.th.pc + n) d (ext (BitVec.ofNat (8 * z) (readNat s2.dev.mem p.key z p.loc))) 0

/-- The instruction of n bytes stores the low z bytes of a value at an address that is aligned, mapped and permitted: the
A and D bits are set, the bytes are written, and no register changes. -/
def Stores (rs : List Reg) (n : Word) (i : Instr) (s : State) (va : Word) (z : Nat) (v : Word) : Prop :=
  ∀ (s1 : State) (p : Place), s.ready rs = true → va.toNat % z = 0 → translate s s.ctx s.dtlb .write va = (s1, .ok p) →
    let s2 := noteStore p (setAD p s1)
    ∃ t, exec i s = .next t ∧
      ScalarEffect (catWrite va z (storeLoc s2 p.key p.loc z (v.toNat % 2 ^ (8 * z)) false)) t (s.core.th.pc + n) 0 0 0

/-- The checks of a scalar access in their order: ALIGN, then what translation finds, then poison for one that reads, where an
address that the map leaves out is logged (17 R388); the trap names the address and the instruction. -/
def AccessTraps (rs : List Reg) (i : Instr) (s : State) (acc : Acc) (va : Word) (z : Nat) : Prop :=
  s.ready rs = true →
    (va.toNat % z ≠ 0 → ∃ t, exec i s = .next t ∧ TrapEntry s t .align va s.core.th.pc) ∧
    (va.toNat % z = 0 → ∀ s1 c, translate s s.ctx s.dtlb acc va = (s1, .error c) →
      ∃ t, exec i s = .next t ∧ TrapEntry s1 t c va s.core.th.pc) ∧
    (va.toNat % z = 0 → acc ≠ .write → ∀ s1 p, translate s s.ctx s.dtlb acc va = (s1, .ok p) →
      anyPoisoned s1.dev z p.loc = true →
      ∃ t, exec i s = .next t ∧ TrapEntry (s1.mapDev (logUnmapped p.loc)) t .poison va s.core.th.pc)

end Sys2Proof.Machine
end

