-- ==== Sys2Proof/Certificates/Slice0/Obligations.lean ====
section
/-! DEFINITION. The statements about this machine, each with the rules of spec/ it comes from. -/

open Sys2Proof Sys2Proof.Machine

/-! ### Scalar integer instructions -/

/-- 05 R116, Table 05-1; 04 R85: every ALU member completes with its result in gd and nothing else changed; `csel` reads the old
gd. -/
def Obligations.IntegerRegisterResults : Prop :=
  ∀ (d a b : Reg) (st : BitVec 2) (s : State),
    let x := readG s a
    let y := readG s b
    Gives [a, b] 4 (.add d a b st) s d (x + y) ∧
    Gives [a, b] 4 (.sub d a b st) s d (x - y) ∧
    Gives [a, b] 4 (.and d a b st) s d (x &&& y) ∧
    Gives [a, b] 4 (.or d a b st) s d (x ||| y) ∧
    Gives [a, b] 4 (.xor d a b st) s d (x ^^^ y) ∧
    Gives [a, b] 4 (.andn d a b st) s d (x &&& ~~~y) ∧
    Gives [a, b] 4 (.sll d a b st) s d (x <<< (y.toNat % 64)) ∧
    Gives [a, b] 4 (.srl d a b st) s d (x >>> (y.toNat % 64)) ∧
    Gives [a, b] 4 (.sra d a b st) s d (x.sshiftRight (y.toNat % 64)) ∧
    Gives [a, b] 4 (.ror d a b st) s d (x.rotateRight (y.toNat % 64)) ∧
    Gives [a, b] 4 (.slt d a b st) s d (if x.toInt < y.toInt then 1 else 0) ∧
    Gives [a, b] 4 (.sltn d a b st) s d (if x.toNat < y.toNat then 1 else 0) ∧
    Gives [a, b] 4 (.min d a b st) s d (if x.toInt < y.toInt then x else y) ∧
    Gives [a, b] 4 (.max d a b st) s d (if x.toInt < y.toInt then y else x) ∧
    Gives [a, b] 4 (.minn d a b st) s d (if x.toNat < y.toNat then x else y) ∧
    Gives [a, b] 4 (.maxn d a b st) s d (if x.toNat < y.toNat then y else x) ∧
    Gives [a, b] 4 (.mul d a b st) s d (x * y) ∧
    Gives [a, b] 4 (.mulh d a b st) s d (BitVec.ofInt 64 (x.toInt * y.toInt / 2 ^ 64)) ∧
    Gives [a, b] 4 (.mulhn d a b st) s d (BitVec.ofNat 64 (x.toNat * y.toNat / 2 ^ 64)) ∧
    Gives [a, b] 4 (.div d a b st) s d (if y = 0 then BitVec.allOnes 64 else x.sdiv y) ∧
    Gives [a, b] 4 (.divn d a b st) s d (if y = 0 then BitVec.allOnes 64 else x / y) ∧
    Gives [a, b] 4 (.rem d a b st) s d (if y = 0 then x else x.srem y) ∧
    Gives [a, b] 4 (.remn d a b st) s d (if y = 0 then x else x % y) ∧
    Gives [a] 4 (.clz d a st) s d (BitVec.ofNat 64 (if x = 0 then 64 else 63 - Nat.log2 x.toNat)) ∧
    Gives [a] 4 (.ctz d a st) s d (BitVec.ofNat 64 (((List.range 64).find? (x.getLsbD ·)).getD 64)) ∧
    Gives [a] 4 (.cpop d a st) s d (BitVec.ofNat 64 ((List.range 64).countP (x.getLsbD ·))) ∧
    Gives [a] 4 (.sextb d a st) s d ((x.setWidth 8).signExtend 64) ∧
    Gives [a] 4 (.sexth d a st) s d ((x.setWidth 16).signExtend 64) ∧
    Gives [a] 4 (.sextw d a st) s d ((x.setWidth 32).signExtend 64) ∧
    (∃ v, Gives [a] 4 (.bswap d a st) s d v ∧ ∀ k < 8, v.extractLsb' (8 * k) 8 = x.extractLsb' (8 * (7 - k)) 8) ∧
    Gives [a, b, d] 4 (.csel d a b st) s d (if readG s d ≠ 0 then x else readG s b)

/-- 05 R117, R118, Table 05-2; 02 R50: shifts by an amount, immediate arithmetic and wide immediates. -/
def Obligations.ImmediateResults : Prop :=
  ∀ (d a : Reg) (h : BitVec 6) (i : BitVec 12) (u : BitVec 17) (w : BitVec 43) (hi : BitVec 21) (st : BitVec 2) (s : State),
    let x := readG s a
    Gives [a] 4 (.slli d a h st) s d (x <<< h.toNat) ∧
    Gives [a] 4 (.srli d a h st) s d (x >>> h.toNat) ∧
    Gives [a] 4 (.srai d a h st) s d (x.sshiftRight h.toNat) ∧
    Gives [a] 4 (.rori d a h st) s d (x.rotateRight h.toNat) ∧
    Gives [a] 4 (.addi d a i st) s d (x + i.signExtend 64) ∧
    Gives [a] 4 (.andi d a i st) s d (x &&& i.signExtend 64) ∧
    Gives [a] 4 (.ori d a i st) s d (x ||| i.signExtend 64) ∧
    Gives [a] 4 (.xori d a i st) s d (x ^^^ i.signExtend 64) ∧
    Gives [a] 4 (.slti d a i st) s d (if x.toInt < i.toInt then 1 else 0) ∧
    Gives [a] 4 (.sltin d a i st) s d (if x.toNat < (i.signExtend 64).toNat then 1 else 0) ∧
    Gives [] 4 (.movhi d u st) s d (u.signExtend 64 * 4096) ∧
    Gives [] 4 (.pgrel d u st) s d ((s.core.th.pc &&& ~~~0xFFF) + u.signExtend 64 * 4096) ∧
    Gives [] 8 (.ldi d w st) s d (w.signExtend 64) ∧
    Gives [d] 8 (.ldih d hi st) s d (hi ++ (readG s d).extractLsb' 0 43)

/-- 02 R53, R54, Table 02-7: a compressed integer instruction whose field A is not g0 acts as its expansion and is two bytes
long. -/
def Obligations.CompressedIntegerResults : Prop :=
  ∀ (a b : Reg) (s : State),
    Gives [] 2 .cNop s 0 0 ∧
    (a ≠ 0 →
      Gives [a, b] 2 (.cAdd a b) s a (readG s a + readG s b) ∧
      Gives [a, b] 2 (.cSub a b) s a (readG s a - readG s b) ∧
      Gives [b] 2 (.cMv a b) s a (readG s b) ∧
      Gives [a] 2 (.cAddi a b) s a (readG s a + b.signExtend 64) ∧
      Gives [] 2 (.cLi a b) s a (b.signExtend 64) ∧
      Gives [a] 2 (.cSlli a b) s a (readG s a <<< b.toNat) ∧
      Gives [a] 2 (.cSrli a b) s a (readG s a >>> b.toNat) ∧
      Gives [a, b] 2 (.cAnd a b) s a (readG s a &&& readG s b) ∧
      Gives [a, b] 2 (.cOr a b) s a (readG s a ||| readG s b) ∧
      Gives [a, b] 2 (.cXor a b) s a (readG s a ^^^ readG s b))

/-- 05 R119, R120, Table 05-3; 02 Table 02-7: conditional branches go to their target or to the next instruction. -/
def Obligations.BranchResults : Prop :=
  ∀ (a b : Reg) (i : BitVec 12) (st : BitVec 2) (s : State),
    let x := readG s a
    let y := readG s b
    let go (p : Prop) [Decidable p] : Word := s.core.th.pc + (if p then i.signExtend 64 * 2 else 4)
    Goes [a, b] (.beq a b i st) s (go (x = y)) 0 0 0 ∧
    Goes [a, b] (.bne a b i st) s (go (x ≠ y)) 0 0 0 ∧
    Goes [a, b] (.blt a b i st) s (go (x.toInt < y.toInt)) 0 0 0 ∧
    Goes [a, b] (.bge a b i st) s (go (y.toInt ≤ x.toInt)) 0 0 0 ∧
    Goes [a, b] (.bltn a b i st) s (go (x.toNat < y.toNat)) 0 0 0 ∧
    Goes [a, b] (.bgen a b i st) s (go (y.toNat ≤ x.toNat)) 0 0 0 ∧
    Goes [a, b] (.sbnz a b i st) s (go (x ≠ y)) a (x - y) 0 ∧
    Goes [a] (.cBeqz a b) s (s.core.th.pc + (if x = 0 then b.signExtend 64 * 2 else 2)) 0 0 0 ∧
    Goes [a] (.cBnez a b) s (s.core.th.pc + (if x ≠ 0 then b.signExtend 64 * 2 else 2)) 0 0 0

/-- 05 R121; 02 R54, Table 02-7: jumps link and go to their target; an odd target raises ALIGN and writes no link. -/
def Obligations.JumpResults : Prop :=
  ∀ (d a : Reg) (i : BitVec 17) (k : BitVec 12) (c : BitVec 10) (st : BitVec 2) (s : State),
    let pc := s.core.th.pc
    let target := readG s a + k.signExtend 64
    Goes [] (.jal d i st) s (pc + i.signExtend 64 * 2) d (pc + 4) 0 ∧
    Goes [] (.cJ c) s (pc + c.signExtend 64 * 2) 0 0 0 ∧
    (target.getLsbD 0 = false → Goes [a] (.jalr d a k st) s target d (pc + 4) 0) ∧
    (target.getLsbD 0 = true → Traps [a] (.jalr d a k st) s .align target) ∧
    (a ≠ 0 → (readG s a).getLsbD 0 = false → Goes [a] (.cJr a) s (readG s a) 0 0 0) ∧
    (a ≠ 0 → (readG s a).getLsbD 0 = true → Traps [a] (.cJr a) s .align (readG s a))

/-! ### Traps that an instruction takes by itself -/

/-- 05 R132; 02 R53, R59; 20 R430: `svc`, `brk` and the all-zero parcel take their trap with the saved registers, the level
and the pc that R430 gives. -/
def Obligations.SystemCallTraps : Prop :=
  ∀ (a b : Reg) (st : BitVec 2) (s : State),
    Traps [] (.svc st) s .svc 0 ∧ Traps [] (.brk st) s .brk 0 ∧ Traps [] (.cIllegal a b) s .illegal 0

/-- 02 R54, R59; 05 R135, R137, R139; 06 R154: the encodings that stay reserved after decoding raise ILLEGAL, as do `kend` in a
handler and `uret` outside one; the other compressed encodings that are reserved decode to none, and a step raises ILLEGAL for
those (StepRunsDecoded). -/
def Obligations.ReservedFormsTrap : Prop :=
  ∀ (a b d : Reg) (c : BitVec 4) (o : BitVec 7) (st : BitVec 2) (s : State),
    (∀ i ∈ [Instr.cAdd 0 b, .cSub 0 b, .cMv 0 b, .cAddi 0 b, .cLi 0 b, .cSlli 0 b, .cSrli 0 b, .cAnd 0 b, .cOr 0 b, .cXor 0 b,
        .cLd64 0 b, .cSt64 0 b, .cJr 0, .cVsetl 0 b], Traps [] i s .illegal 0) ∧
    (2 ≤ c.toNat → Traps [] (.dprf a o c st) s .illegal 0) ∧
    (a.toNat = 3 ∨ 7 ≤ a.toNat → Traps [] (.vsetty d a st) s .illegal 0) ∧
    (s.csr.utActive = true → s.core.out = false → Traps [] (.kend st) s .illegal 0 ∧ Traps [] .cKend s .illegal 0) ∧
    (s.csr.utActive = false → Traps [] (.uret st) s .illegal 0) ∧
    (b ≠ 0 → decode (leBytes 2 (mk16 16 a b).toNat) = .error .reserved) ∧
    (a ≠ 0 ∨ b ≠ 0 → ∀ op ∈ [21#5, 22#5], decode (leBytes 2 (mk16 op a b).toNat) = .error .reserved) ∧
    decode (leBytes 2 0x113D) = .ok (.cAddi 9 0x1D, 2)

/-- 05 R131: at user level the privileged functions raise PRIV; a supervisor may not return to firmware level (20 R432). -/
def Obligations.PrivilegeTraps : Prop :=
  ∀ (st : BitVec 2) (s : State),
    (s.core.level = .user →
      Traps [] (.tret st) s .priv 0 ∧ Traps [] (.nap st) s .priv 0 ∧ Traps [] (.iflush st) s .priv 0) ∧
    (s.core.level = .supervisor → s.core.sup.sstatus.toNat % 4 = 2 → Traps [] (.tret st) s .priv 0)

/-- 02 R57: under SCHK an instruction that reads a register inside its producer's latency, whichever of its operands that is, raises
STALL instead of reading it. Without SCHK it completes with one of the two values in each operand that is late: so every
register and immediate member of Tables 05-1 to 05-6, the branches and jumps, and the loads and stores. -/
def Obligations.ScoreboardViolation : Prop :=
  (∀ (i : Instr) (s : State), s.csr.schk = true → (∀ r ∈ s.readsOf i, srqPending s r = false) →
    (∃ r ∈ s.readsOf i, hazard s r = true) → ∃ t, exec i s = .next t ∧ TrapEntry s t .stall 0 s.core.th.pc) ∧
  ∀ (d a b e : Reg) (h : BitVec 6) (i : BitVec 12) (hi : BitVec 21) (o : BitVec 7) (c : BitVec 4) (p : Bool) (st : BitVec 2) (s : State),
    s.csr.schk = false → (∀ r ∈ [a, b, e, d], srqPending s r = false) →
    let may (r : Reg) (v : Word) : Prop := v = readG s r ∨ ∃ q, r ≠ 0 ∧ pendingOf s r = some q ∧ v = q.old
    let one (f : Word → Prop) : Prop := ∃ x, may a x ∧ f x
    let two (f : Word → Word → Prop) : Prop := ∃ x y, may a x ∧ may b y ∧ f x y
    let data (f : Word → Word → Prop) : Prop := ∃ x y, may a x ∧ may d y ∧ f x y
    let goes (q : Bool) : Word := s.core.th.pc + (if q then i.signExtend 64 * 2 else 4)
    let g := if p then f64 else f32
    let rm := Rm.of s.csr.frm
    let z := s.csr.ftz
    let val (g : Fmt) (x : Word) : Fv := unpack g z (x.toNat % 2 ^ g.width)
    let takes (j : Instr) (r : Nat × Flags) : Prop := Goes [] j s (s.core.th.pc + 4) d (BitVec.ofNat 64 r.1) r.2
    let truth (r : Bool × Flags) : Nat × Flags := (if r.1 then 1 else 0, r.2)
    let va (x : Word) (n : Nat) : Word := x + o.signExtend 64 * BitVec.ofNat 64 n
    (∀ q ∈ [(Instr.add d a b st, fun (x y : Word) => x + y), (.sub d a b st, fun x y => x - y), (.and d a b st, fun x y => x &&& y),
        (.or d a b st, fun x y => x ||| y), (.xor d a b st, fun x y => x ^^^ y), (.andn d a b st, fun x y => x &&& ~~~y),
        (.sll d a b st, fun x y => x <<< (y.toNat % 64)), (.srl d a b st, fun x y => x >>> (y.toNat % 64)),
        (.sra d a b st, fun x y => x.sshiftRight (y.toNat % 64)), (.ror d a b st, fun x y => x.rotateRight (y.toNat % 64)),
        (.slt d a b st, fun x y => if x.toInt < y.toInt then 1 else 0), (.sltn d a b st, fun x y => if x.toNat < y.toNat then 1 else 0)],
      two (fun x y => Gives [] 4 q.1 s d (q.2 x y))) ∧
    (∀ q ∈ [(Instr.min d a b st, fun (x y : Word) => if x.toInt < y.toInt then x else y),
        (.max d a b st, fun x y => if x.toInt < y.toInt then y else x), (.minn d a b st, fun x y => if x.toNat < y.toNat then x else y),
        (.maxn d a b st, fun x y => if x.toNat < y.toNat then y else x), (.mul d a b st, fun x y => x * y),
        (.mulh d a b st, fun x y => BitVec.ofInt 64 (x.toInt * y.toInt / 2 ^ 64)),
        (.mulhn d a b st, fun x y => BitVec.ofNat 64 (x.toNat * y.toNat / 2 ^ 64)),
        (.div d a b st, fun x y => if y = 0 then BitVec.allOnes 64 else x.sdiv y),
        (.divn d a b st, fun x y => if y = 0 then BitVec.allOnes 64 else x / y),
        (.rem d a b st, fun x y => if y = 0 then x else x.srem y), (.remn d a b st, fun x y => if y = 0 then x else x % y)],
      two (fun x y => Gives [] 4 q.1 s d (q.2 x y))) ∧
    two (fun x y => ∃ w, may d w ∧ Gives [] 4 (.csel d a b st) s d (if w ≠ 0 then x else y)) ∧
    (∀ q ∈ [(Instr.clz d a st, fun (x : Word) => BitVec.ofNat 64 (if x = 0 then 64 else 63 - Nat.log2 x.toNat)),
        (.ctz d a st, fun x => BitVec.ofNat 64 (((List.range 64).find? (x.getLsbD ·)).getD 64)),
        (.cpop d a st, fun x => BitVec.ofNat 64 ((List.range 64).countP (x.getLsbD ·))),
        (.sextb d a st, fun x => (x.setWidth 8).signExtend 64), (.sexth d a st, fun x => (x.setWidth 16).signExtend 64),
        (.sextw d a st, fun x => (x.setWidth 32).signExtend 64), (.slli d a h st, fun x => x <<< h.toNat),
        (.srli d a h st, fun x => x >>> h.toNat), (.srai d a h st, fun x => x.sshiftRight h.toNat),
        (.rori d a h st, fun x => x.rotateRight h.toNat), (.addi d a i st, fun x => x + i.signExtend 64),
        (.andi d a i st, fun x => x &&& i.signExtend 64), (.ori d a i st, fun x => x ||| i.signExtend 64),
        (.xori d a i st, fun x => x ^^^ i.signExtend 64), (.slti d a i st, fun x => if x.toInt < i.toInt then 1 else 0),
        (.sltin d a i st, fun x => if x.toNat < (i.signExtend 64).toNat then 1 else 0)],
      one (fun x => Gives [] 4 q.1 s d (q.2 x))) ∧
    one (fun x => ∃ v, Gives [] 4 (.bswap d a st) s d v ∧ ∀ k < 8, v.extractLsb' (8 * k) 8 = x.extractLsb' (8 * (7 - k)) 8) ∧
    (∃ w, may d w ∧ Gives [] 8 (.ldih d hi st) s d (hi ++ w.extractLsb' 0 43)) ∧
    (∀ q ∈ [(Instr.beq a b i st, fun (x y : Word) => decide (x = y)), (.bne a b i st, fun x y => decide (x ≠ y)),
        (.blt a b i st, fun x y => decide (x.toInt < y.toInt)), (.bge a b i st, fun x y => decide (y.toInt ≤ x.toInt)),
        (.bltn a b i st, fun x y => decide (x.toNat < y.toNat)), (.bgen a b i st, fun x y => decide (y.toNat ≤ x.toNat))],
      two (fun x y => Goes [] q.1 s (goes (q.2 x y)) 0 0 0)) ∧
    two (fun x y => Goes [] (.sbnz a b i st) s (goes (decide (x ≠ y))) a (x - y) 0) ∧
    one (fun x => let target := x + i.signExtend 64
      (target.getLsbD 0 = false → Goes [] (.jalr d a i st) s target d (s.core.th.pc + 4) 0) ∧
      (target.getLsbD 0 = true → Traps [] (.jalr d a i st) s .align target)) ∧
    (∀ q ∈ [(Instr.fadd d a b p st, fun (x y : Word) => fvAdd g rm z (val g x) (val g y)),
        (.fsub d a b p st, fun x y => fvAdd g rm z (val g x) (val g y).neg), (.fmul d a b p st, fun x y => fvMul g rm z (val g x) (val g y)),
        (.fdiv d a b p st, fun x y => fvDiv g rm z (val g x) (val g y)), (.fmin d a b p st, fun x y => fvMinMax g false (val g x) (val g y)),
        (.fmax d a b p st, fun x y => fvMinMax g true (val g x) (val g y)), (.feq d a b p st, fun x y => truth (fvEq (val g x) (val g y))),
        (.flt d a b p st, fun x y => truth (fvLt (val g x) (val g y))), (.fle d a b p st, fun x y => truth (fvLe (val g x) (val g y))),
        (.fsgnj d a b p st, fun x y => (withSign g (signBit g (y.toNat % 2 ^ g.width)) (x.toNat % 2 ^ g.width), 0)),
        (.fsgnjn d a b p st, fun x y => (withSign g (!signBit g (y.toNat % 2 ^ g.width)) (x.toNat % 2 ^ g.width), 0)),
        (.fsgnjx d a b p st, fun x y => (withSign g (signBit g (x.toNat % 2 ^ g.width) ^^ signBit g (y.toNat % 2 ^ g.width))
          (x.toNat % 2 ^ g.width), 0))],
      two (fun x y => takes q.1 (q.2 x y))) ∧
    (∀ q ∈ [(Instr.fsqrt d a p st, fun (x : Word) => fvSqrt g rm z (val g x)), (.fclass d a p st, fun x => (fclassOf g (x.toNat % 2 ^ g.width), 0)),
        (.fcvtfi d a p st, fun x => fvTo g rm z (intToFv true 64 x.toNat)), (.fcvtfn d a p st, fun x => fvTo g rm z (intToFv false 64 x.toNat)),
        (.fcvtif d a p st, fun x => fvToInt rm true 64 (unpack g false (x.toNat % 2 ^ g.width))),
        (.fcvtnf d a p st, fun x => fvToInt rm false 64 (unpack g false (x.toNat % 2 ^ g.width))),
        (.fcvtff d a p st, fun x => fvTo g rm z (val (if p then f32 else f64) x)), (.fcvtbf d a p st, fun x => fvTo bf16 rm z (val g x)),
        (.fcvtfb d a p st, fun x => fvTo g rm z (val bf16 x))], one (fun x => takes q.1 (q.2 x))) ∧
    (∀ v : BitVec 2,
      let fma (g : Fmt) (x y w : Word) : Nat × Flags :=
        let m := val g x
        let n := val g w
        fvFma g rm z (if 2 ≤ v.toNat then m.neg else m) (val g y) (if v = 1 ∨ v = 2 then n.neg else n)
      two (fun x y => ∃ w, may e w ∧ takes (.ffma32 d a b e v st) (fma f32 x y w)) ∧
      two (fun x y => ∃ w, may e w ∧ takes (.ffma64 d a b e v st) (fma f64 x y w))) ∧
    (memoryQueued (1#16 <<< c.toNat) s = false → acquiresQueued s = false →
      one (fun x => Loads [] 4 (.ld8 d a o c st) s d (va x 1) 1 (·.setWidth 64)) ∧
      one (fun x => Loads [] 4 (.ld8s d a o c st) s d (va x 1) 1 (·.signExtend 64)) ∧
      one (fun x => Loads [] 4 (.ld16 d a o c st) s d (va x 2) 2 (·.setWidth 64)) ∧
      one (fun x => Loads [] 4 (.ld16s d a o c st) s d (va x 2) 2 (·.signExtend 64)) ∧
      one (fun x => Loads [] 4 (.ld32 d a o c st) s d (va x 4) 4 (·.setWidth 64)) ∧
      one (fun x => Loads [] 4 (.ld32s d a o c st) s d (va x 4) 4 (·.signExtend 64)) ∧
      one (fun x => Loads [] 4 (.ld64 d a o c st) s d (va x 8) 8 (·.setWidth 64)) ∧
      data (fun x y => Stores [] 4 (.st8 d a o c st) s (va x 1) 1 y) ∧ data (fun x y => Stores [] 4 (.st16 d a o c st) s (va x 2) 2 y) ∧
      data (fun x y => Stores [] 4 (.st32 d a o c st) s (va x 4) 4 y) ∧ data (fun x y => Stores [] 4 (.st64 d a o c st) s (va x 8) 8 y))

/-- 10 R262; 07 R177, R201; 18 R409: an instruction that reads a register whose vector result is still to come does not issue,
whichever of its operands that is, nor
does a plain scalar access while queued instructions access memory in its class, nor any scalar access while a queued one reads a
gated register: only the cycle at which its core is next ready changes. Which queued instructions hold up which scalar accesses
is the model's reading (log 39). -/
def Obligations.ScalarWaitsForQueue : Prop :=
  (∀ (i : Instr) (s : State), (∃ r ∈ s.readsOf i, srqPending s r = true) → Holds i s) ∧
  ∀ (d a b e : Reg) (o : BitVec 7) (imm : BitVec 11) (ord w sc : BitVec 2) (wide : Bool) (c : BitVec 4) (st : BitVec 2) (s : State),
    (memoryQueued (1#16 <<< c.toNat) s = true ∨ acquiresQueued s = true → s.ready [a, d] = true →
      ∀ i ∈ [Instr.ld8 d a o c st, .ld8s d a o c st, .ld16 d a o c st, .ld16s d a o c st, .ld32 d a o c st, .ld32s d a o c st,
        .ld64 d a o c st, .st8 d a o c st, .st16 d a o c st, .st32 d a o c st, .st64 d a o c st, .fempty a imm sc c st,
        .fpeek d a imm sc c st], Holds i s) ∧
    (memoryQueued 1 s = true ∨ acquiresQueued s = true → s.ready [a, d] = true → d ≠ 0 → Holds (.cLd64 d a) s ∧ Holds (.cSt64 d a) s) ∧
    (acquiresQueued s = true → s.ready [a, b, e] = true →
      ∀ i ∈ [Instr.lacq d a imm w sc c st, .srel b a imm w sc c st, .fget d a imm sc c st, .ftake d a imm sc c st,
        .fgive b a imm sc c st, .ll d a imm ord wide sc c st, .sc d a b imm ord wide sc c st, .aswap d a b imm ord wide sc c st,
        .aadd d a b imm ord wide sc c st, .aand d a b imm ord wide sc c st, .aor d a b imm ord wide sc c st,
        .axor d a b imm ord wide sc c st, .amin d a b imm ord wide sc c st, .amax d a b imm ord wide sc c st,
        .aminn d a b imm ord wide sc c st, .amaxn d a b imm ord wide sc c st, .ainc d a b imm ord wide sc c st,
        .adec d a b imm ord wide sc c st, .abadd d a b e imm ord wide sc c st, .acas d a b e imm ord wide sc c st,
        .ewait d a b imm sc c st], Holds i s)

/-! ### CSRs -/

/-- 01 R34; 05 R130: an unassigned number raises ILLEGAL and one above the current level PRIV, with the number in STVAL. -/
def Obligations.CsrAccessTraps : Prop :=
  ∀ (d a : Reg) (c : BitVec 12) (st : BitVec 2) (s : State), ∀ i ∈ [Instr.csrrw d a c st, .csrrs d a c st, .csrrc d a c st],
    (csrLevel c.toNat = none → Traps [] i s .illegal (c.setWidth 64)) ∧
    (∀ l, csrLevel c.toNat = some l → s.core.level.num < l.num → Traps [] i s .priv (c.setWidth 64))

/-- 05 R130; 01 R35, R36; 17 R386; 21 R453: a permitted CSR instruction returns the old value in gd and writes what it computes;
`csrrs` and `csrrc` of g0 only read. A synchronising register waits for the older vector instructions, and a write of TBCFG for
the asynchronous writes into the ways it takes from scratch. At user level a write of VTAGS0 or VTAGS1 that gives a tag to
registers that are not loaded raises FIRSTUSE with the lowest of them and writes nothing. -/
def Obligations.CsrResults : Prop :=
  ∀ (d a : Reg) (c : BitVec 12) (st : BitVec 2) (l : Level) (s : State),
    csrLevel c.toNat = some l → l.num ≤ s.core.level.num → s.ready [a] = true →
    let n := c.toNat
    let old := csrRead s n
    let acts (i : Instr) (v : Word) : Prop := csrFirstUse n v s = none → csrWriteWaits n v s = false →
      ∃ t, exec i s = .next t ∧ ScalarEffect (csrWrite n v s) t (s.core.th.pc + 4) d old 0
    let writes : List (Instr × Word) := (.csrrw d a c st, readG s a) ::
      (if a = 0 then [] else [(.csrrs d a c st, old ||| readG s a), (.csrrc d a c st, old &&& ~~~readG s a)])
    let tagged (v : Word) (r : Nat) : Prop := r < 32 ∧ n = 0x015 + r / 16 ∧ s.csr.vloaded.getLsbD r = false ∧
      (Tag.ofCode (v.toNat / 2 ^ (4 * (r % 16)) % 16)).isSome = true
    (csrSync n = true → vecBusy s = true → ∀ i ∈ [Instr.csrrw d a c st, .csrrs d a c st, .csrrc d a c st], Holds i s) ∧
    (csrSync n = false ∨ vecBusy s = false →
      (∀ w ∈ writes, acts w.1 w.2) ∧
      Gives [] 4 (.csrrs d 0 c st) s d old ∧ Gives [] 4 (.csrrc d 0 c st) s d old ∧
      (n = 0x070 → ∀ w ∈ writes, vecBusy s = true ∨ asyncInto s (s.csr.tbcfg &&& ~~~(w.2.setWidth 16 &&& ~~~reservedWays s)) = true → Holds w.1 s) ∧
      (s.core.level = .user → ∀ w ∈ writes, ∀ r, tagged w.2 r → (∀ q < r, ¬tagged w.2 q) →
        ∃ t, exec w.1 s = .next t ∧ TrapEntry (noteFirstUse r s) t .firstuse (BitVec.ofNat 64 r) s.core.th.pc))

/-! ### Scalar memory accesses -/

/-- 05 R123, R124, Table 05-4; 02 Table 02-7: every scalar load completes with the little-endian bytes at gs1 plus off7
units, zero- or sign-extended, once no queued instruction accesses memory in its class or reads a gated register (07 R177,
R201). -/
def Obligations.ScalarLoadResults : Prop :=
  ∀ (d a : Reg) (o : BitVec 7) (c : BitVec 4) (st : BitVec 2) (s : State),
    let va (z : Nat) : Word := readG s a + o.signExtend 64 * BitVec.ofNat 64 z
    (memoryQueued (1#16 <<< c.toNat) s = false → acquiresQueued s = false →
    Loads [a] 4 (.ld8 d a o c st) s d (va 1) 1 (·.setWidth 64) ∧
    Loads [a] 4 (.ld8s d a o c st) s d (va 1) 1 (·.signExtend 64) ∧
    Loads [a] 4 (.ld16 d a o c st) s d (va 2) 2 (·.setWidth 64) ∧
    Loads [a] 4 (.ld16s d a o c st) s d (va 2) 2 (·.signExtend 64) ∧
    Loads [a] 4 (.ld32 d a o c st) s d (va 4) 4 (·.setWidth 64) ∧
    Loads [a] 4 (.ld32s d a o c st) s d (va 4) 4 (·.signExtend 64) ∧
    Loads [a] 4 (.ld64 d a o c st) s d (va 8) 8 (·.setWidth 64)) ∧
    (memoryQueued 1 s = false → acquiresQueued s = false → d ≠ 0 → Loads [a] 2 (.cLd64 d a) s d (readG s a) 8 (·.setWidth 64))

/-- 05 R123, R124, Table 05-4; 02 Table 02-7: every scalar store completes with the low bytes of gd's field stored at gs1
plus off7 units, once no queued instruction accesses memory in its class or reads a gated register (07 R177, R201). -/
def Obligations.ScalarStoreResults : Prop :=
  ∀ (d a : Reg) (o : BitVec 7) (c : BitVec 4) (st : BitVec 2) (s : State),
    let va (z : Nat) : Word := readG s a + o.signExtend 64 * BitVec.ofNat 64 z
    (memoryQueued (1#16 <<< c.toNat) s = false → acquiresQueued s = false →
    Stores [a, d] 4 (.st8 d a o c st) s (va 1) 1 (readG s d) ∧
    Stores [a, d] 4 (.st16 d a o c st) s (va 2) 2 (readG s d) ∧
    Stores [a, d] 4 (.st32 d a o c st) s (va 4) 4 (readG s d) ∧
    Stores [a, d] 4 (.st64 d a o c st) s (va 8) 8 (readG s d)) ∧
    (memoryQueued 1 s = false → acquiresQueued s = false → d ≠ 0 → Stores [a, d] 2 (.cSt64 d a) s (readG s a) 8 (readG s d))

/-- 05 R125; 07 R189: the checks of a scalar access and their order: ALIGN, then XLATE or PERM, then POISON for one that
reads; an atomic is checked for reading and writing. -/
def Obligations.ScalarAccessTraps : Prop :=
  ∀ (d a b e : Reg) (o : BitVec 7) (imm : BitVec 11) (ord : BitVec 2) (wide : Bool) (sc : BitVec 2) (c : BitVec 4) (st : BitVec 2)
    (s : State),
    let va (z : Nat) : Word := readG s a + o.signExtend 64 * BitVec.ofNat 64 z
    (memoryQueued (1#16 <<< c.toNat) s = false → acquiresQueued s = false →
    AccessTraps [a] (.ld8 d a o c st) s .read (va 1) 1 ∧ AccessTraps [a] (.ld8s d a o c st) s .read (va 1) 1 ∧
    AccessTraps [a] (.ld16 d a o c st) s .read (va 2) 2 ∧ AccessTraps [a] (.ld16s d a o c st) s .read (va 2) 2 ∧
    AccessTraps [a] (.ld32 d a o c st) s .read (va 4) 4 ∧ AccessTraps [a] (.ld32s d a o c st) s .read (va 4) 4 ∧
    AccessTraps [a] (.ld64 d a o c st) s .read (va 8) 8 ∧
    AccessTraps [a, d] (.st8 d a o c st) s .write (va 1) 1 ∧ AccessTraps [a, d] (.st16 d a o c st) s .write (va 2) 2 ∧
    AccessTraps [a, d] (.st32 d a o c st) s .write (va 4) 4 ∧ AccessTraps [a, d] (.st64 d a o c st) s .write (va 8) 8) ∧
    (memoryQueued 1 s = false → acquiresQueued s = false → d ≠ 0 → AccessTraps [a] (.cLd64 d a) s .read (readG s a) 8 ∧
      AccessTraps [a, d] (.cSt64 d a) s .write (readG s a) 8) ∧
    (acquiresQueued s = false →
     let z := if wide then 8 else 4
     let va : Word := readG s a + imm.signExtend 64 * BitVec.ofNat 64 z
     (∀ i ∈ [Instr.aswap d a b imm ord wide sc c st, .aadd d a b imm ord wide sc c st, .aand d a b imm ord wide sc c st,
         .aor d a b imm ord wide sc c st, .axor d a b imm ord wide sc c st, .amin d a b imm ord wide sc c st,
         .amax d a b imm ord wide sc c st, .aminn d a b imm ord wide sc c st, .amaxn d a b imm ord wide sc c st,
         .ainc d a b imm ord wide sc c st, .adec d a b imm ord wide sc c st], AccessTraps [a, b] i s .rw va z) ∧
     AccessTraps [a, b, e] (.abadd d a b e imm ord wide sc c st) s .rw va z ∧
     AccessTraps [a, b, e] (.acas d a b e imm ord wide sc c st) s .rw va z)

/-- 00 R6; 17 R382, R402; 20 R445: the bytes a store puts at a location with working memory read back under the same key,
least significant first, and every other byte reads under that key as before. -/
def Obligations.StoredBytesReadBack : Prop :=
  ∀ (key loc n v : Nat) (keepV : Bool) (s : State), s.memOk → (loc + n ≤ dspLoc + reqOff ∨ dspLoc + 0x03FFF000 ≤ loc) →
    (∀ k < n, locPresent s.dev (loc + k) = true) →
    let t := storeLoc s key loc n v keepV
    readNat t.dev.mem key n loc = v % 2 ^ (8 * n) ∧
    ∀ x, (x < loc ∨ loc + n ≤ x) → readByte t.dev.mem key x = readByte s.dev.mem key x

/-- 20 R434 to R437: translation changes no byte of memory, no register and no other core; it fills TLBs, reads lines and may log
an error. The A and D bits of an access change no byte but that of its page-table entry. -/
def Obligations.TranslationKeepsMemory : Prop :=
  ∀ (s : State) (ctx : Ctx) (id : TlbId) (acc : Acc) (va : Word) (p : Place),
    let t := (translate s ctx id acc va).1
    t = { s with dev := { s.dev with tlbs := t.dev.tlbs, host := t.dev.host, fabric := t.dev.fabric } } ∧
    (s.memOk → ∀ x, (∀ b, p.ad ≠ some (x, b)) → cellGet (setAD p s).dev.mem.cells x = cellGet s.dev.mem.cells x)

/-! ### Scalar floating point -/

/-- 05 R127, R128, Tables 05-5 and 05-6; 04 R91: every FPU member completes with its result in gd, zero-extended, its flags
in FFLAGS and nothing else changed. F32 operands are the low 32 bits of their registers. -/
def Obligations.FloatResults : Prop :=
  ∀ (d a b : Reg) (p : Bool) (st : BitVec 2) (s : State),
    let f := if p then f64 else f32
    let rm := Rm.of s.csr.frm
    let z := s.csr.ftz
    let bits (g : Fmt) (r : Reg) : Nat := (readG s r).toNat % 2 ^ g.width
    let val (g : Fmt) (r : Reg) : Fv := unpack g z (bits g r)
    let x := val f a
    let y := val f b
    let does (rs : List Reg) (i : Instr) (r : Nat × Flags) : Prop := Goes rs i s (s.core.th.pc + 4) d (BitVec.ofNat 64 r.1) r.2
    let cmp (r : Bool × Flags) : Nat × Flags := (if r.1 then 1 else 0, r.2)
    let sign (r : Reg) : Bool := signBit f (bits f r)
    does [a, b] (.fadd d a b p st) (fvAdd f rm z x y) ∧
    does [a, b] (.fsub d a b p st) (fvAdd f rm z x y.neg) ∧
    does [a, b] (.fmul d a b p st) (fvMul f rm z x y) ∧
    does [a, b] (.fdiv d a b p st) (fvDiv f rm z x y) ∧
    does [a] (.fsqrt d a p st) (fvSqrt f rm z x) ∧
    does [a, b] (.fmin d a b p st) (fvMinMax f false x y) ∧
    does [a, b] (.fmax d a b p st) (fvMinMax f true x y) ∧
    does [a, b] (.feq d a b p st) (cmp (fvEq x y)) ∧
    does [a, b] (.flt d a b p st) (cmp (fvLt x y)) ∧
    does [a, b] (.fle d a b p st) (cmp (fvLe x y)) ∧
    does [a] (.fclass d a p st) (fclassOf f (bits f a), 0) ∧
    does [a, b] (.fsgnj d a b p st) (withSign f (sign b) (bits f a), 0) ∧
    does [a, b] (.fsgnjn d a b p st) (withSign f (!sign b) (bits f a), 0) ∧
    does [a, b] (.fsgnjx d a b p st) (withSign f (sign a ^^ sign b) (bits f a), 0) ∧
    does [a] (.fcvtfi d a p st) (fvTo f rm z (intToFv true 64 (readG s a).toNat)) ∧
    does [a] (.fcvtfn d a p st) (fvTo f rm z (intToFv false 64 (readG s a).toNat)) ∧
    does [a] (.fcvtif d a p st) (fvToInt rm true 64 (unpack f false (bits f a))) ∧
    does [a] (.fcvtnf d a p st) (fvToInt rm false 64 (unpack f false (bits f a))) ∧
    does [a] (.fcvtff d a p st) (fvTo f rm z (val (if p then f32 else f64) a)) ∧
    does [a] (.fcvtbf d a p st) (fvTo bf16 rm z x) ∧
    does [a] (.fcvtfb d a p st) (fvTo f rm z (val bf16 a))

/-- 05 R129: the fused members complete with one rounding of ±(gs1 × gs2) ± gs3: variant 0 adds the addend to the product, 1 subtracts it,
2 subtracts it from the negated product, 3 adds it to the negated product. -/
def Obligations.FusedResults : Prop :=
  ∀ (d a b e : Reg) (st : BitVec 2) (s : State),
    let rm := Rm.of s.csr.frm
    let z := s.csr.ftz
    let val (g : Fmt) (r : Reg) : Fv := unpack g z ((readG s r).toNat % 2 ^ g.width)
    let does (i : Instr) (r : Nat × Flags) : Prop :=
      Goes [a, b, e] i s (s.core.th.pc + 4) d (BitVec.ofNat 64 r.1) r.2
    (∀ f, f = f32 →
      does (.ffma32 d a b e 0 st) (fvFma f rm z (val f a) (val f b) (val f e)) ∧
      does (.ffma32 d a b e 1 st) (fvFma f rm z (val f a) (val f b) (val f e).neg) ∧
      does (.ffma32 d a b e 2 st) (fvFma f rm z (val f a).neg (val f b) (val f e).neg) ∧
      does (.ffma32 d a b e 3 st) (fvFma f rm z (val f a).neg (val f b) (val f e))) ∧
    (∀ f, f = f64 →
      does (.ffma64 d a b e 0 st) (fvFma f rm z (val f a) (val f b) (val f e)) ∧
      does (.ffma64 d a b e 1 st) (fvFma f rm z (val f a) (val f b) (val f e).neg) ∧
      does (.ffma64 d a b e 2 st) (fvFma f rm z (val f a).neg (val f b) (val f e).neg) ∧
      does (.ffma64 d a b e 3 st) (fvFma f rm z (val f a).neg (val f b) (val f e)))

/-! ### Vector configuration and the vector unit -/

/-- 06 R152, R153, R155; 01 R22 to R24; 02 R51, Table 02-7: the scalar members of VCFG complete in every spelling: vl and
the grant, VTYPE with its effect on vl, and the die fields, which replace bits 18:8 of VTYPE. -/
def Obligations.VcfgResults : Prop :=
  ∀ (d a b : Reg) (ds : BitVec 3) (vm : BitVec 2) (dm : BitVec 8) (cls mi : BitVec 4) (me : Bool) (st : BitVec 2) (s : State),
    let x := readG s a
    let y := readG s b
    let vl : BitVec 15 := BitVec.ofNat 15 (min x.toNat s.vlmax)
    let s1 := s.mapCsr (fun c => { c with vl := vl, leaseGranted := leaseOffer s })
    let typed (v : Word) : State := s.mapCsr (fun c => if vtValid v
      then { c with vtype := v, vl := BitVec.ofNat 15 (min c.vl.toNat (vlmaxOf s.vlen v)) }
      else { c with vtype := 0x8000000000000000, vl := 0 })
    let died : Word := BitVec.ofNat 64 ((s.csr.vtype.toNat / 2 ^ 19) * 2 ^ 19 + y.toNat % 8 * 2 ^ 16 + x.toNat % 256 * 2 ^ 8
      + s.csr.vtype.toNat % 2 ^ 8)
    Acts [a] 4 (.vsetl d a st) s s1 d (vl.setWidth 64) ∧
    Acts [a] 8 (.xv 0 0x26 ds vm dm cls me mi b a d st) s s1 d (vl.setWidth 64) ∧
    (b ≠ 0 → Acts [a] 2 (.cVsetl b a) s s1 b (vl.setWidth 64)) ∧
    Acts [a] 4 (.vsetvt d a st) s (typed x) d (BitVec.ofNat 64 (typed x).vlmax) ∧
    Acts [a] 8 (.xv 1 0x26 ds vm dm cls me mi b a d st) s (typed x) d (BitVec.ofNat 64 (typed x).vlmax) ∧
    Acts [a, b] 4 (.vsetdie a b st) s (typed died) 0 0 ∧
    Acts [a, b] 8 (.xv 3 0x26 ds vm dm cls me mi b a d st) s (typed died) 0 0

/-- 10 R260, R262; 02 R43, R51, R52, Table 02-2; 06 Tables 06-1, 06-3, 06-5 to 06-9; 07 R183, R191, R193, R200; 08 R223, R232, R236;
the encodings of spec/03: every vector instruction, in every spelling that has a form, leaves the scalar unit once the registers it
captures are ready and the queue and the SRQ have room: it stands at the end of the queue with what it
captured, and execution goes on behind it. With 64 entries in the queue, or
without room in the SRQ of 16, it does not issue: only the cycle at which its core is next ready changes. Only `vsetty` needs
a tag code that is not reserved (06 R154). The form of each instruction: its operation, its destination, its sources, its mask, its
class, the scalar registers it captures and those its results go to; XV gives its inner word's form other die fields and another
mask, XVI the immediate for its scalar. -/
def Obligations.VectorInstructionsEnterQueue : Prop :=
  (∀ (i : Instr) (f : VForm) (bs : List Byte) (s : State), formOf i = some f → encode i = some bs →
    (∀ c, f.desc.op = .setty c → (Tag.ofCode c.toNat).isSome) → s.ready f.reads = true →
    (s.core.th.viq.length < 64 → srqUsed s + f.ports.res.length ≤ 16 →
      ∃ t, exec i s = .next t ∧ VecEntered s t (BitVec.ofNat 64 bs.length) f) ∧
    (64 ≤ s.core.th.viq.length ∨ 16 < srqUsed s + f.ports.res.length →
      ∃ k, exec i s = .next { s with core := { s.core with ready := k } } ∧ s.dev.clk < k)) ∧
  (∀ (d a b e t p i : BitVec 5) (m me ret q8 keep role : Bool) (c cls mi : BitVec 4) (dm : BitVec 8) (f : BitVec 3)
      (w grp sc scope st vm : BitVec 2) (imm : BitVec 11) (ds : BitVec 3) (f6 op : BitVec 6) (imm32 : BitVec 32),
    let form (op : VOp) (vd va : Reg) (b : VSrc) (vc gd : Reg) (masked : Bool) (mi : BitVec 4) (dm : Option (BitVec 8))
        (cls : BitVec 4) (ports : VPorts) : VForm :=
      ⟨{ op := op, vd := vd, va := va, b := b, vc := vc, gd := gd, masked := masked, mi := mi, dm := dm, ds := none, cls := cls }, ports⟩
    (∀ x ∈ ([
      (.vaddVv d a b m st, .int .add), (.vsubVv d a b m st, .int .sub), (.vrsubVv d a b m st, .int .rsub),
      (.vmulVv d a b m st, .int .mul), (.vmulhVv d a b m st, .int .mulh), (.vmulhnVv d a b m st, .int .mulhn),
      (.vmacVv d a b m st, .int .mac), (.vandVv d a b m st, .int .and), (.vorVv d a b m st, .int .or),
      (.vxorVv d a b m st, .int .xor), (.vsllVv d a b m st, .int .sll), (.vsrlVv d a b m st, .int .srl),
      (.vsraVv d a b m st, .int .sra), (.vminVv d a b m st, .int .min), (.vmaxVv d a b m st, .int .max),
      (.vminnVv d a b m st, .int .minn)] : List (Instr × VOp)),
      formOf x.1 = some (form x.2 d a (.vec b) 0 0 m 0 none 0 ⟨none, none, none, []⟩)) ∧
    (∀ x ∈ ([
      (.vmaxnVv d a b m st, .int .maxn), (.vdivVv d a b m st, .int .div), (.vdivnVv d a b m st, .int .divn),
      (.vremVv d a b m st, .int .rem), (.vremnVv d a b m st, .int .remn), (.vsaddVv d a b m st, .int .sadd),
      (.vssubVv d a b m st, .int .ssub), (.vmergeVv (d, m) a b st, .merge), (.vseqVv d a b m st, .icmp .eq),
      (.vsneVv d a b m st, .icmp .ne), (.vsltVv d a b m st, .icmp .lt), (.vsltnVv d a b m st, .icmp .ltn),
      (.vsleVv d a b m st, .icmp .le), (.vslenVv d a b m st, .icmp .len), (.vfaddVv d a b m st, .fp .add),
      (.vfsubVv d a b m st, .fp .sub)] : List (Instr × VOp)),
      formOf x.1 = some (form x.2 d a (.vec b) 0 0 m 0 none 0 ⟨none, none, none, []⟩)) ∧
    (∀ x ∈ ([
      (.vfmulVv d a b m st, .fp .mul), (.vfdivVv d a b m st, .fp .div), (.vfminVv d a b m st, .fp .min),
      (.vfmaxVv d a b m st, .fp .max), (.vfsgnjVv d a b m st, .fp .sgnj), (.vfsgnjnVv d a b m st, .fp .sgnjn),
      (.vfsgnjxVv d a b m st, .fp .sgnjx), (.vfeqVv d a b m st, .fcmp .eq), (.vfneVv d a b m st, .fcmp .ne),
      (.vfltVv d a b m st, .fcmp .lt), (.vfleVv d a b m st, .fcmp .le), (.vfmergeVv (d, m) a b st, .fmerge),
      (.vfmaccVv d a b m st, .fma .macc), (.vfnmaccVv d a b m st, .fma .nmacc), (.vfmsacVv d a b m st, .fma .msac),
      (.vfnmsacVv d a b m st, .fma .nmsac)] : List (Instr × VOp)),
      formOf x.1 = some (form x.2 d a (.vec b) 0 0 m 0 none 0 ⟨none, none, none, []⟩)) ∧
    (∀ x ∈ ([
      (.vrgath d a b m st, .perm .rgath), (.vzip d a b m st, .perm .zip)] : List (Instr × VOp)),
      formOf x.1 = some (form x.2 d a (.vec b) 0 0 m 0 none 0 ⟨none, none, none, []⟩)) ∧
    (∀ x ∈ ([
      (.vaddVs d a b m st, .int .add), (.vsubVs d a b m st, .int .sub), (.vrsubVs d a b m st, .int .rsub),
      (.vmulVs d a b m st, .int .mul), (.vmulhVs d a b m st, .int .mulh), (.vmulhnVs d a b m st, .int .mulhn),
      (.vmacVs d a b m st, .int .mac), (.vandVs d a b m st, .int .and), (.vorVs d a b m st, .int .or),
      (.vxorVs d a b m st, .int .xor), (.vsllVs d a b m st, .int .sll), (.vsrlVs d a b m st, .int .srl),
      (.vsraVs d a b m st, .int .sra), (.vminVs d a b m st, .int .min), (.vmaxVs d a b m st, .int .max),
      (.vminnVs d a b m st, .int .minn)] : List (Instr × VOp)),
      formOf x.1 = some (form x.2 d b .gpr 0 0 m 0 none 0 ⟨some a, none, none, []⟩)) ∧
    (∀ x ∈ ([
      (.vmaxnVs d a b m st, .int .maxn), (.vdivVs d a b m st, .int .div), (.vdivnVs d a b m st, .int .divn),
      (.vremVs d a b m st, .int .rem), (.vremnVs d a b m st, .int .remn), (.vsaddVs d a b m st, .int .sadd),
      (.vssubVs d a b m st, .int .ssub), (.vmergeVs (d, m) a b st, .merge), (.vseqVs d a b m st, .icmp .eq),
      (.vsneVs d a b m st, .icmp .ne), (.vsltVs d a b m st, .icmp .lt), (.vsltnVs d a b m st, .icmp .ltn),
      (.vsleVs d a b m st, .icmp .le), (.vslenVs d a b m st, .icmp .len), (.vfaddVs d a b m st, .fp .add),
      (.vfsubVs d a b m st, .fp .sub)] : List (Instr × VOp)),
      formOf x.1 = some (form x.2 d b .gpr 0 0 m 0 none 0 ⟨some a, none, none, []⟩)) ∧
    (∀ x ∈ ([
      (.vfmulVs d a b m st, .fp .mul), (.vfdivVs d a b m st, .fp .div), (.vfminVs d a b m st, .fp .min),
      (.vfmaxVs d a b m st, .fp .max), (.vfsgnjVs d a b m st, .fp .sgnj), (.vfsgnjnVs d a b m st, .fp .sgnjn),
      (.vfsgnjxVs d a b m st, .fp .sgnjx), (.vfeqVs d a b m st, .fcmp .eq), (.vfneVs d a b m st, .fcmp .ne),
      (.vfltVs d a b m st, .fcmp .lt), (.vfleVs d a b m st, .fcmp .le), (.vfmergeVs (d, m) a b st, .fmerge),
      (.vfmaccVs d a b m st, .fma .macc), (.vfnmaccVs d a b m st, .fma .nmacc), (.vfmsacVs d a b m st, .fma .msac),
      (.vfnmsacVs d a b m st, .fma .nmsac)] : List (Instr × VOp)),
      formOf x.1 = some (form x.2 d b .gpr 0 0 m 0 none 0 ⟨some a, none, none, []⟩)) ∧
    (∀ x ∈ ([
      (.vaddVi d b i m st, .int .add), (.vsubVi d b i m st, .int .sub), (.vrsubVi d b i m st, .int .rsub),
      (.vmulVi d b i m st, .int .mul), (.vmulhVi d b i m st, .int .mulh), (.vmulhnVi d b i m st, .int .mulhn),
      (.vmacVi d b i m st, .int .mac), (.vandVi d b i m st, .int .and), (.vorVi d b i m st, .int .or),
      (.vxorVi d b i m st, .int .xor), (.vsllVi d b i m st, .int .sll), (.vsrlVi d b i m st, .int .srl),
      (.vsraVi d b i m st, .int .sra), (.vminVi d b i m st, .int .min), (.vmaxVi d b i m st, .int .max),
      (.vminnVi d b i m st, .int .minn)] : List (Instr × VOp)),
      formOf x.1 = some (form x.2 d b (.imm5 i) 0 0 m 0 none 0 ⟨none, none, none, []⟩)) ∧
    (∀ x ∈ ([
      (.vmaxnVi d b i m st, .int .maxn), (.vdivVi d b i m st, .int .div), (.vdivnVi d b i m st, .int .divn),
      (.vremVi d b i m st, .int .rem), (.vremnVi d b i m st, .int .remn), (.vsaddVi d b i m st, .int .sadd),
      (.vssubVi d b i m st, .int .ssub), (.vmergeVi (d, m) b i st, .merge), (.vseqVi d b i m st, .icmp .eq),
      (.vsneVi d b i m st, .icmp .ne), (.vsltVi d b i m st, .icmp .lt), (.vsltnVi d b i m st, .icmp .ltn),
      (.vsleVi d b i m st, .icmp .le), (.vslenVi d b i m st, .icmp .len)] : List (Instr × VOp)),
      formOf x.1 = some (form x.2 d b (.imm5 i) 0 0 m 0 none 0 ⟨none, none, none, []⟩)) ∧
    (∀ x ∈ ([
      (.vmvVv d a m st, .mv), (.vfsqrt d (a, none) m st, .fp .sqrt), (.vfrsqe d (a, none) m st, .fp .rsqe),
      (.vfrece d (a, none) m st, .fp .rece), (.vfexp d (a, none) m st, .fp .exp), (.vfexp2 d (a, none) m st, .fp .exp2),
      (.vflog2 d (a, none) m st, .fp .log2), (.vfclass d (a, none) m st, .fp .cls), (.vfcvt d (a, none) m st, .fcvt),
      (.vfround d (a, none) m st, .fp .round), (.vscan d a m st, .scan), (.vfscan d a m st, .fscan),
      (.vcompress d a m st, .perm .compress), (.vexpand d a m st, .perm .expand), (.vunzipe d a m st, .perm .unzipe),
      (.vunzipo d a m st, .perm .unzipo)] : List (Instr × VOp)),
      formOf x.1 = some (form x.2 d a .none 0 0 m 0 none 0 ⟨none, none, none, []⟩)) ∧
    (∀ x ∈ ([
      (.vdrot d a m st, .perm .drot)] : List (Instr × VOp)),
      formOf x.1 = some (form x.2 d a .none 0 0 m 0 none 0 ⟨none, none, none, []⟩)) ∧
    formOf (.vmvVs d a m st) = some (form .mv d 0 .gpr 0 0 m 0 none 0 ⟨some a, none, none, []⟩) ∧
    formOf (.vmvVi d i m st) = some (form .mv d 0 (.imm5 i) 0 0 m 0 none 0 ⟨none, none, none, []⟩) ∧
    (∀ x ∈ ([
      (.vfsqrt d (a, some b) m st, .fp .sqrt), (.vfrsqe d (a, some b) m st, .fp .rsqe), (.vfrece d (a, some b) m st, .fp .rece),
      (.vfexp d (a, some b) m st, .fp .exp), (.vfexp2 d (a, some b) m st, .fp .exp2), (.vflog2 d (a, some b) m st, .fp .log2),
      (.vfclass d (a, some b) m st, .fp .cls), (.vfcvt d (a, some b) m st, .fcvt), (.vfround d (a, some b) m st, .fp .round)] : List (Instr × VOp)),
      formOf x.1 = some (form x.2 d a .gpr 0 0 m 0 none 0 ⟨some b, none, none, []⟩)) ∧
    (∀ x ∈ ([
      (.vredsum d a b m st, .red .sum), (.vredand d a b m st, .red .and), (.vredor d a b m st, .red .or),
      (.vredxor d a b m st, .red .xor), (.vredmin d a b m st, .red .min), (.vredmax d a b m st, .red .max),
      (.vredminn d a b m st, .red .minn), (.vredmaxn d a b m st, .red .maxn), (.vfredsum d a b m st, .red .fsum),
      (.vfredmin d a b m st, .red .fmin), (.vfredmax d a b m st, .red .fmax)] : List (Instr × VOp)),
      formOf x.1 = some (form x.2 0 a .none 0 d m 0 none 0 ⟨none, some b, none, [d]⟩)) ∧
    formOf (.vsmx d a b m st) = some (form .smx d a .none 0 b m 0 none 0 ⟨none, some b, some (b + 1), [b, b + 1, b + 2]⟩) ∧
    (∀ x ∈ ([
      (.vslideup d a b m st, .perm .slideup), (.vslidedn d a b m st, .perm .slidedn), (.vslide1up d a b m st, .perm .slide1up),
      (.vslide1dn d a b m st, .perm .slide1dn)] : List (Instr × VOp)),
      formOf x.1 = some (form x.2 d a .none 0 0 m 0 none 0 ⟨none, some b, none, []⟩)) ∧
    formOf (.vsplat d a m st) = some (form (.perm .splat) d 0 .none 0 0 m 0 none 0 ⟨some a, some 0, none, []⟩) ∧
    formOf (.vid d m st) = some (form (.perm .vid) d 0 .none 0 0 m 0 none 0 ⟨some 0, some 0, none, []⟩) ∧
    formOf (.vins d a b m st) = some (form (.perm .ins) d 0 .none 0 0 m 0 none 0 ⟨some a, some b, none, []⟩) ∧
    formOf (.vext d a b st) = some (form .ext 0 a .none 0 d false 0 none 0 ⟨none, some b, none, [d]⟩) ∧
    (∀ x ∈ ([
      (.mand d a b st, .mask .and), (.mor d a b st, .mask .or), (.mxor d a b st, .mask .xor), (.mandn d a b st, .mask .andn)] : List (Instr × VOp)),
      formOf x.1 = some (form x.2 d a (.vec b) 0 0 false 0 none 0 ⟨none, none, none, []⟩)) ∧
    (∀ x ∈ ([
      (.mnot d a st, .mask .not), (.mmv d a st, .mask .mv), (.msbf d a st, .mask .sbf), (.mfromv d a st, .mask .fromv),
      (.mtov d a st, .mask .tov)] : List (Instr × VOp)),
      formOf x.1 = some (form x.2 d a .none 0 0 false 0 none 0 ⟨none, none, none, []⟩)) ∧
    (∀ x ∈ ([
      (.mset d st, .mask .set), (.mclr d st, .mask .clr), (.vsetty d t st, .setty t)] : List (Instr × VOp)),
      formOf x.1 = some (form x.2 d 0 .none 0 0 false 0 none 0 ⟨none, none, none, []⟩)) ∧
    (∀ x ∈ ([
      (.mpop d a st, .mask .pop), (.mfirst d a st, .mask .first), (.epost d a st, .epost)] : List (Instr × VOp)),
      formOf x.1 = some (form x.2 0 a .none 0 d false 0 none 0 ⟨none, none, none, [d]⟩)) ∧
    (∀ x ∈ ([
      (.vld16 d a c m st, .load .unit 2), (.vldff16 d a c m st, .loadff 2), (.vld32 d a c m st, .load .unit 4),
      (.vldff32 d a c m st, .loadff 4), (.vld64 d a c m st, .load .unit 8), (.vldff64 d a c m st, .loadff 8)] : List (Instr × VOp)),
      formOf x.1 = some (form x.2 d 0 .none 0 0 m 0 none c ⟨some a, none, none, []⟩)) ∧
    (∀ x ∈ ([
      (.vlds16 d a b c m st, .load .stride 2), (.vlds32 d a b c m st, .load .stride 4), (.vlds64 d a b c m st, .load .stride 8)] : List (Instr × VOp)),
      formOf x.1 = some (form x.2 d 0 .none 0 0 m 0 none c ⟨some a, some b, none, []⟩)) ∧
    (∀ x ∈ ([
      (.vldx16 d a b c m st, .load .index 2), (.vldx32 d a b c m st, .load .index 4), (.vldx64 d a b c m st, .load .index 8)] : List (Instr × VOp)),
      formOf x.1 = some (form x.2 d 0 (.vec b) 0 0 m 0 none c ⟨some a, none, none, []⟩)) ∧
    (∀ x ∈ ([
      (.vst16 d a c m st, .store .unit 2 true), (.vst32 d a c m st, .store .unit 4 true),
      (.vst64 d a c m st, .store .unit 8 true)] : List (Instr × VOp)),
      formOf x.1 = some (form x.2 0 0 .none d 0 m 0 none c ⟨some a, none, none, []⟩)) ∧
    (∀ x ∈ ([
      (.vsts16 d a b c m st, .store .stride 2 true), (.vsts32 d a b c m st, .store .stride 4 true),
      (.vsts64 d a b c m st, .store .stride 8 true)] : List (Instr × VOp)),
      formOf x.1 = some (form x.2 0 0 .none d 0 m 0 none c ⟨some a, some b, none, []⟩)) ∧
    (∀ x ∈ ([
      (.vstxo16 d a b c m st, .store .index 2 true), (.vstxa16 d a b c m st, .store .index 2 false),
      (.vstxo32 d a b c m st, .store .index 4 true), (.vstxa32 d a b c m st, .store .index 4 false),
      (.vstxo64 d a b c m st, .store .index 8 true), (.vstxa64 d a b c m st, .store .index 8 false)] : List (Instr × VOp)),
      formOf x.1 = some (form x.2 0 0 (.vec b) d 0 m 0 none c ⟨some a, none, none, []⟩)) ∧
    (∀ x ∈ ([
      (.vaadd d a b e ret dm me mi sc cls st, .amo .add ret), (.vaand d a b e ret dm me mi sc cls st, .amo .and ret),
      (.vaor d a b e ret dm me mi sc cls st, .amo .or ret), (.vaxor d a b e ret dm me mi sc cls st, .amo .xor ret),
      (.vamin d a b e ret dm me mi sc cls st, .amo .min ret), (.vamax d a b e ret dm me mi sc cls st, .amo .max ret),
      (.vaswap d a b e ret dm me mi sc cls st, .amo .swap ret), (.vainc d a b e ret dm me mi sc cls st, .amo .inc ret),
      (.vabadd d a b e ret dm me mi sc cls st, .amo .badd ret), (.vfaadd d a b e ret dm me mi sc cls st, .amo .fadd ret),
      (.vfamax d a b e ret dm me mi sc cls st, .amo .fmax ret), (.vsc d a b e dm me mi sc cls st, .sc)] : List (Instr × VOp)),
      formOf x.1 = some (form x.2 d 0 (.vec b) e 0 me mi (some dm) cls ⟨some a, none, none, []⟩)) ∧
    formOf (.vgl d a b dm me mi sc cls st) = some (form .gl d 0 (.vec b) 0 0 me mi (some dm) cls ⟨some a, none, none, []⟩) ∧
    (∀ x ∈ ([
      (.vldq d a q8 grp dm me mi cls st, .ldq q8 grp.toNat), (.vldf16 d a dm me mi cls st, .ldf16),
      (.vlseg d a f w dm me mi cls st, .ldseg (f.toNat + 1) (2 ^ w.toNat))] : List (Instr × VOp)),
      formOf x.1 = some (form x.2 d 0 .none 0 0 me mi (some dm) cls ⟨some a, none, none, []⟩)) ∧
    (∀ x ∈ ([
      (.vstq e a q8 grp dm me mi cls st, .stq q8 grp.toNat), (.vstf16 e a dm me mi cls st, .stf16),
      (.vsseg e a f w dm me mi cls st, .stseg (f.toNat + 1) (2 ^ w.toNat))] : List (Instr × VOp)),
      formOf x.1 = some (form x.2 0 0 .none e 0 me mi (some dm) cls ⟨some a, none, none, []⟩)) ∧
    formOf (.vpush d b a dm cls st) = some (form .push d a .none 0 0 false 0 (some dm) cls ⟨none, some b, none, []⟩) ∧
    formOf (.vtake d a dm st) = some (form .take d a .none 0 0 false 0 (some dm) 0 ⟨none, none, none, []⟩) ∧
    (∀ x ∈ ([
      (.vempty d dm st, .vempty), (.vfill d dm st, .vfill)] : List (Instr × VOp)),
      formOf x.1 = some (form x.2 d 0 .none 0 0 false 0 (some dm) 0 ⟨none, none, none, []⟩)) ∧
    formOf (.sbind d a imm st) = some (form (.sbind imm) d 0 .none 0 0 false 0 none 0 ⟨some a, some 0, none, []⟩) ∧
    (∀ x ∈ ([
      (.sunbind d st, .sunbind), (.sflush d st, .sflush)] : List (Instr × VOp)),
      formOf x.1 = some (form x.2 d 0 .none 0 0 false 0 none 0 ⟨some 0, some 0, none, []⟩)) ∧
    formOf (.sstat d b st) = some (form .sstat 0 b .none 0 d false 0 none 0 ⟨none, none, none, [d]⟩) ∧
    formOf (.tplanar d a b e keep cls st) = some (form (.tplanar keep) 0 0 .none e d false 0 none cls ⟨some a, some b, none, [d]⟩) ∧
    formOf (.tpost d a scope cls st) = some (form (.tpost scope) 0 a .none 0 d false 0 none cls ⟨none, none, none, [d]⟩) ∧
    formOf (.tzero a cls st) = some (form .tzero 0 0 .none 0 0 false 0 none cls ⟨some a, some 0, none, []⟩) ∧
    (∀ x ∈ ([
      (.trenorm a b cls st, .trenorm), (.tinit a b p role cls st, .tinit p role)] : List (Instr × VOp)),
      formOf x.1 = some (form x.2 0 0 .none 0 0 false 0 none cls ⟨some a, some b, none, []⟩)) ∧
    formOf (.tload d a b me mi cls st) = some (form .tload d 0 .none 0 0 me mi none cls ⟨some a, some b, none, []⟩) ∧
    formOf (.tstat d a cls st) = some (form .tstat 0 0 .none 0 d false 0 none cls ⟨some a, some 0, none, [d]⟩) ∧
    formOf (.tflags d a b cls st) = some (form .tflags 0 0 .none 0 d false 0 none cls ⟨some a, some b, none, [d]⟩) ∧
    (∀ x ∈ ([
      (.cVadd a b, .int .add), (.cVfadd a b, .fp .add)] : List (Instr × VOp)),
      formOf x.1 = some (form x.2 a a (.vec b) 0 0 false 0 none 0 ⟨none, none, none, []⟩)) ∧
    formOf (.cVmv a b) = some (form .mv a b .none 0 0 false 0 none 0 ⟨none, none, none, []⟩) ∧
    (∀ k g, 0x27 ≤ op.toNat → op.toNat ≤ 0x35 → decode32 (xvInnerWord f6 op vm cls me b a d) = some k → plainForm k = some g →
      formOf (.xv f6 op ds vm dm cls me mi b a d st) =
        some { g with desc := { g.desc with dm := some dm, ds := some ds, mi := mi } }) ∧
    (∀ k g, xviInner op f6 a d = some k → plainForm k = some g →
      formOf (.xvi op d a f6 imm32 st) = some ⟨{ g.desc with b := .imm32 imm32, masked := false }, ⟨none, none, none, []⟩⟩) ∧
    (∀ k g, plainForm k = some g → formOf k = some g))

/-- 06 R144, R145, R156, Table 06-3; 01 R20, R25: an integer vector instruction at the head of the queue that passes its
checks runs to its retirement: the elements of its destination, VSTART, INSTRET and the queue change as stated; memory, the
g registers and the masks are as before. No register is bound or gated and the Catalogue is off (10 R270, R273). -/
def Obligations.VectorIntegerRetires : Prop :=
  ∀ (s : State) (e : VEntry) (o : IntOp), headEntry s = some e → e.desc.op = .int o → e.stage = .queued → e.srq = [] →
    s.core.th.streams = [] → s.csr.vfemask = 0 → s.csr.catctl.getLsbD 0 = false →
    let x := VX.of s e
    let ty := x.tag e.desc.va
    let w := ty.width
    let b (i : Nat) : BitVec w := BitVec.ofNat w (x.bAt o.signed ty i).1
    let c (i : Nat) : BitVec w := if o = .mac then BitVec.ofNat w (x.cAt true ty i).1 else 0
    x.checks x.shape false = none →
    Runs x w ((x.va, w) :: x.bSrcs ++ (if o = .mac then [(x.vd, (x.tag e.desc.vd).width)] else [])) →
    let t := vecRun s
    GroupResult x t.core.th w ty (fun i => (intOp o (BitVec.ofNat w (x.el x.va w i)) (b i) (c i)).toNat) ∧
    t.csr.vstart = 0 ∧ t.csr.instret = s.csr.instret + 1 ∧ t.core.th.viq = s.core.th.viq.eraseIdx s.core.th.held ∧
    t.dev = s.dev ∧ t.core.th.m = s.core.th.m ∧ t.core.th.pc = s.core.th.pc ∧ ∀ r, readG t r = readG s r

/-- 06 Table 06-3, R154, R157; 04 R96: the operations of the integer members on elements of one width, and the integer compares;
`vmerge` and `vfmerge` write the selected operand to every element below vl on an enabled die, `vmv` its operand to the active ones;
`vsetty` gives its group a tag and changes no bit; the second operand of an element is its vector's element converted to the
operation type, or the scalar or immediate read at it. -/
def Obligations.VectorIntegerOperations : Prop :=
  (∀ (w : Nat) (x y z : BitVec w), (w = 16 ∨ w = 32 ∨ w = 64) →
    let clip (v : Int) : Int := max (-(2 ^ (w - 1))) (min v (2 ^ (w - 1) - 1))
    intOp .add x y z = x + y ∧ intOp .sub x y z = x - y ∧ intOp .rsub x y z = y - x ∧ intOp .mul x y z = x * y ∧
    intOp .mulh x y z = BitVec.ofInt w (x.toInt * y.toInt / 2 ^ w) ∧
    intOp .mulhn x y z = BitVec.ofNat w (x.toNat * y.toNat / 2 ^ w) ∧ intOp .mac x y z = z + x * y ∧
    intOp .and x y z = x &&& y ∧ intOp .or x y z = x ||| y ∧ intOp .xor x y z = x ^^^ y ∧
    intOp .sll x y z = x <<< (y.toNat % w) ∧ intOp .srl x y z = x >>> (y.toNat % w) ∧
    intOp .sra x y z = x.sshiftRight (y.toNat % w) ∧
    intOp .min x y z = (if x.toInt ≤ y.toInt then x else y) ∧ intOp .max x y z = (if y.toInt ≤ x.toInt then x else y) ∧
    intOp .minn x y z = (if x.toNat ≤ y.toNat then x else y) ∧ intOp .maxn x y z = (if y.toNat ≤ x.toNat then x else y) ∧
    intOp .div x y z = (if y = 0 then BitVec.allOnes w else x.sdiv y) ∧
    intOp .divn x y z = (if y = 0 then BitVec.allOnes w else x / y) ∧
    intOp .rem x y z = (if y = 0 then x else x.srem y) ∧ intOp .remn x y z = (if y = 0 then x else x % y) ∧
    intOp .sadd x y z = BitVec.ofInt w (clip (x.toInt + y.toInt)) ∧
    intOp .ssub x y z = BitVec.ofInt w (clip (x.toInt - y.toInt)) ∧
    icmpOp .eq x y = decide (x.toInt = y.toInt) ∧ icmpOp .ne x y = decide (x.toInt ≠ y.toInt) ∧
    icmpOp .lt x y = decide (x.toInt < y.toInt) ∧ icmpOp .ltn x y = decide (x.toNat < y.toNat) ∧
    icmpOp .le x y = decide (x.toInt ≤ y.toInt) ∧ icmpOp .len x y = decide (x.toNat ≤ y.toNat)) ∧
  (∀ (x : VX) (code : BitVec 5) (tag : Tag),
    let ty := x.ta
    let w := ty.width
    let live (i : Nat) : Bool := decide (x.start ≤ i) && x.dieOn w i
    ((∀ i < x.vl, live i = true → ∀ p ∈ (x.va, w) :: x.bSrcs, x.bad p.1 p.2 i = false) → x.start < x.vl → x.Fits x.vd w →
      ∃ t fl, runMerge x = .done t fl [] ∧ t.dev = x.s.dev ∧ t.core.th.m = x.t.m ∧ Placed x t.core.th w ty live
        (fun i => if maskBit x.t x.e.desc.mi.toNat i then (x.bAt true ty i).1 else x.el x.va w i)) ∧
    (x.e.desc.b = .none → Runs x w [(x.va, w)] →
      ∃ t, runMv x = .done t 0 [] ∧ t.dev = x.s.dev ∧ t.core.th.m = x.t.m ∧ GroupResult x t.core.th w ty (x.el x.va w)) ∧
    (x.e.desc.b ≠ .none → (∀ r, x.e.desc.b ≠ .vec r) → Runs x x.wtag.width [] →
      ∃ t, runMv x = .done t 0 [] ∧ t.dev = x.s.dev ∧ t.core.th.m = x.t.m ∧
        GroupResult x t.core.th x.wtag.width x.wtag (fun i => (x.bAt true x.wtag i).1)) ∧
    (Tag.ofCode code.toNat = some tag → ∃ t, runSetty x code = .done t 0 [] ∧ t.dev = x.s.dev ∧ t.core.th.m = x.t.m ∧
      t.csr.vl = x.s.csr.vl ∧ t.csr.vstart = x.s.csr.vstart ∧
      ∀ r < 32, (vreg t.core.th r).bits = (vreg x.t r).bits ∧ (vreg t.core.th r).poison = (vreg x.t r).poison ∧
        (vreg t.core.th r).tag = (if x.vd ≤ r ∧ r < x.vd + x.grp then tag else (vreg x.t r).tag) ∧
        (t.csr.vdirty.getLsbD r = true ↔ x.s.csr.vdirty.getLsbD r = true ∨ (x.vd ≤ r ∧ r < x.vd + x.grp)))) ∧
  (∀ (x : VX) (sg : Bool) (ty : Tag) (i : Nat) (v : Word),
    (∀ r, x.e.desc.b = .vec r → x.bAt sg ty i = cvtEl x.rm x.ftz sg (x.tag r) ty (x.el r.toNat (x.tag r).width i)) ∧
    (x.e.desc.b = .gpr → x.bAt sg ty i = (scalarAt ty x.e.x1, 0)) ∧
    (∀ k, x.e.desc.b = .imm5 k → x.bAt sg ty i = ((k.toInt % 2 ^ ty.width).toNat, 0)) ∧
    (∀ k, x.e.desc.b = .imm32 k → ty.isInt = true → x.bAt sg ty i = ((k.toInt % 2 ^ ty.width).toNat, 0)) ∧
    (∀ k, x.e.desc.b = .imm32 k → ∀ s q fr, unpack f32 false k.toNat = .nan s q fr → ty.isInt = false →
      x.bAt sg ty i = (ty.fmt.qnan, 0)) ∧
    (∀ k, x.e.desc.b = .imm32 k → (∀ s q fr, unpack f32 false k.toNat ≠ .nan s q fr) →
      x.bAt sg .f32 i = (k.toNat, 0) ∧ x.bAt sg .bf16 i = ((fvTo bf16 .rne false (unpack f32 false k.toNat)).1, 0) ∧
      x.bAt sg .f64 i = ((fvTo f64 .rne false (unpack f32 false k.toNat)).1, 0)) ∧
    (ty ≠ .bf16 → scalarAt ty v = v.toNat % 2 ^ ty.width) ∧
    (∀ s q fr, unpack f32 false (v.toNat % 2 ^ 32) = .nan s q fr → scalarAt .bf16 v = 0x7FC0) ∧
    ((∀ s q fr, unpack f32 false (v.toNat % 2 ^ 32) ≠ .nan s q fr) →
      scalarAt .bf16 v = (fvTo bf16 .rne false (unpack f32 false (v.toNat % 2 ^ 32))).1))

/-- 06 R158 to R161, Tables 06-5 and 06-6; 04 R91, R94, R95, R97, R100, R101: floating-point members, conversions, fused forms and compares
complete with the value of every active element in its place and the union of their flags, and leave every other element, register and
mask bit as it was. Each member is the operation its row names on the values of its operands: sums, products and quotients rounded
once, F64 products under SLICES = 2 from truncated operands; estimates, exponentials and logarithms with the special cases of
Table 04-5; sign and class from the bits; the fused forms ±(a × b) ± c; conversions by the kinds of their tags. -/
def Obligations.VectorFloatElements : Prop :=
  (∀ (x : VX) (o : FpOp) (q : FmaOp) (k : FCmp) (j : ICmp),
    let ty := x.ta
    let w := ty.width
    let two := vtSlices x.e.vtype == 2
    let b (i : Nat) : Nat := (x.bAt true ty i).1
    let un (v : Nat) : Fv := unpack ty.fmt x.ftz v
    let one (i : Nat) : Nat × Flags := fpOne o ty two x.rm x.ftz x.s.free i (x.el x.va w i) (b i)
    let fused (i : Nat) : Nat × Flags := fmaOne q ty two x.rm x.ftz (un (x.el x.va w i)) (un (b i)) (un (x.cAt true ty i).1)
    let conv (i : Nat) : Nat × Flags := cvtEl x.rm x.ftz true ty x.wtag (x.el x.va w i)
    let cmp (i : Nat) : Bool × Flags :=
      let u := un (x.el x.va w i)
      let v := un (b i)
      match k with
      | .eq => fvEq u v
      | .ne => (!(fvEq u v).1, (fvEq u v).2)
      | .lt => fvLt u v
      | .le => fvLe u v
    let all (w : Nat) (f : Nat → Flags) : List Flags := (x.actives w).map f
    (Runs x w ((x.va, w) :: x.bSrcs) →
      ∃ t fl, runFp x o = .done t fl [] ∧ t.dev = x.s.dev ∧ UnionOf fl (all w fun i => (x.bAt true ty i).2 ||| (one i).2) ∧
        GroupResult x t.core.th w (o.tag ty) (fun i => (one i).1)) ∧
    (Runs x w ((x.va, w) :: x.bSrcs ++ [(x.vd, (x.tag x.e.desc.vd).width)]) →
      ∃ t fl, runFma x q = .done t fl [] ∧ t.dev = x.s.dev ∧
        UnionOf fl (all w fun i => (x.bAt true ty i).2 ||| (x.cAt true ty i).2 ||| (fused i).2) ∧
        GroupResult x t.core.th w ty (fun i => (fused i).1)) ∧
    (Runs x x.wtag.width [(x.va, w)] →
      ∃ t fl, runFcvt x = .done t fl [] ∧ t.dev = x.s.dev ∧ UnionOf fl (all x.wtag.width fun i => (conv i).2) ∧
        GroupResult x t.core.th x.wtag.width x.wtag (fun i => (conv i).1)) ∧
    ((∀ i < x.vl, x.active w i = true → ∀ p ∈ (x.va, w) :: x.bSrcs, x.bad p.1 p.2 i = false) → x.vd + x.ms ≤ 16 →
      x.vl ≤ 1024 * x.ms →
      (∃ t fl, runFcmp x k = .done t fl [] ∧ t.dev = x.s.dev ∧ t.core.th.v = x.t.v ∧
        UnionOf fl (all w fun i => (x.bAt true ty i).2 ||| (cmp i).2) ∧ MaskResult x t.core.th w (fun i => (cmp i).1)) ∧
      (∃ t fl, runIcmp x j = .done t fl [] ∧ t.dev = x.s.dev ∧ t.core.th.v = x.t.v ∧ MaskResult x t.core.th w
        (fun i => icmpOp j (BitVec.ofNat w (x.el x.va w i)) (BitVec.ofNat w (x.bAt j.signed ty i).1))))) ∧
  (∀ (ty : Tag) (two ftz : Bool) (rm : Rm) (n i a b : Nat), ty.isInt = false →
    let f := ty.fmt
    let u := unpack f ftz a
    let v := unpack f ftz b
    let op (o : FpOp) : Nat × Flags := fpOne o ty two rm ftz n i a b
    let up := Config.faithfulUp n i
    let cut (x : Fv) : Fv := match x with
      | .num s m e => .num s (m / 2 ^ 17 * 2 ^ 17) e
      | y => y
    let one := f.bias * 2 ^ f.fb
    op .add = fvAdd f rm ftz u v ∧ op .sub = fvAdd f rm ftz u v.neg ∧
    (¬(ty = .f64 ∧ two = true) → op .mul = fvMul f rm ftz u v) ∧
    (ty = .f64 → two = true → op .mul = fvMul f .rne ftz (cut u) (cut v)) ∧
    op .div = fvDiv f rm ftz u v ∧ op .sqrt = fvSqrt f rm ftz u ∧
    op .min = fvMinMax f false u v ∧ op .max = fvMinMax f true u v ∧
    op .sgnj = (a % 2 ^ (f.width - 1) + (if b.testBit (f.width - 1) then 2 ^ (f.width - 1) else 0), 0) ∧
    op .sgnjn = (a % 2 ^ (f.width - 1) + (if b.testBit (f.width - 1) then 0 else 2 ^ (f.width - 1)), 0) ∧
    op .sgnjx = (a % 2 ^ (f.width - 1) +
      (if a.testBit (f.width - 1) = b.testBit (f.width - 1) then 0 else 2 ^ (f.width - 1)), 0) ∧
    op .cls = (fclassOf f a, 0) ∧ op .round = fvRound f rm u ∧
    op .rece = fvRece f ftz u ∧ op .rsqe = fvRsqe f ftz u ∧
    op .exp = fvExp f false ftz up u ∧ op .exp2 = fvExp f true ftz up u ∧ op .log2 = fvLog2 f ftz up u ∧
    (∀ o ∈ [FpOp.rece, .rsqe, .exp, .exp2, .log2, .sqrt, .round], ∀ s q fr, u = .nan s q fr →
      op o = (packNan f s fr, if q then 0 else fNV)) ∧
    (∀ o ∈ [FpOp.exp, .exp2], (u = .inf true → op o = (0, 0)) ∧ (u = .inf false → op o = (f.infBits, 0)) ∧
      (∀ s e, u = .num s 0 e → op o = (one, 0))) ∧
    (∀ s e, u = .num s 0 e → op .log2 = (f.signed true f.infBits, fDZ) ∧ op .rece = (f.signed s f.infBits, fDZ) ∧
      op .rsqe = (f.signed s f.infBits, fDZ)) ∧
    (∀ s, u = .inf s → op .rece = (f.signed s 0, 0)) ∧
    (u = .inf true ∨ (∃ m e, m ≠ 0 ∧ u = .num true m e) → op .log2 = (f.qnan, fNV) ∧ op .rsqe = (f.qnan, fNV)) ∧
    (u = .inf false → op .log2 = (f.infBits, 0) ∧ op .rsqe = (0, 0)) ∧ (a = one → op .log2 = (0, 0))) ∧
  (∀ (ty : Tag) (two ftz : Bool) (rm : Rm) (a b c : Fv), ty.isInt = false →
    let cut (x : Fv) : Fv := match x with
      | .num s m e => .num s (m / 2 ^ 17 * 2 ^ 17) e
      | y => y
    let fma (a c : Fv) : Nat × Flags := if ty = .f64 ∧ two = true then fvFma f64 .rne ftz (cut a) (cut b) c else fvFma ty.fmt rm ftz a b c
    let op (o : FmaOp) : Nat × Flags := fmaOne o ty two rm ftz a b c
    op .macc = fma a c ∧ op .nmacc = fma a.neg c.neg ∧ op .msac = fma a c.neg ∧ op .nmsac = fma a.neg c) ∧
  (∀ (rm : Rm) (ftz sg : Bool) (src dst : Tag) (v : Nat),
    let r := cvtEl rm ftz sg src dst v
    (src = dst → r = (v, 0)) ∧
    (src.isInt = false → dst.isInt = false → src ≠ dst → r = fvTo dst.fmt rm ftz (unpack src.fmt ftz v)) ∧
    (src.isInt = true → dst.isInt = false → r = fvTo dst.fmt rm ftz (intToFv sg src.width v)) ∧
    (src.isInt = false → dst.isInt = true → r = fvToInt rm sg dst.width (unpack src.fmt false v)) ∧
    (src.isInt = true → dst.isInt = true → dst.width ≤ src.width → v < 2 ^ src.width → r = (v % 2 ^ dst.width, 0)) ∧
    (src.isInt = true → dst.isInt = true → src.width ≤ dst.width → v < 2 ^ src.width →
      r = (if sg then ((BitVec.ofNat src.width v).toInt % 2 ^ dst.width).toNat else v, 0))) ∧
  (∀ n i b, (fpOne .rece .f32 false .rne false n i 0x40400000 b).1 = 0x3EAAA000) ∧
  (∀ n i, fpOne .mul .f64 false .rne false n i 0x3FF0000000001000 0x3FF0000000001000 = (0x3FF0000000002000, fNX) ∧
    fpOne .mul .f64 true .rne false n i 0x3FF0000000001000 0x3FF0000000001000 = (0x3FF0000000000000, 0)) ∧
  cvtEl .rne false false .f32 .i32 0xBE99999A = (0, fNX) ∧ cvtEl .rne false false .f32 .i32 0xBF333333 = (0, fNV)

/-- 06 R149, R173; 04 R91; 07 R176: an element-wise instruction, a member of VINT, VFP, VFMA, `vfcvt`, a merge, a move or a compare, stops
at the first element it acts on with a poisoned source: it raises POISON naming that element and the register of the first such source,
the elements below it are written with their values and their flags are raised, and none from it on is written. -/
def Obligations.PoisonStopsAtElement : Prop :=
  ∀ (x : VX) (o : IntOp) (p : FpOp) (q : FmaOp) (c : ICmp) (g : FCmp) (k : Nat) (pre post : List (Nat × Nat)) (r : Nat × Nat),
    let ty := x.ta
    let w := ty.width
    let two := vtSlices x.e.vtype == 2
    let un (v : Nat) : Fv := unpack ty.fmt x.ftz v
    let a (i : Nat) : Nat := x.el x.va w i
    let b (i : Nat) : Nat × Flags := x.bAt true ty i
    let old (i : Nat) : Nat × Flags := x.cAt true ty i
    let srcs := (x.va, w) :: x.bSrcs
    let acc := [(x.vd, (x.tag x.e.desc.vd).width)]
    let reached (from_ : List (Nat × Nat)) (act : Nat → Bool) : Prop :=
      from_ = pre ++ r :: post ∧ (∀ y ∈ pre, x.bad y.1 y.2 k = false) ∧ x.bad r.1 r.2 k = true ∧ act k = true ∧
        ∀ i < k, act i = true → ∀ y ∈ from_, x.bad y.1 y.2 i = false
    let raises (run : VOut) (t : State) (fl : Flags) : Prop :=
      run = .fault t fl .poison (BitVec.ofNat 64 (2 ^ 63 + (r.1 + k / perReg x.vlen r.2))) k ∧ t.dev = x.s.dev
    let stops (run : VOut) (v : Nat) (from_ : List (Nat × Nat)) (act : Nat → Bool) (val : Nat → Nat × Flags) : Prop :=
      x.Fits x.vd v → reached from_ act → ∃ t fl, raises run t fl ∧ t.core.th.m = x.t.m ∧
        UnionOf fl (((List.range k).filter act).map fun i => (val i).2) ∧ StoppedAt x t.core.th k v act (fun i => (val i).1)
    let stopsMask (run : VOut) (val : Nat → Bool × Flags) : Prop :=
      x.vd + x.ms ≤ 16 → x.vl ≤ 1024 * x.ms → reached srcs (x.active w) → ∃ t fl, raises run t fl ∧ t.core.th.v = x.t.v ∧
        UnionOf fl (((List.range k).filter (x.active w)).map fun i => (val i).2) ∧
        MaskResult (x.upTo k) t.core.th w (fun i => (val i).1)
    k < x.vl →
      stops (runInt x o) w (srcs ++ (if o = .mac then acc else [])) (x.active w) (fun i =>
        let d := if o = .mac then old i else (0, 0)
        ((intOp o (BitVec.ofNat w (a i)) (BitVec.ofNat w (x.bAt o.signed ty i).1) (BitVec.ofNat w d.1)).toNat,
          (x.bAt o.signed ty i).2 ||| d.2)) ∧
      stops (runFp x p) w srcs (x.active w) (fun i =>
        let v := fpOne p ty two x.rm x.ftz x.s.free i (a i) (b i).1
        (v.1, (b i).2 ||| v.2)) ∧
      stops (runFma x q) w (srcs ++ acc) (x.active w) (fun i =>
        let v := fmaOne q ty two x.rm x.ftz (un (a i)) (un (b i).1) (un (old i).1)
        (v.1, (b i).2 ||| (old i).2 ||| v.2)) ∧
      stops (runFcvt x) x.wtag.width [(x.va, w)] (x.active x.wtag.width) (fun i => cvtEl x.rm x.ftz true ty x.wtag (a i)) ∧
      stops (runMerge x) w srcs (fun i => decide (x.start ≤ i) && decide (i < x.vl) && x.dieOn w i) (fun i =>
        (if maskBit x.t x.e.desc.mi.toNat i then (b i).1 else a i, (b i).2)) ∧
      (x.e.desc.b = .none → stops (runMv x) w [(x.va, w)] (x.active w) (fun i => (a i, 0))) ∧
      stopsMask (runIcmp x c) (fun i =>
        (icmpOp c (BitVec.ofNat w (a i)) (BitVec.ofNat w (x.bAt c.signed ty i).1), (x.bAt c.signed ty i).2)) ∧
      stopsMask (runFcmp x g) (fun i =>
        let u := un (a i)
        let v := un (b i).1
        let z := match g with
          | .eq => fvEq u v
          | .ne => (!(fvEq u v).1, (fvEq u v).2)
          | .lt => fvLt u v
          | .le => fvLe u v
        (z.1, (b i).2 ||| z.2))

/-- 02 R61 to R63, Table 02-10: the checks of the vector unit come in their order: ILLEGAL, then OVERLAP, then FMT under FMTX,
then FIRSTUSE with the lowest register that is not loaded. -/
def Obligations.VectorChecksInOrder : Prop :=
  ∀ (x : VX) (h : VShape) (extra : Bool),
    let gs := h.srcs ++ h.dst.toList
    let masks := h.msrc ++ h.mdst.toList ++ (if x.e.desc.masked then [x.e.desc.mi.toNat] else [])
    let illegal := (vtIll x.e.vtype = true ∧ h.villOk = false) ∨ h.ill = true ∨
      (∃ g ∈ gs, g.base % x.grp ≠ 0 ∨ 32 < g.base + g.n ∨ (g.cap = true ∧ capacity x.vlen g.w x.grp < x.vl)) ∨
      (∃ k ∈ masks, k % x.ms ≠ 0 ∨ 16 ≤ k) ∨ (x.start ≠ 0 ∧ h.vstartOk = false) ∨ extra = true
    let overlap := (∃ g, h.dst = some g ∧ ∃ a ∈ h.srcs, g.meets a = true ∧ ¬(a.eq = true ∧ g.same a = true)) ∨
      (∃ k, h.mdst = some k ∧ h.bitwise = false ∧ (k ∈ h.msrc ∨ (x.e.desc.masked = true ∧ x.e.desc.mi.toNat = k)))
    let fmt := vtFmtx x.e.vtype = true ∧ ∃ g ∈ h.fmt, g ≠ h.ty
    let fresh (r : Nat) : Prop := r < 32 ∧ x.t.csr.vloaded.getLsbD r = false ∧ ∃ g ∈ gs, g.base ≤ r ∧ r < g.base + g.n
    (x.checks h extra = some (.illegal, 0) ↔ illegal) ∧
    (x.checks h extra = some (.overlap, 0) ↔ ¬illegal ∧ overlap) ∧
    (x.checks h extra = some (.fmt, 0) ↔ ¬illegal ∧ ¬overlap ∧ fmt) ∧
    (∀ r < 32, x.checks h extra = some (.firstuse, BitVec.ofNat 64 r) ↔
      ¬illegal ∧ ¬overlap ∧ ¬fmt ∧ fresh r ∧ ∀ q < r, ¬fresh q)

/-- 06 R168 to R170, Table 06-8; 01 R28: every permute completes with the elements its row names in place, a source index at or
beyond the capacity reading as 0, and every other element and register as before. -/
def Obligations.VectorPermutationResults : Prop :=
  ∀ (x : VX),
    let ty := x.ta
    let w := ty.width
    let n := x.e.x2.toNat
    let from_ (base sw k : Nat) : Nat := if k < capacity x.vlen sw x.grp then x.el base sw k else 0
    let a (k : Nat) : Nat := from_ x.va w k
    let per := perReg x.vlen w
    let rot (i : Nat) : Nat := i / per * per + ((i % per / (per / 8) + x.ds) % 8) * (per / 8) + i % (per / 8)
    let sel := (List.range x.vl).filter (fun i => x.dieOn w i && x.maskOn i)
    let pos := (List.range x.vl).filter (fun i => x.dieOn w i)
    let puts (o : PermOp) (w : Nat) (tag : Tag) (act : Nat → Bool) (val : Nat → Nat) : Prop :=
      ∃ t, runPerm x o = .done t 0 [] ∧ t.dev = x.s.dev ∧ t.core.th.m = x.t.m ∧ Placed x t.core.th w tag act val
    (Clean x w →
      puts .slidedn w ty (x.active w) (fun i => if i + n < x.vl then a (i + n) else 0) ∧
      puts .slide1up w ty (x.active w) (fun i => if i = 0 then scalarAt ty x.e.x2 else a (i - 1)) ∧
      puts .slide1dn w ty (x.active w) (fun i => if i + 1 = x.vl then scalarAt ty x.e.x2 else a (i + 1)) ∧
      puts .rgath w ty (x.active w) (fun i => a (x.el x.vb x.tagB.width i)) ∧
      puts .zip w ty (x.active w) (fun i => if i % 2 = 0 then a (i / 2) else from_ x.vb x.tagB.width ((i - 1) / 2)) ∧
      puts .unzipe w ty (x.active w) (fun i => a (2 * i)) ∧
      puts .unzipo w ty (x.active w) (fun i => a (2 * i + 1)) ∧
      puts .drot w ty (x.active w) (fun i => a (rot i)) ∧
      (n < x.vl → puts .slideup w ty (fun i => x.active w i && decide (n ≤ i)) (fun i => a (i - n))) ∧
      (x.vl ≤ n → runPerm x .slideup = .done (doneAt x.s) 0 []) ∧
      (x.start = 0 → puts .compress w ty (fun i => (pos.take sel.length).contains i) (fun i => a (sel.getD (pos.idxOf i) 0))) ∧
      (x.start = 0 → puts .expand w ty sel.contains (fun i => a (sel.idxOf i)))) ∧
    (Clean x x.wtag.width →
      puts .splat x.wtag.width x.wtag (x.active x.wtag.width) (fun _ => scalarAt x.wtag x.e.x1) ∧
      puts .vid x.wtag.width x.wtag (x.active x.wtag.width) id) ∧
    (let td := x.tag x.e.desc.vd
     Clean x td.width →
      (x.active td.width n = true → puts .ins td.width td (· == n) (fun _ => scalarAt td x.e.x1)) ∧
      (x.active td.width n = false → runPerm x .ins = .done (doneAt x.s) 0 [])) ∧
    ((∀ r, (vreg x.t r).poison = 0) → runExt x = .done (doneAt x.s) 0
      [(x.e.desc.gd, if ty.isInt then (BitVec.ofNat w (a n)).signExtend 64 else BitVec.ofNat 64 (a n))])

/-- 06 R171, Table 06-9: every mask operation completes with the bits of its active positions as its row says, every other bit
as before; `mpop` counts them and `mfirst` finds the least. -/
def Obligations.VectorMaskResults : Prop :=
  ∀ (x : VX),
    let w := x.wtag.width
    let a (i : Nat) : Bool := maskBit x.t x.va i
    let b (i : Nat) : Bool := maskBit x.t x.vb i
    let on (i : Nat) : Prop := i < x.vl ∧ x.active w i = true ∧ a i = true
    let sets (o : MaskOp) (w : Nat) (val : Nat → Bool) : Prop :=
      ∃ t, runMask x o = .done t 0 [] ∧ t.dev = x.s.dev ∧ t.core.th.v = x.t.v ∧ MaskResult x t.core.th w val
    (x.vd + x.ms ≤ 16 → x.vl ≤ 1024 * x.ms →
      sets .and w (fun i => a i && b i) ∧ sets .or w (fun i => a i || b i) ∧ sets .xor w (fun i => a i != b i) ∧
      sets .andn w (fun i => a i && !b i) ∧ sets .not w (fun i => !a i) ∧ sets .mv w a ∧
      sets .set w (fun _ => true) ∧ sets .clr w (fun _ => false) ∧
      (∀ k, on k → (∀ j < k, ¬on j) → sets .sbf w (fun i => decide (i < k))) ∧
      ((∀ j, ¬on j) → sets .sbf w (fun _ => true)) ∧
      ((∀ r, (vreg x.t r).poison = 0) → sets .fromv x.ta.width (fun i => x.el x.va x.ta.width i != 0))) ∧
    (Clean x w → ∃ t, runMask x .tov = .done t 0 [] ∧ t.dev = x.s.dev ∧
      Placed x t.core.th w x.wtag (x.active w) (fun i => if a i then 1 else 0)) ∧
    runMask x .pop = .done (doneAt x.s) 0
      [(x.e.desc.gd, BitVec.ofNat 64 ((List.range x.vl).countP (fun i => x.active w i && a i)))] ∧
    (∀ k, on k → (∀ j < k, ¬on j) → runMask x .first = .done (doneAt x.s) 0 [(x.e.desc.gd, BitVec.ofNat 64 k)]) ∧
    ((∀ j, ¬on j) → runMask x .first = .done (doneAt x.s) 0 [(x.e.desc.gd, BitVec.allOnes 64)])

/-- 06 R162 to R167, Table 06-7; 04 R93, R98 to R100: reductions over the active elements: the integer ones, whatever the order of
their terms; floating-point minimum and maximum, a NaN being the first one made quiet; a floating-point sum in canonical order under
REP = 1, that of one die's block where the die mask enables one die, and over some tree of additions under REP = 0; no active element
leaves the init value; `vscan` writes prefix sums, `vfscan` sequential ones under REP = 1 and associated in some way under REP = 0;
`vsmx` writes the exponentials of the differences to the running maximum and returns the maximum, the sum and the correction; without
an active element it sets its third register to 1.0 and nothing else. -/
def Obligations.VectorReductionResults : Prop :=
  ∀ (x : VX), (∀ r, (vreg x.t r).poison = 0) →
    let ty := x.ta
    let w := ty.width
    let rep := vtRep x.e.vtype = true
    let ts : List (BitVec w) := ((List.range x.vl).filter (x.active w)).map (fun i => BitVec.ofNat w (x.el x.va w i))
    let init : BitVec w := BitVec.ofNat w x.e.x2.toNat
    let returns (o : RedOp) (v : Word) : Prop := runRed x o = .done (doneAt x.s) 0 [(x.e.desc.gd, v)]
    let f := redFmt ty
    let gives (o : RedOp) (v : Nat) : Prop := ∃ fl, runRed x o = .done (doneAt x.s) fl [(x.e.desc.gd, BitVec.ofNat 64 v)]
    let wide (i : Nat) : Nat := (widen ty x.ftz (x.el x.va w i)).1
    let finit := x.e.x2.toNat % 2 ^ f.width
    let terms : List Nat := (x.actives w).map wide
    let vals : List Fv := (finit :: terms).map (unpack f x.ftz)
    let die (d : Nat) : List Nat := (List.range x.vl).filter (fun i => dieOf x.vlen w i == d)
    let none : Nat := f.signed true 0
    returns .sum ((ts.foldl (· + ·) init).signExtend 64) ∧
    returns .and ((ts.foldl (· &&& ·) init).signExtend 64) ∧
    returns .or ((ts.foldl (· ||| ·) init).signExtend 64) ∧
    returns .xor ((ts.foldl (· ^^^ ·) init).signExtend 64) ∧
    (∃ r ∈ init :: ts, returns .min (r.signExtend 64) ∧ ∀ y ∈ init :: ts, r.toInt ≤ y.toInt) ∧
    (∃ r ∈ init :: ts, returns .max (r.signExtend 64) ∧ ∀ y ∈ init :: ts, y.toInt ≤ r.toInt) ∧
    (∃ r ∈ init :: ts, returns .minn (r.setWidth 64) ∧ ∀ y ∈ init :: ts, r.toNat ≤ y.toNat) ∧
    (∃ r ∈ init :: ts, returns .maxn (r.setWidth 64) ∧ ∀ y ∈ init :: ts, y.toNat ≤ r.toNat) ∧
    (∀ o l, o ∈ [RedOp.sum, .and, .or, .xor, .min, .max, .minn, .maxn] → l.Perm ts → redInt w o init l = redInt w o init ts) ∧
    (ts = [] → ∀ o ∈ [RedOp.fsum, .fmin, .fmax], returns o (BitVec.ofNat 64 finit)) ∧
    (terms ≠ [] → ∀ o ∈ [RedOp.fmin, .fmax],
      (∀ pre s q fr post, vals = pre ++ .nan s q fr :: post → (∀ v ∈ pre, v.isNan = false) → gives o (packNan f s fr)) ∧
      ((∀ v ∈ vals, v.isNan = false) → ∃ v ∈ vals, gives o (repack f v) ∧
        ∀ y ∈ vals, (if o = .fmin then fvBelow y v else fvBelow v y) = false)) ∧
    (terms ≠ [] → rep → x.oneDie = .none →
      gives .fsum (canonSum f x.ftz finit (fun i => if x.active w i then wide i else none) x.vl).1) ∧
    (terms ≠ [] → rep → ∀ d, x.oneDie = some d →
      gives .fsum (canonSum f x.ftz finit (fun k => if x.active w ((die d).getD k 0) then wide ((die d).getD k 0) else none)
        (die d).length).1) ∧
    (terms ≠ [] → ¬rep → ∃ r fl, SumOf true f x.rm x.ftz (finit :: terms) r fl ∧ gives .fsum r) ∧
    (Clean x w → ∃ t, runScan x = .done t 0 [] ∧ t.dev = x.s.dev ∧ Placed x t.core.th w ty (x.active w)
      (fun i => (((List.range (i + 1)).filter (x.active w)).map (x.el x.va w)).sum)) ∧
    (Clean x w → ∃ t fl val, runFscan x = .done t fl [] ∧ t.dev = x.s.dev ∧ Placed x t.core.th w ty (x.active w) val ∧
      ∀ i ∈ x.actives w, let upto := ((List.range (i + 1)).filter (x.active w)).map wide
        (rep → val i = (fvTo ty.fmt .rne x.ftz (unpack f x.ftz
          (upto.tail.foldl (fun a b => (fvAdd f .rne x.ftz (unpack f x.ftz a) (unpack f x.ftz b)).1) (upto.headD 0)))).1) ∧
        (¬rep → ∃ r fl, SumOf false f x.rm x.ftz upto r fl ∧ val i = (fvTo ty.fmt x.rm x.ftz (unpack f x.ftz r)).1)) ∧
    ((∀ i < x.vl, x.active 32 i = false) → runSmx x = .done (doneAt x.s) 0 [(x.e.desc.gd + 2, 0x3F800000)]) ∧
    (Clean x 32 → x.actives 32 ≠ [] →
      let m := x.e.x2.toNat % 2 ^ 32
      let s := x.e.x3.toNat % 2 ^ 32
      let m1 := (redMinMax f32 x.ftz true (m :: (x.actives 32).map wide)).1
      let ga := x.e.desc.gd
      let word (v : Nat) : Word := BitVec.ofNat 64 v
      let ends (res : List (Reg × Word)) (val : Nat → Nat) : Prop := ∃ t fl, runSmx x = .done t fl res ∧ t.dev = x.s.dev ∧
        t.core.th.m = x.t.m ∧ Placed x t.core.th 32 .f32 (x.active 32) val
      let ex (up : Bool) (a : Nat) : Nat := (expDiff x.ftz up a m1).1
      let v (i : Nat) : Nat := ex (Config.faithfulUp x.s.free i) (wide i)
      let cf := ex (Config.faithfulUp x.s.free 16384) m
      (∀ sg q fr, unpack f32 x.ftz m1 = .nan sg q fr → ends [(ga, word m1), (ga + 1, word m1), (ga + 2, word m1)] (fun _ => m1)) ∧
      (unpack f32 x.ftz m1 = .inf true → ends [(ga, word m1), (ga + 2, 0x3F800000)] (fun _ => 0)) ∧
      ((∀ sg q fr, unpack f32 x.ftz m1 ≠ .nan sg q fr) → unpack f32 x.ftz m1 ≠ .inf true → ∃ sum,
        ends [(ga, word m1), (ga + 1, word (fvAdd f32 .rne x.ftz
            (unpack f32 x.ftz (fvMul f32 .rne x.ftz (unpack f32 x.ftz s) (unpack f32 x.ftz cf)).1) (unpack f32 x.ftz sum)).1),
          (ga + 2, word cf)] v ∧
        (rep → x.oneDie = .none → sum = (canonSum f32 x.ftz 0 (fun i => if x.active 32 i then v i else f32.signed true 0) x.vl).1) ∧
        (¬rep → ∃ fl, SumOf true f32 x.rm x.ftz (0 :: (x.actives 32).map v) sum fl))) ∧
    (∀ (up : Bool) (a b : Nat),
      (∀ s1 m1 e1 s2 m2 e2, unpack f32 x.ftz a = .num s1 m1 e1 → unpack f32 x.ftz b = .num s2 m2 e2 →
        (expDiff x.ftz up a b).1 = (fvExp f32 false x.ftz up (.num (exactSum .rne s1 m1 e1 (!s2) m2 e2).1
          (exactSum .rne s1 m1 e1 (!s2) m2 e2).2.1 (exactSum .rne s1 m1 e1 (!s2) m2 e2).2.2)).1) ∧
      (∀ s2 m2 e2, unpack f32 x.ftz a = .inf true → unpack f32 x.ftz b = .num s2 m2 e2 → (expDiff x.ftz up a b).1 = 0) ∧
      (∀ s1 m1 e1, unpack f32 x.ftz a = .num s1 m1 e1 → unpack f32 x.ftz b = .inf false → (expDiff x.ftz up a b).1 = 0) ∧
      (unpack f32 x.ftz a = .inf false → unpack f32 x.ftz b = .inf false → (expDiff x.ftz up a b).1 = f32.qnan))

/-- 07 R174 to R176, R180 to R187; 04 R102 to R104; 20 R440: the elements of a vector load or store perform in ascending order, each in the
translation context the instruction was issued in: one of a load takes the bytes at its address and their poison, one of a store puts
its bytes and its poison there, and where all the elements of a unit or strided store cover a poisoned unit none of them is narrow.
The first element that fails, by a poisoned index, its alignment, or what translation finds, raises its cause with its address, those
below it done and none from it on; in a fault-first load one above the first active element shortens vl to it instead. An unordered
scatter checks its elements first and performs those below the first failure in some order. `vldq` gives S × (code − Z) of the group
an element lies in, `vstq` writes whole groups in order, the FP16 forms convert at two bytes an element, and a record of the
segment forms performs all of its fields or none. -/
def Obligations.VectorMemoryResults : Prop :=
  (∀ (x : VX) (md : VAddr) (z : Nat), (z = 2 ∨ z = 4 ∨ z = 8) →
    let w := 8 * z
    let is := x.actives w
    let addr (k : Nat) : Word := match md with
      | .unit => x.e.x1 + BitVec.ofNat 64 (k * z)
      | .stride => x.e.x1 + BitVec.ofNat 64 k * x.e.x2
      | .index => x.e.x1 + BitVec.ofNat 64 (x.el x.vb x.tagB.width k)
    let place (acc : Acc) (s : State) (i : Nat) : State × Except Cause Place :=
      if md = .index ∧ x.bad x.vb x.tagB.width i = true then (s, .error .poison)
      else if (addr i).toNat % z ≠ 0 then (s, .error .align)
      else translate s x.e.ctx (s.vtlb (dieOf x.vlen w i)) acc (addr i)
    let load (s : State) (i : Nat) : State × Except (Cause × Word) (Nat × Bool) := match place .read s i with
      | (s, .error c) => (s, .error (c, addr i))
      | (s, .ok p) =>
        let s := noteLoadOn (dieOf x.vlen w i) (dieOf x.vlen w i) p (setAD p s)
        (s, .ok (readNat s.dev.mem p.key z p.loc, anyPoisoned s.dev z p.loc))
    let store (s : State) (i : Nat) : State × Except (Cause × Word) Unit := match place .write s i with
      | (s, .error c) => (s, .error (c, addr i))
      | (s, .ok p) => (x.storeEl md z i (addr i) p s, .ok ())
    let check (s : State) (i : Nat) : State × Except (Cause × Word) Unit := match place .write s i with
      | (s, .error c) => (s, .error (c, addr i))
      | (s, .ok _) => (s, .ok ())
    let into (t : State) (vs : List (Nat × Nat × Bool)) (u : State) : Prop :=
      u.dev = t.dev ∧ x.Only u.core.th x.vd x.grp ∧ Held x u.core.th x.vd w (x.loadTag z) vs
    let whole (loc : Nat) (a : Word) : Prop := md ≠ .index ∧ ∀ k < poisonUnit loc / z, ∃ j ∈ is,
      addr j = a - BitVec.ofNat 64 (loc % poisonUnit loc) + BitVec.ofNat 64 (k * z)
    let put (i : Nat) (p : Place) (s : State) (bad : Bool) : State :=
      let s := catWrite (addr i) z (storeLoc (setAD p (noteStoreOn (dieOf x.vlen w i) p s)) p.key p.loc z (x.el x.vc w i) false)
      if bad then s.mapDev (fun d => { d with mem := markPoison d.mem z p.loc }) else s
    (x.loadTag z = (if (x.tag x.e.desc.vd).width = w then x.tag x.e.desc.vd
      else if z = 2 then .i16 else if z = 4 then .i32 else .i64)) ∧
    (x.Fits x.vd w → InTurn load is id x.s (runLoad x md z) (fun t vs _ u fl => fl = 0 ∧ into t vs u)) ∧
    (x.Fits x.vd w → md = .unit →
      (∀ t vs, Performs load x.s is t vs → ∃ u, runLoadff x z = .done u 0 [] ∧ into t vs u ∧ u.csr.vl = t.csr.vl) ∧
      ∀ pre i post t u vs c a, is = pre ++ i :: post → Performs load x.s pre t vs → load t i = (u, .error (c, a)) →
        (pre = [] → runLoadff x z = .fault u 0 c a i) ∧
        (pre ≠ [] → ∃ r, runLoadff x z = .done r 0 [] ∧ into u vs r ∧ r.csr.vl = BitVec.ofNat 15 i ∧ r.csr.vstart = 0)) ∧
    InTurn store is id x.s (runStore x md z true) (fun t _ stop u fl => fl = 0 ∧ u = if stop.isNone then doneAt t else t) ∧
    (md = .index →
      let order (l : List Nat) (s : State) : State := l.foldl (fun s i => (store s i).1) s
      (∀ t vs, Performs check x.s is t vs → ∃ l, l.Perm is ∧ runStore x md z false = .done (doneAt (order l t)) 0 []) ∧
      ∀ pre i post t u vs c a, is = pre ++ i :: post → Performs check x.s pre t vs → check t i = (u, .error (c, a)) →
        ∃ l, l.Perm pre ∧ runStore x md z false = .fault (order l u) 0 c a i) ∧
    (∀ i p s, setHas s.dev.mem.poison (unitOf p.loc) = false ∨ ¬whole p.loc (addr i) →
      x.storeEl md z i (addr i) p s = put i p s (x.bad x.vc w i)) ∧
    (∀ i p s, setHas s.dev.mem.poison (unitOf p.loc) = true → whole p.loc (addr i) → (∀ r, (vreg x.t r).poison = 0) →
      x.storeEl md z i (addr i) p s =
        put i p (s.mapDev (fun d => { d with mem := clearCovered d.mem (unitOf p.loc) (poisonUnit p.loc) })) false)) ∧
  (∀ (x : VX) (q8 : Bool) (grp : Nat), grp ≤ 2 →
    let g := 32 * 2 ^ grp
    let b := if q8 then 8 else 4
    let bytes := 4 + g * b / 8
    let at_ (j : Nat) : Word := x.e.x1 + BitVec.ofNat 64 (j * bytes)
    let w := x.wtag.width
    let sw := x.tagC.width
    let elem (bs : List (Nat × Bool)) (k : Nat) : (Nat × Flags) × Bool :=
      let byte (n : Nat) : Nat := (bs.getD n (0, false)).1
      let bad (n : Nat) : Bool := (bs.getD n (0, false)).2
      let c := if q8 then 4 + k else 4 + k / 2
      let code := if q8 then byte c else if k % 2 = 0 then byte c % 16 else byte c / 16
      let z := if q8 then byte 2 else byte 2 % 16
      let n : Int := (code : Int) - (z : Int)
      (match unpack fp16 false (byte 0 + 256 * byte 1) with
        | .nan s q fr => (packNan x.wtag.fmt s fr, if q then 0 else fNV)
        | .inf s => if code = z then (x.wtag.fmt.qnan, fNV) else (x.wtag.fmt.signed (s != decide (n < 0)) x.wtag.fmt.infBits, 0)
        | .num s m e => roundTo x.wtag.fmt .rne false (if n = 0 then s else s != decide (n < 0)) (m * n.natAbs) e,
        bad 0 || bad 1 || bad 2 || bad c)
    let take (s : State) (i : Nat) : State × Except (Cause × Word) ((Nat × Flags) × Bool) := match x.qRead q8 g s i with
      | (s, .error e) => (s, .error e)
      | (s, .ok bs) => (s, .ok (elem bs (i % g)))
    let groups : List Nat := (List.range ((x.vl + g - 1) / g)).filter (fun j =>
      decide (x.start ≤ j * g) && (List.range g).all (fun k => x.dieOn sw (j * g + k)))
    let give (s : State) (j : Nat) : State × Except (Cause × Word) Flags := x.qWrite q8 grp j s
    (x.Fits x.vd w → InTurn take (x.actives w) id x.s (runLdq x q8 grp) (fun t vs _ u fl => u.dev = t.dev ∧
      UnionOf fl (vs.map fun q => q.2.1.2) ∧ x.Only u.core.th x.vd x.grp ∧
      Held x u.core.th x.vd w x.wtag (vs.map fun q => (q.1, q.2.1.1, q.2.2)))) ∧
    InTurn give groups (· * g) x.s (runStq x q8 grp) (fun t vs stop u fl =>
      UnionOf fl (vs.map fun q => q.2) ∧ u = if stop.isNone then doneAt t else t) ∧
    (x.e.x1.toNat % 4 ≠ 0 → ∀ s i, take s i = (s, .error (.align, at_ (i / g))) ∧ give s i = (s, .error (.align, at_ i))) ∧
    (x.e.x1.toNat % 4 = 0 → ∀ s s1 i c, x.bytePlaces .read i w bytes (at_ (i / g)) s = (s1, .error c) →
      take s i = (s1, .error (c, at_ (i / g)))) ∧
    (x.e.x1.toNat % 4 = 0 → ∀ s s1 i ps, x.bytePlaces .read i w bytes (at_ (i / g)) s = (s1, .ok ps) →
      ∃ s2 bs, x.qRead q8 g s i = (s2, .ok bs) ∧ bs.length = ps.length) ∧
    (x.e.x1.toNat % 4 = 0 → ∀ s s1 j,
      let i0 := (((List.range g).map (j * g + ·)).find? (x.active sw)).getD (j * g)
      let block := qGroupBytes q8 grp ((List.range g).map (fun k =>
        if x.active sw (j * g + k) then some (unpack x.tagC.fmt false (x.el x.vc sw (j * g + k))) else none))
      let bad := (List.range g).any (fun k => x.active sw (j * g + k) && x.bad x.vc sw (j * g + k))
      (∀ c, x.bytePlaces .write i0 sw bytes (at_ j) s = (s1, .error c) → give s j = (s1, .error (c, at_ j))) ∧
      ∀ ps, x.bytePlaces .write i0 sw bytes (at_ j) s = (s1, .ok ps) → give s j = (ps.zipIdx.foldl (fun s q =>
        let s := catWrite (at_ j + BitVec.ofNat 64 q.2) 1
          (storeLoc (setAD q.1 (noteStoreOn (dieOf x.vlen sw i0) q.1 s)) q.1.key q.1.loc 1 (block.1.getD q.2 0) false)
        if bad then s.mapDev (fun d => { d with mem := markPoison d.mem 1 q.1.loc }) else s) s1, .ok block.2)) ∧
    (∀ (vals : List (Option Fv)), (∀ v ∈ vals, v = none) → (qGroupBytes q8 grp vals).2 = 0 ∧
      (qGroupBytes q8 grp vals).1.take 4 = [0, 0x3C, 0, grp] ∧ ∀ c ∈ (qGroupBytes q8 grp vals).1.drop 4, c = 0) ∧
    (∀ v sc zp, zp < 2 ^ b → (qCode b sc zp v).1 < 2 ^ b)) ∧
  (let pat (n : Nat) : Option Fv := some (unpack f32 false n)
   (qGroupBytes false 0 ([0xBFC00000, 0x400CCCCD, 0x40C00000].map pat ++ List.replicate 29 (pat 0))).1.take 5 = [0, 0x38, 3, 0, 0x70]) ∧
  (∀ (x : VX),
    let lw := x.wtag.width
    let sw := x.tagC.width
    let addr (i : Nat) : Word := x.e.x1 + BitVec.ofNat 64 (i * 2)
    let place (acc : Acc) (w : Nat) (s : State) (i : Nat) : State × Except Cause Place :=
      if (addr i).toNat % 2 ≠ 0 then (s, .error .align) else translate s x.e.ctx (s.vtlb (dieOf x.vlen w i)) acc (addr i)
    let value (v : Nat) : Nat × Flags := if x.wtag = .bf16 then fvTo bf16 x.rm x.ftz (unpack fp16 x.ftz v)
      else fvTo x.wtag.fmt .rne false (unpack fp16 false v)
    let half (i : Nat) : Nat × Flags := fvTo fp16 x.rm x.ftz (unpack x.tagC.fmt x.ftz (x.el x.vc sw i))
    let load (s : State) (i : Nat) : State × Except (Cause × Word) (Nat × Bool) := match place .read lw s i with
      | (s, .error c) => (s, .error (c, addr i))
      | (s, .ok p) =>
        let s := noteLoadOn (dieOf x.vlen lw i) (dieOf x.vlen lw i) p (setAD p s)
        (s, .ok (readNat s.dev.mem p.key 2 p.loc, anyPoisoned s.dev 2 p.loc))
    let store (s : State) (i : Nat) : State × Except (Cause × Word) Unit := match place .write sw s i with
      | (s, .error c) => (s, .error (c, addr i))
      | (s, .ok p) =>
        let s := catWrite (addr i) 2 (storeLoc (setAD p (noteStoreOn (dieOf x.vlen sw i) p s)) p.key p.loc 2 (half i).1 false)
        (if x.bad x.vc sw i then s.mapDev (fun d => { d with mem := markPoison d.mem 2 p.loc }) else s, .ok ())
    (x.Fits x.vd lw → InTurn load (x.actives lw) id x.s (runLdf16 x) (fun t vs _ u fl => u.dev = t.dev ∧
      UnionOf fl (vs.map fun q => (value q.2.1).2) ∧ x.Only u.core.th x.vd x.grp ∧
      Held x u.core.th x.vd lw x.wtag (vs.map fun q => (q.1, (value q.2.1).1, q.2.2)))) ∧
    InTurn store (x.actives sw) id x.s (runStf16 x) (fun t vs stop u fl =>
      UnionOf fl (vs.map fun q => (half q.1).2) ∧ u = if stop.isNone then doneAt t else t)) ∧
  (∀ (x : VX) (f z : Nat), (z = 1 ∨ z = 2 ∨ z = 4 ∨ z = 8) → 2 ≤ f → f ≤ 8 →
    let lw := x.wtag.width
    let tagOf (k : Nat) : Tag := (vreg x.t (x.vc + k * x.grp)).tag
    let sw := (tagOf 0).width
    let at_ (i k : Nat) : Word := x.e.x1 + BitVec.ofNat 64 (i * f * z + k * z)
    let narrow : Tag := if z = 2 then .bf16 else if z = 4 then .f32 else .f64
    let widened (v : Nat) : Nat × Flags := if x.wtag.isInt then (((BitVec.ofNat (8 * z) v).toInt % 2 ^ lw).toNat, 0)
      else cvtEl .rne false true narrow x.wtag v
    let narrowed (k i : Nat) : Nat × Flags :=
      let v := x.el (x.vc + k * x.grp) (tagOf k).width i
      if (tagOf k).isInt then (v % 2 ^ (8 * z), 0) else cvtEl x.rm x.ftz true (tagOf k) narrow v
    let place (acc : Acc) (w i : Nat) (s : State) (k : Nat) : State × Except Cause Place :=
      if (at_ i k).toNat % z ≠ 0 then (s, .error .align) else translate s x.e.ctx (s.vtlb (dieOf x.vlen w i)) acc (at_ i k)
    let record (acc : Acc) (w : Nat) (s : State) (i : Nat) : State × Except (Cause × Word) (List Place) :=
      x.segPlaces f z w acc i (List.range f) s
    let load (s : State) (i : Nat) : State × Except (Cause × Word) (List (Nat × Bool)) := match record .read lw s i with
      | (s, .error e) => (s, .error e)
      | (s, .ok ps) =>
        let r := ps.foldl (fun (acc : State × List (Nat × Bool)) p =>
          let s := noteLoadOn (dieOf x.vlen lw i) (dieOf x.vlen lw i) p (setAD p acc.1)
          (s, acc.2 ++ [(readNat s.dev.mem p.key z p.loc, anyPoisoned s.dev z p.loc)])) (s, [])
        (r.1, .ok r.2)
    let store (s : State) (i : Nat) : State × Except (Cause × Word) Unit := match record .write sw s i with
      | (s, .error e) => (s, .error e)
      | (s, .ok ps) => (ps.zipIdx.foldl (fun s q =>
          let s := catWrite (at_ i q.2) z
            (storeLoc (setAD q.1 (noteStoreOn (dieOf x.vlen sw i) q.1 s)) q.1.key q.1.loc z (narrowed q.2 i).1 false)
          if x.bad (x.vc + q.2 * x.grp) (tagOf q.2).width i then s.mapDev (fun d => { d with mem := markPoison d.mem z q.1.loc }) else s) s,
          .ok ())
    (x.vlen ≤ 16384 → x.vd + f * x.grp ≤ 32 → x.vl ≤ capacity x.vlen lw x.grp →
      InTurn load (x.actives lw) id x.s (runLdseg x f z) (fun t vs _ u fl => u.dev = t.dev ∧
        UnionOf fl (vs.flatMap fun q => q.2.map fun r => (widened r.1).2) ∧ x.Only u.core.th x.vd (f * x.grp) ∧
        ∀ k < f, Held x u.core.th (x.vd + k * x.grp) lw x.wtag (vs.map fun q =>
          (q.1, (widened (q.2.getD k (0, false)).1).1, (q.2.getD k (0, false)).2)))) ∧
    InTurn store (x.actives sw) id x.s (runStseg x f z) (fun t vs stop u fl =>
      UnionOf fl (vs.flatMap fun q => (List.range f).map fun k => (narrowed k q.1).2) ∧
      u = if stop.isNone then doneAt t else t) ∧
    (∀ acc w s i t vs, Performs (place acc w i) s (List.range f) t vs → record acc w s i = (t, .ok (vs.map (·.2)))) ∧
    (∀ acc w s i pre k post t u vs c, List.range f = pre ++ k :: post → Performs (place acc w i) s pre t vs →
      place acc w i t k = (u, .error c) → record acc w s i = (u, .error (c, at_ i 0))))

/-! ### System functions, fences and synchronisation -/

/-- 05 R134, R136, R133, R137, R138; 20 R432; 21 R451, R452; 10 R264; 01 R19: the system functions complete at a level that may run
them: `nap` with a cause pending, `iflush`, `tret` without a vector context, `uret`, and `yield`, which sets its thread aside and
frees the core. `tret` with SSTATUS.VT set waits until the queue is empty, stops the core where its area lies outside the
supervisor region, and otherwise restores the masks, the user CSRs and the queue of the block its context left there, every entry
to start at its progress, the one at VQPOS at VSTART, and goes on at SEPC. That `uret` raises ALIGN at an odd UTPC is the
model's reading (log 57); a handler whose thread is set aside is log 54. -/
def Obligations.SystemFunctionResults : Prop :=
  ∀ (st : BitVec 2) (s : State),
    (s.core.level ≠ .user → asyncPending s = true →
      Acts [] 4 (.nap st) s { s with core := { s.core with run := .live } } 0 0) ∧
    (s.core.level ≠ .user → asyncPending s = false → ∃ t, exec (.nap st) s = .next t ∧ t.core.run = .napping ∧
      WaitEffect { s with core := { s.core with run := .napping } } t) ∧
    (s.core.level ≠ .user → Acts [] 4 (.iflush st) s
      { s with
        core := { s.core with
          icache := [], fills := [], lead := none, leadV := (s.core.lead.map (·.v)).getD s.core.leadV,
          diverged := false, refork := s.csr.pairctl.getLsbD 0 }
        dev := { s.dev with tlbs := s.dev.tlbs.filter (fun e => e.tlb != .itlb s.at_) } } 0 0) ∧
    (s.core.level ≠ .user → ¬(s.core.level = .supervisor ∧ s.core.sup.sstatus.toNat % 4 = 2) → s.core.sup.sstatus.getLsbD 9 = false →
      ∃ t, exec (.tret st) s = .next t ∧ t = { s with core := t.core, free := t.free } ∧
        t.core = { s.core with
          th := { s.core.th with
            pc := s.core.sup.sepc, lat := [], resv := none, vresv := [], wait := none, din := s.core.th.din + 1
            arrival := s.core.th.arrival.filter (fun a => a.2.2 == s.core.sup.sepc)
            csr := { s.csr with instret := s.csr.instret + 1 } }
          level := Level.ofNum (s.core.sup.sstatus.toNat % 4)
          sup := { s.core.sup with sstatus := t.core.sup.sstatus }
          cat := { s.core.cat with entries := s.core.cat.entries.filter (fun e => e.load.isNone) }
          lead := none, leadV := t.core.leadV, diverged := false, refork := s.csr.pairctl.getLsbD 0, ready := t.core.ready } ∧
        t.core.leadV = (s.core.lead.map (·.v)).getD s.core.leadV ∧
        ∀ k, t.core.sup.sstatus.getLsbD k = if k = 2 then s.core.sup.sstatus.getLsbD 3 else s.core.sup.sstatus.getLsbD k) ∧
    (s.core.level ≠ .user → ¬(s.core.level = .supervisor ∧ s.core.sup.sstatus.toNat % 4 = 2) → s.core.sup.sstatus.getLsbD 9 = true →
      (vecBusy s = true → ∃ t, exec (.tret st) s = .next t ∧ WaitEffect s t) ∧
      (vecBusy s = false → areaOf s.dev s.core.sup.sctx = none →
        exec (.tret st) s = .next { s with core := { s.core with run := .stopped } }) ∧
      (vecBusy s = false → ∀ o, areaOf s.dev s.core.sup.sctx = some o → assocGet s.dev.blocks o = some s.core.th.who →
        s.core.out = false → ∃ s1 q t,
          readQueue (Level.ofNum (s.core.sup.sstatus.toNat % 4)) o (readImage s o) (min (dspRead s (o + 0x800) 1) 64) 0 0 s = (s1, q) ∧
          exec (.tret st) s = .next t ∧ t.core.level = Level.ofNum (s.core.sup.sstatus.toNat % 4) ∧
          t.core.th.pc = s.core.sup.sepc ∧ t.core.th.g = s.core.th.g ∧ t.core.th.v = s.core.th.v ∧ t.core.th.m = readMasks s1 o ∧
          t.csr.fflags = (nthW (readImage s1 o) 0).setWidth 5 ∧ t.csr.frm = (nthW (readImage s1 o) 1).setWidth 3 ∧
          t.csr.utvec = nthW (readImage s1 o) 17 ∧ t.csr.vl = s.csr.vl ∧ t.csr.vtype = s.csr.vtype ∧
          t.csr.vstart = (if q.isEmpty then s.csr.vstart else 0) ∧
          t.core.th.viq.length = q.length ∧ ∀ j e, q[j]? = some e → ∃ k, t.core.th.viq[j]? = some k ∧
            k.desc = e.desc ∧ k.pc = e.pc ∧ k.x1 = e.x1 ∧ k.x2 = e.x2 ∧ k.x3 = e.x3 ∧ k.vl = e.vl ∧ k.vtype = e.vtype ∧
            k.progress = if j = ((nthW (readImage s1 o) 6).setWidth 6).toNat then s.csr.vstart.toNat else e.progress)) ∧
    (s.csr.utActive = true → s.csr.utpc.getLsbD 0 = true → Traps [] (.uret st) s .align s.csr.utpc) ∧
    (s.csr.utActive = true → s.csr.utpc.getLsbD 0 = false → (s.core.level = .user → s.csr.utvec ≠ 0 → utFirst s.core.th = none) →
      ∃ t, exec (.uret st) s = .next t ∧ t = { s with core := t.core, free := t.free } ∧
        t.core = { s.core with
          th := { s.core.th with
            pc := t.core.th.pc, bank := none, lat := [], held := 0, uvec := none, wait := none, din := s.core.th.din + 1
            csr := { s.csr with utActive := false, instret := s.csr.instret + 1 } }
          lead := none, leadV := t.core.leadV, diverged := false, refork := s.csr.pairctl.getLsbD 0, ready := t.core.ready } ∧
        t.core.leadV = (s.core.lead.map (·.v)).getD s.core.leadV ∧
        (s.core.th.uvec = none → t.core.th.pc = s.csr.utpc)) ∧
    (s.core.out = false → ∃ t, exec (.yield st) s = .next t ∧ t.core.run = .idle ∧ ∃ a ∈ t.dev.walker.aside,
      a.core = s.at_ ∧ a.level = s.core.level ∧ a.th.pc = s.core.th.pc + 4 ∧ a.th.g = s.core.th.g ∧ a.th.bank = s.core.th.bank ∧
      a.th.v = s.core.th.v ∧ a.th.m = s.core.th.m ∧ a.th.viq = s.core.th.viq ∧ a.th.utq = s.core.th.utq ∧ a.th.resv = none)

/-- 05 R135; 14 R342; 08 R246: `kend` in both spellings: LOCKMISUSE with the lowest name while a lock is held; a wait until the
queue is empty, no trap is to be delivered and its JOIN operations have finished; and then the thread ends and its core is free.
It ORs FFLAGS into the completion word, and the last thread of an iteration counts it there: COMPLETED gains one, or after a
fault NFAULT, up to 65,535, with FAULTED. That held locks are looked at before the wait is the model's reading (log 50), and that
the handler of a thread that is set aside only leaves its core is log 54. -/
def Obligations.KendResults : Prop :=
  (∀ (n : Nest) (f : Word → Word) (s s1 : State) (p : Place), n.word 0x60 ≠ 0 →
    translate s n.ctx.alien .sqd .write (n.word 0x60) = (s1, .ok p) → anyPoisoned s1.dev 8 p.loc = false →
    nestUpdate n f s = rmwBy none (setAD p s1) p.key p.loc 8
      (f (BitVec.ofNat 64 (readNat (setAD p s1).dev.mem p.key 8 p.loc))).toNat false) ∧
  ∀ (st : BitVec 2) (s : State), s.csr.utActive = false →
    ∀ i ∈ [Instr.kend st, .cKend],
      (s.core.out = true → vecBusy s = true → ∃ t, exec i s = .next t ∧ WaitEffect s t) ∧
      (s.core.out = true → vecBusy s = false → ∃ t, exec i s = .next t ∧ t.core.run = .idle ∧
        t.dev.walker.aside = s.dev.walker.aside ∧ t.dev.walker.nests = s.dev.walker.nests) ∧
      (s.core.out = false →
        (∀ n, lowestName (myLocks s) = some n → Traps [] i s .lockmisuse n) ∧
        (myLocks s = [] → kendReady s = false → ∃ t, exec i s = .next t ∧ WaitEffect s t) ∧
        (myLocks s = [] → kendReady s = true → ∃ t, exec i s = .next t ∧ t.core.run = .idle ∧ t.core.level = .user ∧
          t.core.th.viq = [] ∧ t.core.th.streams = [] ∧ t.core.th.utq = [] ∧ t.core.lead = none ∧ t.core.coalesce = [] ∧
          t.core.sup = s.core.sup ∧ t.at_ = s.at_) ∧
        (myLocks s = [] → kendReady s = true → ∀ n it, nestAt s s.core.th.nest = some n →
          n.iters.find? (·.ord == s.core.th.ord) = some it →
          let u := nestUpdate n (· ||| s.csr.fflags.setWidth 64)
            (discardCopies (fun c => c.nest == s.core.th.nest && c.ord == s.core.th.ord && c.tid == s.core.th.tid) s.release)
          let freed : Mem := (dspWrite u (reqOff + 8 * s.at_) 8 0).dev.mem
          let counts (f : Word → Word) : Prop := ∃ w : State, w.dev.mem = freed ∧ exec i s = .next (nestUpdate n f w)
          (1 < it.left → ∃ t, exec i s = .next t ∧ t.dev.mem = freed) ∧
          (it.left = 1 → it.faulted = false → it.lost = true → ∃ t, exec i s = .next t ∧ t.dev.mem = freed) ∧
          (it.left = 1 → it.faulted = false → it.lost = false → counts (· + 0x100000000)) ∧
          (it.left = 1 → it.faulted = true →
            counts (fun w => (if w.toNat / 2 ^ 16 % 2 ^ 16 = 65535 then w else w + 0x10000) ||| 0x400))))

/-- 05 R139 to R142; 10 R279; 18 R412, R413; 19 R418: fences complete with what they do to the Catalogue, the coalescing buffer, the
lines kept and TIME, which a release carries to the acquires after it, and change no byte; `vdrain` waits while an entry of its
classes is queued; prefetches never trap. That a mask of no class does none of this is the model's reading (log 58). -/
def Obligations.FenceResults : Prop :=
  ∀ (m : BitVec 16) (e st : BitVec 2) (a : Reg) (o : BitVec 7) (c : BitVec 4) (s : State),
    let kept := s.core.cat.entries.filter (fun x => !(x.load.map (fun l => m.getLsbD l.1.toNat)).getD false)
    let s0 : State := if m = 0 then s else
      { s with
        core := { s.core with cat := { s.core.cat with entries := kept }, coalesce := [] }
        dev := { s.dev with carried := s.carriedTime } }
    let own := s.dev.joins.any (fun j => j.seen && j.isOf s.core.th)
    let s1 : State := if m = 0 then s0 else
      { s0 with core := { s0.core with
        tblines := if e = 0 ∧ own = false then s.core.tblines else [], th := { s0.core.th with floor := s.carriedTime } } }
    Acts [] 4 (.fence m e st) s s0 0 0 ∧
    Acts [] 4 (.fencerel m e st) s s0 0 0 ∧
    Acts [] 4 (.fenceacq m e st) s s1 0 0 ∧
    (memoryQueued m s = false → Acts [] 4 (.vdrain m e st) s s0 0 0) ∧
    (memoryQueued m s = true → ∃ t, exec (.vdrain m e st) s = .next t ∧ WaitEffect s t) ∧
    (∃ s2, Acts [a] 4 (.iprf a o st) s s2 0 0 ∧ ∃ k ic fl tl h fb, s2 = { s with
      core := { s.core with icache := ic, fills := fl, th := { s.core.th with csr := { s.csr with ipdrop := k } } }
      dev := { s.dev with tlbs := tl, host := h, fabric := fb } }) ∧
    (c.toNat < 2 → ∃ s2, Acts [a] 4 (.dprf a o c st) s s2 0 0 ∧ ∃ lines tl h fb, s2 = { s with
      core := { s.core with tblines := lines }
      dev := { s.dev with tlbs := tl, host := h, fabric := fb } })

/-- 07 R188, Table 07-1; 18 R409, R413: once no queued instruction reads a gated register, `lacq` completes as a load followed by
an acquire of its class and scope, `srel` as a store that is a release; both report a misaligned address, what translation finds,
and poison. -/
def Obligations.AcquireReleaseResults : Prop :=
  ∀ (d a b : Reg) (imm : BitVec 11) (w sc : BitVec 2) (cls : BitVec 4) (st : BitVec 2) (s : State),
    let z := 2 ^ w.toNat
    let va : Word := readG s a + imm.signExtend 64 * BitVec.ofNat 64 z
    acquiresQueued s = false →
    (∀ s1 p, va.toNat % z = 0 → translate s s.ctx s.dtlb .read va = (s1, .ok p) → anyPoisoned s1.dev z p.loc = false →
      let s2 := seeJoin p.loc (noteLoad p (setAD p s1))
      Acts [a] 8 (.lacq d a imm w sc cls st) s (acquireOf p.loc sc (1#16 <<< cls.toNat) s2) d
        (BitVec.ofNat 64 (readNat s2.dev.mem p.key z p.loc))) ∧
    (∀ s1 p, va.toNat % z = 0 → translate s s.ctx s.dtlb .write va = (s1, .ok p) →
      Acts [a, b] 8 (.srel b a imm w sc cls st) s
        (catWrite va z (storeLoc (noteStore p (setAD p s1)) p.key p.loc z ((readG s b).toNat % 2 ^ (8 * z)) false)).release 0 0) ∧
    AccessTraps [a] (.lacq d a imm w sc cls st) s .read va z ∧ AccessTraps [a, b] (.srel b a imm w sc cls st) s .write va z

/-- 07 R189, Table 07-5; 18 R409: once no queued instruction reads a gated register and no queued atomic may fall on its bytes,
every scalar atomic completes with the old value in gd, sign-extended for the signed members, and writes what its row says, or
nothing; its orderings drain the buffer and floor TIME. R191, R192, R176: the elements of a vector atomic perform in ascending order,
each reading its old value and writing what its row says, or nothing, with the poison of what it was made from; the returning form
leaves the old values in vd. The first that fails raises its cause with its address, those below it applied. -/
def Obligations.AtomicResults : Prop :=
  (∀ (d a b e : Reg) (imm : BitVec 11) (ord : BitVec 2) (wide : Bool) (sc : BitVec 2) (cls : BitVec 4) (st : BitVec 2) (s s1 : State)
    (p : Place),
    let z := if wide then 8 else 4
    let va : Word := readG s a + imm.signExtend 64 * BitVec.ofNat 64 z
    let x := (readG s b).toNat % 2 ^ (8 * z)
    let y := (readG s e).toNat % 2 ^ (8 * z)
    let old := readNat s1.dev.mem p.key z p.loc
    let int (v : Nat) : Int := (BitVec.ofNat (8 * z) v).toInt
    let order (u : State) : State :=
      let u := if ord.getLsbD 1 then u.release else u
      if ord.getLsbD 0 then acquireOf p.loc sc (1#16 <<< cls.toNat) u else u
    let does (i : Instr) (rs : List Reg) (signed : Bool) (new : Option Nat) : Prop :=
      let s2 := match new with
        | some v => catWrite va z (storeRmw (setAD p s1) p.key p.loc z v false)
        | none => (setAD p.readOnly s1).mapDev (readLine sqdDie p.loc)
      Acts rs 8 i s (order s2) d
        (if signed then (BitVec.ofNat (8 * z) old).signExtend 64 else (BitVec.ofNat (8 * z) old).setWidth 64)
    acquiresQueued s = false → rmwQueued s1 p.loc z = false →
    va.toNat % z = 0 → translate s s.ctx s.dtlb .rw va = (s1, .ok p) → anyPoisoned s1.dev z p.loc = false →
      does (.aswap d a b imm ord wide sc cls st) [a, b] false (some x) ∧
      does (.aadd d a b imm ord wide sc cls st) [a, b] false (some ((old + x) % 2 ^ (8 * z))) ∧
      does (.aand d a b imm ord wide sc cls st) [a, b] false (some (old &&& x)) ∧
      does (.aor d a b imm ord wide sc cls st) [a, b] false (some (old ||| x)) ∧
      does (.axor d a b imm ord wide sc cls st) [a, b] false (some (old ^^^ x)) ∧
      does (.amin d a b imm ord wide sc cls st) [a, b] true (some (if int x < int old then x else old)) ∧
      does (.amax d a b imm ord wide sc cls st) [a, b] true (some (if int old < int x then x else old)) ∧
      does (.aminn d a b imm ord wide sc cls st) [a, b] false (some (min old x)) ∧
      does (.amaxn d a b imm ord wide sc cls st) [a, b] false (some (max old x)) ∧
      does (.ainc d a b imm ord wide sc cls st) [a, b] false (some (if x ≤ old then 0 else old + 1)) ∧
      does (.adec d a b imm ord wide sc cls st) [a, b] false (some (if old = 0 ∨ x < old then x else old - 1)) ∧
      does (.abadd d a b e imm ord wide sc cls st) [a, b, e] false (if old + x ≤ y then some (old + x) else none) ∧
      does (.acas d a b e imm ord wide sc cls st) [a, b, e] false (if old = y then some x else none)) ∧
  (∀ (x : VX) (o : VamoOp) (ret : Bool), x.e.desc.op = .amo o ret → (ret = true → x.Fits x.vd x.tagC.width) →
    let w := x.tagC.width
    let z := w / 8
    let addr (k : Nat) : Word := x.e.x1 + BitVec.ofNat 64 (x.el x.vb x.tagB.width k)
    let one (s : State) (i : Nat) : State × Except (Cause × Word) (Nat × Bool) :=
      if x.bad x.vb x.tagB.width i = true then (s, .error (.poison, addr i))
      else if (addr i).toNat % z ≠ 0 then (s, .error (.align, addr i))
      else match translate s x.e.ctx (s.vtlb (dieOf x.vlen w i)) .rw (addr i) with
        | (s, .error c) => (s, .error (c, addr i))
        | (s, .ok p) =>
          let old := readNat s.dev.mem p.key z p.loc
          let bad := anyPoisoned s.dev z p.loc
          (match amoNew o x.tagC x.ftz old (x.el x.vc w i) (x.el x.vd w i) with
            | some v =>
              let t := catWrite (addr i) z (storeLoc (setAD p s) p.key p.loc z v false)
              let t := if bad || x.bad x.vc w i then t.mapDev (fun d => { d with mem := markPoison d.mem z p.loc }) else t
              if ret = false ∧ isSram p.loc = false then t.mapDev (fun d => { d with fabric := { d.fabric with
                acked := d.fabric.acked ++ [⟨t.core.th.nest, p.key, p.loc, z, old⟩] } }) else t
            | none => (setAD p.readOnly s).mapDev (readLine (dieOf x.vlen w i) p.loc), .ok (old, bad))
    InTurn one (x.actives w) id x.s (runAmo x o ret) (fun t vs stop u fl => fl = 0 ∧
      if ret then u.dev = t.dev ∧ x.Only u.core.th x.vd x.grp ∧ Held x u.core.th x.vd w x.tagC vs
      else u = if stop.isNone then doneAt t else t)) ∧
  (∀ (ty : Tag) (ftz : Bool) (old d bound : Nat), old < 2 ^ ty.width → d < 2 ^ ty.width →
    let w := ty.width
    let int (v : Nat) : Int := (BitVec.ofNat w v).toInt
    let new (o : VamoOp) : Option Nat := amoNew o ty ftz old d bound
    new .add = some ((old + d) % 2 ^ w) ∧ new .and = some (old &&& d) ∧ new .or = some (old ||| d) ∧ new .xor = some (old ^^^ d) ∧
    new .min = some (if int d < int old then d else old) ∧ new .max = some (if int old < int d then d else old) ∧
    new .swap = some d ∧ new .inc = some (if d ≤ old then 0 else old + 1) ∧
    new .badd = (if old + d ≤ bound then some (old + d) else none) ∧
    new .fadd = some (fvAdd ty.fmt .rne false (unpack ty.fmt false old) (unpack ty.fmt false d)).1 ∧
    new .fmax = some (fvMinMax ty.fmt true (unpack ty.fmt ftz old) (unpack ty.fmt ftz d)).1)

/-- 07 R190; 18 R409: once nothing queued comes before them, `ll` completes as a load that takes the reservation of its 128-byte granule; `sc` stores and returns 0 where the
reservation stands and covers the address, returns 1 otherwise, and ends the reservation either way. That an `sc` that fails
sets no A or D bit is the model's reading (log 30). R193 to R195: the elements of `vgl` load in ascending order and take reservations
in place of those of every earlier one; an element of `vsc` stores where its reservation stands and covers its address and no lower
one succeeded there, its mask bit says whether it did, and its reservation goes; after a trap those above it keep theirs. -/
def Obligations.LinkedResults : Prop :=
  (∀ (d a b : Reg) (imm : BitVec 11) (ord : BitVec 2) (wide : Bool) (sc : BitVec 2) (cls : BitVec 4) (st : BitVec 2) (s s1 : State)
    (p : Place),
    let z := if wide then 8 else 4
    let va : Word := readG s a + imm.signExtend 64 * BitVec.ofNat 64 z
    let order (u : State) : State :=
      let u := if ord.getLsbD 1 then u.release else u
      if ord.getLsbD 0 then acquireOf p.loc sc (1#16 <<< cls.toNat) u else u
    acquiresQueued s = false →
    (va.toNat % z = 0 → translate s s.ctx s.dtlb .read va = (s1, .ok p) → anyPoisoned s1.dev z p.loc = false →
      let s2 := seeJoin p.loc (noteLoad p (setAD p s1))
      Acts [a] 8 (.ll d a imm ord wide sc cls st) s (order (s2.mapTh (fun t => { t with resv := some (p.loc / 128, s.dev.clk) }))) d
        (BitVec.ofNat 64 (readNat s2.dev.mem p.key z p.loc))) ∧
    (va.toNat % z = 0 → translate s s.ctx s.dtlb .write va = (s1, .ok p) → rmwQueued s1 p.loc z = false →
      let done := ∃ t0, s.core.th.resv = some (p.loc / 128, t0) ∧ s.dev.clk < t0 + 4096
      (done → Acts [a, b] 8 (.sc d a b imm ord wide sc cls st) s
        (order ((catWrite va z (storeRmw (setAD p s1) p.key p.loc z ((readG s b).toNat % 2 ^ (8 * z)) false)).mapTh
          (fun t => { t with resv := none }))) d 0) ∧
      (¬done → Acts [a, b] 8 (.sc d a b imm ord wide sc cls st) s 
        (order ((s1.mapDev (readLine sqdDie p.loc)).mapTh (fun t => { t with resv := none }))) d 1)) ∧
    AccessTraps [a] (.ll d a imm ord wide sc cls st) s .read va z ∧
    AccessTraps [a, b] (.sc d a b imm ord wide sc cls st) s .write va z) ∧
  (∀ (x : VX),
    let lw := x.wtag.width
    let sw := x.tagC.width
    let addr (k : Nat) : Word := x.e.x1 + BitVec.ofNat 64 (x.el x.vb x.tagB.width k)
    let place (w : Nat) (s : State) (i : Nat) : State × Except Cause Place :=
      if x.bad x.vb x.tagB.width i = true then (s, .error .poison)
      else if (addr i).toNat % (w / 8) ≠ 0 then (s, .error .align)
      else translate s x.e.ctx (s.vtlb (dieOf x.vlen w i)) .rw (addr i)
    let link (s : State) (i : Nat) : State × Except (Cause × Word) (Nat × Bool) := match place lw s i with
      | (s, .error c) => (s, .error (if c = .xlateW then .xlateR else c, addr i))
      | (s, .ok p) =>
        let s := noteLoadOn (dieOf x.vlen lw i) (dieOf x.vlen lw i) p.readOnly (setAD p.readOnly s)
        (s.mapTh (fun t => { t with vresv := t.vresv ++ [(i, p.loc / 128, s.dev.clk)] }),
          .ok (readNat s.dev.mem p.key (lw / 8) p.loc, anyPoisoned s.dev (lw / 8) p.loc))
    let cond (q : State × List Word) (i : Nat) : (State × List Word) × Except (Cause × Word) Bool := match place sw q.1 i with
      | (s, .error c) => ((s, q.2), .error (c, addr i))
      | (s, .ok p) =>
        let stands := s.core.th.vresv.any (fun r => r.1 == i && r.2.1 == p.loc / 128 && decide (s.dev.clk < r.2.2 + 4096))
        let ok := stands && !q.2.contains (addr i)
        let stored : State :=
          let t := catWrite (addr i) (sw / 8) (storeLoc (setAD p s) p.key p.loc (sw / 8) (x.el x.vc sw i) true)
          if x.bad x.vc sw i then t.mapDev (fun d => { d with mem := markPoison d.mem (sw / 8) p.loc }) else t
        let t := if ok then stored else (setAD p.readOnly s).mapDev (readLine (dieOf x.vlen sw i) p.loc)
        ((t.mapTh (fun u => { u with vresv := u.vresv.filter (fun r => r.1 != i) }), if ok then addr i :: q.2 else q.2), .ok ok)
    let begun : State := if x.e.progress = 0 then x.s.mapTh (fun t => { t with vresv := [] }) else x.s
    let bits (t : State) (vs : List (Nat × Bool)) (u : State) : Prop := u.dev = t.dev ∧ u.core.th.v = x.t.v ∧
      u.core.th.vresv = t.core.th.vresv ∧ (∀ q ∈ vs, maskBit u.core.th x.vd q.1 = q.2) ∧
      (∀ i < 1024 * x.ms, (∀ q ∈ vs, q.1 ≠ i) → maskBit u.core.th x.vd i = maskBit x.t x.vd i) ∧
      ∀ r, r < x.vd ∨ x.vd + x.ms ≤ r → u.core.th.m.getD r 0 = x.t.m.getD r 0
    (x.Fits x.vd lw → InTurn link (x.actives lw) id begun (runGl x) (fun t vs _ u fl => fl = 0 ∧ u.dev = t.dev ∧
      u.core.th.vresv = t.core.th.vresv ∧ x.Only u.core.th x.vd x.grp ∧ Held x u.core.th x.vd lw x.wtag vs)) ∧
    (x.vd + x.ms ≤ 16 → x.vl ≤ 1024 * x.ms →
      (∀ q vs, Performs cond (x.s, []) (x.actives sw) q vs → ∃ u, runSc x = .done u 0 [] ∧ bits q.1 vs u ∧ u.csr.vstart = 0) ∧
      ∀ pre i post q r vs c v, x.actives sw = pre ++ i :: post → Performs cond (x.s, []) pre q vs → cond q i = (r, .error (c, v)) →
        ∃ u, runSc x = .fault u 0 c v i ∧ bits r.1 vs u))

/-- 07 R196 to R198, Table 07-6; 18 R409, R417: on a word of the CSM or DSP window for which nobody waits, with nothing queued before
them, `fget` and `ftake` of a full word
and `fgive` of an empty one complete, `fempty` and `fpeek` always do; a word that is not as needed makes the first three
wait, in the word's queue. A `fgive` lets an `fget` that waits complete, and that returns what the word then held. R199 to R202: a full
and empty register is given and taken in the same way: `vpush` copies the die blocks of a group to its peer and fills it, waits while a
register of it is full or still to be loaded (21 R453) or the peer is switched out, and raises PERM where no such thread or gate is;
`vtake` copies a group and empties it; `vempty` and `vfill` mark one. -/
def Obligations.FutureResults : Prop :=
  (∀ (d a b : Reg) (imm : BitVec 11) (sc : BitVec 2) (cls : BitVec 4) (st : BitVec 2) (s : State) (win loc : Nat),
    let va : Word := readG s a + imm.signExtend 64 * 8
    let full := setHas s.dev.mem.full (loc / 8 * 8)
    let val : Word := BitVec.ofNat 64 (readNat s.dev.mem 0 8 loc)
    let mark (f : Bool) (u : State) : State := u.mapDev (fun g => { g with mem := { g.mem with
      full := if f then setAdd g.mem.full (loc / 8 * 8) else setDel g.mem.full (loc / 8 * 8) } })
    let queue (q : List FutWait) (u : State) : State := { u with dev := { u.dev with futq := q } }
    let waits (rs : List Reg) (i : Instr) (k : FutKind) : Prop := s.ready rs = true → s.core.th.wait = none →
      ∃ t, exec i s = .next t ∧ WaitEffect (queue [⟨s.at_, loc, k, false, none⟩] s) t
    let got (u : State) : State := acquireOf loc sc (1#16 <<< cls.toNat) (u.mapDev (passAcked (loc / 128)))
    let given : State := mark true (catWrite va 8 (storeLoc s.release 0 loc 8 (readG s b).toNat false))
    acquiresQueued s = false → rmwQueued s loc 8 = false → va.toNat % 8 = 0 → windowOf va.toNat = some win → (win = 2 ∨ win = 3) →
      (windowLoc s s.ctx .read win va.toNat = .ok loc → s.dev.futq = [] →
        (full = true → anyPoisoned s.dev 8 loc = false →
          Acts [a] 8 (.fget d a imm sc cls st) s (got s) d val ∧
          Acts [a] 8 (.ftake d a imm sc cls st) s (got (mark false s)) d val) ∧
        (full = false → waits [a] (.fget d a imm sc cls st) .get ∧ waits [a] (.ftake d a imm sc cls st) .take) ∧
        (memoryQueued (1#16 <<< cls.toNat) s = false → Acts [a] 8 (.fpeek d a imm sc cls st) s s d (if full then 1 else 0))) ∧
      (windowLoc s s.ctx .write win va.toNat = .ok loc → s.dev.futq = [] →
        (full = false → Acts [a, b] 8 (.fgive b a imm sc cls st) s given 0 0) ∧
        (full = true → waits [a, b] (.fgive b a imm sc cls st) .give) ∧
        (memoryQueued (1#16 <<< cls.toNat) s = false → Acts [a] 8 (.fempty a imm sc cls st) s (mark false s) 0 0)) ∧
      (windowLoc s s.ctx .write win va.toNat = .ok loc → full = false → ∀ c, c ≠ s.at_ → s.dev.futq = [⟨c, loc, .get, false, none⟩] →
        Acts [a, b] 8 (.fgive b a imm sc cls st) s
          (queue [⟨c, loc, .get, true, some (readNat given.dev.mem 0 8 loc)⟩] given) 0 0) ∧
      (windowLoc s s.ctx .read win va.toNat = .ok loc → full = true → anyPoisoned s.dev 8 loc = false → ∀ v,
        s.dev.futq = [⟨s.at_, loc, .get, true, some v⟩] →
        Acts [a] 8 (.fget d a imm sc cls st) s (got (queue [] s)) d (BitVec.ofNat 64 v))) ∧
  (∀ (x : VX) (n : Nat),
    let g := x.e.x2
    let w := x.ta.width
    let busy : Word := BitVec.ofNat 64 (2 ^ 63 + 2 ^ 62 + g.toNat % 256 * 32 + x.vd)
    let peer : Thread := (x.s.coreAt n).th
    let inD (r : Nat) : Bool := decide (x.vd ≤ r) && decide (r < x.vd + x.grp)
    let inA (r : Nat) : Bool := decide (x.va ≤ r) && decide (r < x.va + x.grp)
    let gated : Prop := ∀ r, inD r = true → peer.csr.vfemask.getLsbD r = true
    let open_ : Prop := ∀ r, inD r = true → peer.csr.vfestate.getLsbD r = false ∧ peer.csr.vloaded.getLsbD r = true
    let states (t : Thread) (f : Nat → Bool) : Prop := ∀ r < 32, t.csr.vfestate.getLsbD r = f r
    x.vd + x.grp ≤ 32 → x.va + x.grp ≤ 32 →
      (256 ≤ g.toNat ∨ peerOf x.s g.toNat = .none → runPush x = .fault x.s 0 .perm g 0) ∧
      (g.toNat < 256 → peerOf x.s g.toNat = .away → runPush x = .wait x.s busy) ∧
      (g.toNat < 256 → peerOf x.s g.toNat = .core n →
        (¬gated → runPush x = .fault x.s 0 .perm g 0) ∧
        (gated → ¬open_ → runPush x = .wait x.s busy) ∧
        (gated → open_ → ∃ t, runPush x = .done t 0 [] ∧ t.dev.mem = x.s.dev.mem ∧
          (∀ k, k ≠ n → (t.coreAt k).th = (x.s.coreAt k).th) ∧
          let p := (t.coreAt n).th
          states p (fun r => peer.csr.vfestate.getLsbD r || inD r) ∧ p.g = peer.g ∧ p.m = peer.m ∧ p.pc = peer.pc ∧
          (∀ r < 32, p.csr.vdirty.getLsbD r = (peer.csr.vdirty.getLsbD r || inD r)) ∧
          (∀ r, inD r = false → vreg p r = vreg peer r) ∧ (∀ r, inD r = true → (vreg p r).tag = x.ta) ∧
          (x.vlen ≤ 16384 → x.vlen % 512 = 0 → ∀ i < capacity x.vlen w x.grp,
            el p x.vlen x.vd w i = (if x.dieOn w i then x.el x.va w i else el peer x.vlen x.vd w i)))) ∧
      (x.part = false → x.start < x.vl → x.Fits x.vd w → ∃ t, runTake x = .done t 0 [] ∧ t.dev = x.s.dev ∧
        Placed x t.core.th w x.ta (fun i => decide (x.start ≤ i) && x.dieOn w i) (x.el x.va w) ∧
        (∀ i < x.vl, x.start ≤ i → x.dieOn w i = true → elPoison t.core.th x.vlen x.vd w i = x.bad x.va w i) ∧
        states t.core.th (fun r => !inA r && (x.t.csr.vfestate.getLsbD r || (inD r && x.t.csr.vfemask.getLsbD r)))) ∧
      (x.start < x.vl → ∀ full, ∃ t, runFill x full = .done t 0 [] ∧ t.dev = x.s.dev ∧ t.core.th.v = x.t.v ∧
        states t.core.th (fun r => if inD r then full else x.t.csr.vfestate.getLsbD r)) ∧
      (x.vl ≤ x.start → runTake x = .done (doneAt x.s) 0 [] ∧ ∀ full, runFill x full = .done (doneAt x.s) 0 []))

/-- 01 R33; 07 R203 to R207, Table 07-9; 14 R348; 18 R409: the barrier members complete: `bset` writes TARGET, `barr` arrives and
returns the generation it arrived in, `bwait` and `bsync` return once GEN is ahead of theirs by 1 to 2^31, at gang scope once the
other members have completed it too, and `tsread` acquires; the arrival in which COUNT reaches TARGET starts the next generation.
`barr` and `bsync` find TARGET 0 to be ILLEGAL and otherwise wait for the queued accesses; a wait at gang scope of a gang that did
not form in time makes GANGFAIL pending. That TARGET is looked at before the wait is the model's reading (log 50), as is which
queued accesses there are (log 39) and what the other members of a gang do (log 20). -/
def Obligations.BarrierResults : Prop :=
  ∀ (d a : Reg) (n : BitVec 3) (k : BitVec 6) (sc st : BitVec 2) (s : State),
    let r : Bar := barOf s n
    let put (x : Bar) (u : State) : State := setBar n x u
    let x : BitVec 16 := (readG s a).setWidth 16
    let arrived : Bar := if r.count + 1 = r.target then ⟨r.gen + 1, 0, r.target⟩ else ⟨r.gen, r.count + 1, r.target⟩
    let passed (g : BitVec 32) : Prop := 1 ≤ (r.gen - g).toNat ∧ (r.gen - g).toNat ≤ 2 ^ 31
    let got (u : State) : State := barAcquire sc u
    let s0 : State := { s with
      core := { s.core with coalesce := [] }
      dev := { s.dev with carried := s.carriedTime } }
    let come (y : Option (BitVec 3 × BitVec 32 × Word)) (u : State) : State :=
      { u with core := { u.core with th := { u.core.th with arrival := y } } }
    let late := (s.dev.walker.nests.find? (fun m => m.seq == s.core.th.nest)).filter (fun m => sc = 3 ∧ m.gangLate = true)
    let tried (u : State) : State := { u with
      free := u.free + 1
      core := { u.core with gangfail := (late.map (fun m => m.record.extractLsb' (8 * 0x68) 32)).or u.core.gangfail } }
    let busy : Prop := storesQueued s = true ∨ acquiresQueued s = true
    let fresh : Prop := ∀ g pc, s.core.th.arrival ≠ some (n, g, pc)
    Acts [a] 8 (.bset n a st) s
      (put (if x ≠ 0 ∧ x.toNat ≤ r.count.toNat then ⟨r.gen + 1, 0, x⟩ else ⟨r.gen, r.count, x⟩) s) 0 0 ∧
    (sc ≠ 0 → r.target ≠ 0 → ¬busy → Acts [] 8 (.barr d n sc st) s (put arrived s0) d (r.gen.setWidth 64)) ∧
    (sc ≠ 0 → r.target ≠ 0 → busy → ∃ t, exec (.barr d n sc st) s = .next t ∧ WaitEffect s t) ∧
    (sc ≠ 0 → r.target = 0 → Traps [] (.barr d n sc st) s .illegal 0) ∧
    (sc ≠ 0 → gangReady sc s = true → passed ((readG s a).setWidth 32) → Acts [a] 8 (.bwait n a sc st) s (got s) 0 0) ∧
    (sc ≠ 0 → s.ready [a] = true → ¬passed ((readG s a).setWidth 32) ∨ gangReady sc s = false →
      ∃ t, exec (.bwait n a sc st) s = .next t ∧ WaitEffect (tried s) t) ∧
    (sc ≠ 0 → fresh → r.target = 0 →
      ∃ t, exec (.bsync n sc st) s = .next t ∧ TrapEntry (come none s) t .illegal 0 s.core.th.pc) ∧
    (sc ≠ 0 → fresh → r.target ≠ 0 → busy → ∃ t, exec (.bsync n sc st) s = .next t ∧ WaitEffect (come none s) t) ∧
    (sc ≠ 0 → fresh → r.target = r.count + 1 → r.target ≠ 0 → ¬busy →
      gangReady sc s = true → Acts [] 8 (.bsync n sc st) s (got (put arrived (come none s0))) 0 0) ∧
    (sc ≠ 0 → fresh → r.target ≠ r.count + 1 ∨ gangReady sc s = false → r.target ≠ 0 → ¬busy →
      ∃ t, exec (.bsync n sc st) s = .next t ∧
        WaitEffect (tried (put arrived (come (some (n, r.gen, s.core.th.pc)) s0))) t) ∧
    (sc ≠ 0 → gangReady sc s = true → ∀ g pc, s.core.th.arrival = some (n, g, pc) → passed g →
      Acts [] 8 (.bsync n sc st) s (got (come none s)) 0 0) ∧
    (sc ≠ 0 → ∀ g pc, s.core.th.arrival = some (n, g, pc) → ¬passed g ∨ gangReady sc s = false →
      ∃ t, exec (.bsync n sc st) s = .next t ∧ WaitEffect (tried s) t) ∧
    (sc = 0 → Traps [] (.barr d n sc st) s .illegal 0 ∧ Traps [] (.bwait n a sc st) s .illegal 0 ∧ Traps [] (.bsync n sc st) s .illegal 0) ∧
    (acquiresQueued s = true → Holds (.tsread d k st) s) ∧
    (acquiresQueued s = false → Acts [] 8 (.tsread d k st) s (acquireAt 1 0xFFFF s) d
      (((s.cluster (s.at_ / 8)).tokens[k.toNat]'k.isLt).setWidth 64))

/-! ### Engines, locks and launches -/

/-- 08 R233 to R235, R209; 17 R400; 18 R409, R412: the scalar members of ENG complete once no older posting instruction is queued:
`esusp` and `eresm` change the thread's copies and count them, what a suspended one holds in buffers being written, `estat`
reports, and `ewait` returns a counter that has come as far as asked, after an acquire; otherwise they wait. R223 to R230; 04 R107 to R109:
the TILE members reach a tile or a block in chunks of 128 bytes, all checked before one is written: a misaligned address is ALIGN, an
operand out of range ILLEGAL, the first chunk that fails its cause with its address; `tzero` writes rows of zeros, `trenorm` gives
every row its headroom, `tinit` a header, `tload` exports elements, `tstat` and `tflags` return the summary of the scale words and the
latter clears flags, `tplanar` quantises a row into its planes and returns the exponent. R236, R237, R241, R242: `sbind` binds a
register to the descriptor it reads, at its start; `sunbind` ends a binding; `sflush` drops what is ahead; `sstat` reports. -/
def Obligations.EngineScalarResults : Prop :=
  (∀ (d a b : Reg) (all : Bool) (imm : BitVec 11) (sc : BitVec 2) (cls : BitVec 4) (st : BitVec 2) (s : State),
    let x := readG s a
    let pick (susp : Bool) (c : CopyCmd) : Bool :=
      c.nest == s.core.th.nest && c.ord == s.core.th.ord && c.tid == s.core.th.tid && c.state != .finished &&
        c.suspended == susp && (all || c.utag == x)
    let change (susp : Bool) (f : CopyCmd → CopyCmd) (u : State) : State :=
      { u with dev := { u.dev with copies := s.dev.copies.map (fun c => if pick susp c then f c else c) } }
    let count (susp : Bool) : Word := BitVec.ofNat 64 (s.dev.copies.filter (pick susp)).length
    (postsQueued s = false →
      Acts [a] 8 (.esusp d a all st) s
        (change false (fun c => { c with suspended := true, state := .queued, buf := [] }) (flushCopies (pick false) s)) d (count false) ∧
      Acts [a] 8 (.eresm d a all st) s (change true (fun c => { c with suspended := false }) s) d (count true) ∧
      Acts [a] 8 (.estat d a 0 st) s s d (BitVec.ofNat 64
        (copyFree s + (s.dev.copies.filter (fun c => myCopy s c && c.suspended)).length * 2 ^ 8 + tileFree s * 2 ^ 16)) ∧
      (∀ c, s.dev.copies.find? (fun c => myCopy s c && c.utag == x) = some c →
        Acts [a] 8 (.estat d a 1 st) s s d (BitVec.ofNat 64 c.progress)) ∧
      ((∀ c ∈ s.dev.copies, myCopy s c = true → c.utag ≠ x) → Acts [a] 8 (.estat d a 1 st) s s d (BitVec.allOnes 64)) ∧
      Acts [a] 8 (.estat d a 2 st) s s d ((s.core.th.fault.map (fun f => BitVec.ofNat 64 (f.1 + 256 * f.2.1))).getD 0) ∧
      Acts [a] 8 (.estat d a 3 st) s { s with core := { s.core with th := { s.core.th with fault := none } } } d
        ((s.core.th.fault.map (fun f => f.2.2)).getD 0)) ∧
    (postsQueued s = true → s.ready [a] = true → ∀ (sel : BitVec 2),
      ∀ i ∈ [Instr.esusp d a all st, .eresm d a all st, .estat d a sel st], ∃ t, exec i s = .next t ∧ WaitEffect s t) ∧
    (acquiresQueued s = false →
     let va : Word := x + imm.signExtend 64 * 8
     AccessTraps [a, b] (.ewait d a b imm sc cls st) s .read va 8 ∧
     ∀ s1 p, va.toNat % 8 = 0 → translate s s.ctx s.dtlb .read va = (s1, .ok p) → anyPoisoned s1.dev 8 p.loc = false →
      let s2 := seeJoin p.loc (noteLoad p (setAD p s1))
      let v := readNat s2.dev.mem p.key 8 p.loc
      let ahead := (BitVec.ofNat 32 v - (readG s b).setWidth 32).toNat
      (ahead < 2 ^ 31 →
        Acts [a, b] 8 (.ewait d a b imm sc cls st) s (acquireAt sc (1#16 <<< cls.toNat) s2).acquire d (BitVec.ofNat 64 v)) ∧
      (2 ^ 31 ≤ ahead → s.ready [a, b] = true → s.core.th.wait = none →
        ∃ t, exec (.ewait d a b imm sc cls st) s = .next t ∧ WaitEffect s2 t))) ∧
  (∀ (x : VX) (p : BitVec 5) (role keep : Bool),
    let a := x.e.x1
    let y := x.e.x2.toNat
    let s := x.s
    let w := x.wtag.width
    let off (n : Nat) : Word := a + BitVec.ofNat 64 n
    let gd := x.e.desc.gd
    let zeros := 2 ^ (8 * 24576) * packEls 32 (List.replicate 64 0x800BC0)
    let words (t : State) (ps : List Place) : List Nat := (List.range 64).map (fun r => readChunks t ps / 2 ^ (32 * r) % 2 ^ 32)
    let header : Nat := packEls 16 (List.replicate 64 0xFC00) + 2 ^ 1024 * (p.toNat + (if role then 2 ^ 8 else 0) + y * 2 ^ 16)
    let rowsFit : Prop := y ≤ 63 ∧ y + (x.vl + 63) / 64 ≤ 64
    let one (t : State) (i : Nat) : State × Except (Cause × Word) ((Nat × Flags) × Bool) :=
      let row := y + i / 64
      match x.chunks .read 3 (off (384 * row)) t with
      | (t, .error (c, _)) => (t, .error (c, off (384 * row) + BitVec.ofNat 64 (6 * (i % 64))))
      | (t, .ok ps) => match x.chunks .read 1 (off (24576 + row / 32 * 128)) t with
        | (t, .error e) => (t, .error e)
        | (t, .ok qs) =>
          let r := rowOf ((List.range 64).map (fun c => readChunks t ps / 2 ^ (48 * c) % 2 ^ 48))
            (readChunks t qs / 2 ^ (32 * (row % 32)) % 2 ^ 32)
          (afterRead t (ps ++ qs), .ok (exportEl x.wtag.fmt r (i % 64), (ps ++ qs).any (fun p => anyPoisoned t.dev 128 p.loc)))
    let vs : List Fv := (List.range x.vl).map (fun i => unpack x.tagC.fmt false (x.el x.vc x.tagC.width i))
    let inside (h : PlanarHdr) : Prop := y / 64 % 2 ^ 10 = 0 ∧ y / 2 ^ 32 = 0 ∧ y / 2 ^ 16 % 2 ^ 16 % 256 = 0 ∧ x.vl % 8 = 0 ∧
      y / 2 ^ 16 % 2 ^ 16 + x.vl ≤ 256 * h.k
    (47 < y → runTrenorm x = .fault s 0 .illegal 0 0) ∧ (y < 1 ∨ 64 < y → runTinit x p role = .fault s 0 .illegal 0 0) ∧
    (¬rowsFit → runTload x = .fault s 0 .illegal 0 0) ∧
    (a.toNat % 256 ≠ 0 → ∀ run ∈ [runTzero x, runTstat x, runTflags x, runTplanar x keep] ++ (if y ≤ 47 then [runTrenorm x] else []) ++
      (if 1 ≤ y ∧ y ≤ 64 then [runTinit x p role] else []), run = .fault s 0 .align a 0) ∧
    (a.toNat % 256 ≠ 0 → rowsFit → runTload x = .fault s 0 .align a 0) ∧
    (a.toNat % 256 = 0 →
      (∀ t c v, x.chunks .write 194 a s = (t, .error (c, v)) → runTzero x = .fault t 0 c v 0) ∧
      (∀ t ps, x.chunks .write 194 a s = (t, .ok ps) → runTzero x = .done (writeChunks false ps a zeros t) 0 []) ∧
      (y ≤ 47 → ∀ t ps, x.chunks .rw 194 a s = (t, .ok ps) → runTrenorm x =
        .done (writeChunks true ps a (imageOf ((List.range 64).map (fun r => rowRenorm y (rowAt (readChunks t ps) r)))) t) 0 []) ∧
      (1 ≤ y → y ≤ 64 → ∀ t ps, x.chunks .write 2 a s = (t, .ok ps) → runTinit x p role = .done (writeChunks false ps a header t) 0 []) ∧
      (∀ t ps, x.chunks .read 2 (a + 24576) s = (t, .ok ps) →
        runTstat x = .done (afterRead t ps) 0 [(gd, tileSummary (words t ps))]) ∧
      (∀ t ps, x.chunks .rw 2 (a + 24576) s = (t, .ok ps) → runTflags x = .done (writeChunks true ps (a + 24576)
          (packEls 32 ((words t ps).map (fun v => v / 32 * 32 + (v % 32 &&& (31 - y % 32))))) t) 0 [(gd, tileSummary (words t ps))]) ∧
      (∀ t c v, x.chunks .read 2 a s = (t, .error (c, v)) → runTplanar x keep = .fault t 0 c v 0) ∧
      (∀ t ps, x.chunks .read 2 a s = (t, .ok ps) →
        (hdrOf (bytesOf 256 (readChunks t ps)) = none → runTplanar x keep = .fault t 0 .illegal a 0) ∧
        ∀ h, hdrOf (bytesOf 256 (readChunks t ps)) = some h →
          let e := if keep then h.e.getD (y % 64) 0 else planarExp h.p vs
          let bs := planarBytes h keep (y % 64) (y / 2 ^ 16 % 2 ^ 16) x.vl e vs
          (¬inside h → runTplanar x keep = .fault t 0 .illegal 0 0) ∧
          (inside h → (∀ i < x.vl, ({ x with s := t } : VX).bad x.vc x.tagC.width i = false) →
            (∀ u c v, x.places .write a (bs.map Prod.fst) (afterRead t ps) = (u, .error (c, v)) → runTplanar x keep = .fault u 0 c v 0) ∧
            ∀ u qs, x.places .write a (bs.map Prod.fst) (afterRead t ps) = (u, .ok qs) →
              ∃ r, runTplanar x keep = .done r 0 [(gd, BitVec.ofInt 64 e)])) ∧
      (rowsFit → x.Fits x.vd w → InTurn one (x.actives w) id s (runTload x) (fun t vs _ u fl => u.dev = t.dev ∧
        UnionOf fl (vs.map fun q => q.2.1.2) ∧ x.Only u.core.th x.vd x.grp ∧
        Held x u.core.th x.vd w x.wtag (vs.map fun q => (q.1, q.2.1.1, q.2.2)))))) ∧
  (∀ (r : TileRow) (t n : Nat) (ws ms : List Nat) (sc : Nat) (e : Int) (h : PlanarHdr) (v : Fv) (place : Place) (ps : List Place)
      (keep : Bool) (va : Word) (k : Nat) (s : State),
    (t ≤ headroom r.m → rowRenorm t r = r) ∧
    (headroom r.m < t → 1 ≤ n → n ≤ 60 → t ≤ headroom (r.m.map (rneShift · n)) →
      (∀ j, 1 ≤ j → j < n → headroom (r.m.map (rneShift · j)) < t) → r.e + n ≤ 2047 →
      rowRenorm t r = ⟨r.m.map (rneShift · n), r.e + n, r.flags ||| 2⟩) ∧
    ((∀ m ∈ ms, m < 2 ^ 48 ∧ m ≠ 2 ^ 47) → rowOf ms sc =
      ⟨ms.map (fun m => (BitVec.ofNat 48 m).toInt), (BitVec.ofNat 12 (sc / 2 ^ 12)).toInt, BitVec.ofNat 5 sc⟩) ∧
    (∀ c < r.m.length, exportEl f32 r c = if r.flags.getLsbD 3 then (0x7FC00000, 0)
      else roundTo f32 .rne false (decide (r.m.getD c 0 < 0)) (r.m.getD c 0).natAbs r.e) ∧
    (ws.length = 64 → (∀ j < 5, (tileSummary ws).getLsbD j = ws.any (·.testBit j)) ∧
      (∃ q ∈ ws, (tileSummary ws).toNat / 2 ^ 6 % 2 ^ 6 = q / 2 ^ 6 % 64 ∧ ∀ o ∈ ws, q / 2 ^ 6 % 64 ≤ o / 2 ^ 6 % 64) ∧
      (∃ q ∈ ws, (tileSummary ws).toNat / 2 ^ 12 = q / 2 ^ 12 % 2 ^ 12 ∧
        ∀ o ∈ ws, (BitVec.ofNat 12 (o / 2 ^ 12)).toInt ≤ (BitVec.ofNat 12 (q / 2 ^ 12)).toInt)) ∧
    (planarMant h.p e v = match v with
      | .num sg m x => max (-(2 ^ (h.p - 1))) (min (2 ^ (h.p - 1) - 1) (signedInt sg (roundShift .rne false m (e - x)).1))
      | _ => 0) ∧
    writeChunks keep (place :: ps) va k s = writeChunks keep ps (va + 128) (k / 2 ^ 1024)
      (let bad := keep && anyPoisoned s.dev 128 place.loc
       let t := catWrite va 128
         (storeLoc (setAD place (noteStoreOn (homeDie place.loc) place s)) place.key place.loc 128 (k % 2 ^ 1024) false)
       if bad then t.mapDev (fun d => { d with mem := markPoison d.mem 128 place.loc }) else t)) ∧
  (∀ (x : VX) (imm : BitVec 11) (t : State) (p : Place),
    let a : Word := x.e.x1 + imm.signExtend 64 * 64
    let r := x.strmReg
    let rd : State := noteLoadOn (homeDie p.loc) (homeDie p.loc) p (setAD p t)
    let desc : BitVec 512 := BitVec.ofNat 512 (readNat rd.dev.mem p.key 64 p.loc)
    let refused : Prop := anyPoisoned rd.dev 64 p.loc = true ∨ sdValid desc = false ∨ (∃ b ∈ x.t.streams, b.reg = r) ∨
      4 ≤ x.t.streams.length ∨ x.t.csr.vfemask.getLsbD r.toNat = true
    let with_ (l : List Binding) (u : State) : State := { u with core := { u.core with th := { u.core.th with streams := l } } }
    (a.toNat % 64 ≠ 0 → runSbind x imm = .fault x.s 0 .align a 0) ∧
    (a.toNat % 64 = 0 → ∀ c, translate x.s x.e.ctx (x.s.vtlb (dieOf x.vlen 32 0)) .read a = (t, .error c) →
      runSbind x imm = .fault t 0 c a 0) ∧
    (a.toNat % 64 = 0 → translate x.s x.e.ctx (x.s.vtlb (dieOf x.vlen 32 0)) .read a = (t, .ok p) →
      (refused → runSbind x imm = .fault rd 0 .illegal a 0) ∧
      (¬refused → runSbind x imm = .done (with_ (rd.core.th.streams ++ [⟨r, desc, 0, false, false, 0⟩]) rd) 0 [])) ∧
    (sdValid desc = true → recN desc 0 8 ≤ 1 ∧ 1 ≤ recN desc 3 8 ∧ recN desc 3 8 ≤ 3 ∧
      (∀ k < 3, recN desc (4 + 4 * k) 32 ≠ 0 ↔ k < recN desc 3 8) ∧ recN desc 0x31 8 ≤ 8 ∧
      ∃ tag, Tag.ofCode (recN desc 2 8) = some tag ∧ sdSuits (recN desc 1 8) tag = true) ∧
    runSunbind x = .done (with_ (x.t.streams.filter (fun b => b.reg != r)) x.s) 0 [] ∧
    runSflush x = .done (with_ (x.t.streams.map (fun b => if b.reg = r then { b with ahead := 0 } else b)) x.s) 0 [] ∧
    ((∀ b ∈ x.t.streams, b.reg ≠ r) → runSstat x = .done x.s 0 [(x.e.desc.gd, 0)]) ∧
    (∀ b pre post, x.t.streams = pre ++ b :: post → b.reg = r → (∀ o ∈ pre, o.reg ≠ r) →
      ∃ v : Word, runSstat x = .done x.s 0 [(x.e.desc.gd, v)] ∧ v.setWidth 32 = BitVec.ofNat 32 b.pos ∧ v.getLsbD 32 = b.ended ∧
        v.getLsbD 33 = b.err ∧ v.getLsbD 34 = sdOut b.desc ∧ v.toNat / 2 ^ 35 = 1))

/-- 08 R245 to R249, Table 08-16; 16 R375, R377, R379; 18 R409: the LOCK members complete: REVOKED where a revocation is pending; a
grant at once where nothing stands in the way, after an acquire; BUSY or FULL from `lktry`; a wait for a grant or for entries,
which wounds what stands in its way; a lower mode or an end of the lock after a release; `lkstat` reports. Misuse raises
LOCKMISUSE with the name. An `lkup` that must wait stands at the head of the queue. All but `lkstat` follow the queued
instructions that read gated registers. That `lktry` finds FULL before BUSY and what a request that does not fit waits in are the
model's reading (log 40), as is that misuse is found before the wait (log 50). -/
def Obligations.LockResults : Prop :=
  ∀ (d a : Reg) (mode : BitVec 3) (sc st : BitVec 2) (s : State),
    let n := readG s a
    let m := Mode.ofNum mode.toNat
    let me : Holder := .thread (s.core.th.nest * 2 ^ 32 + s.core.th.ord) s.core.th.tid
    let req (up : Bool) : LockReq := ⟨me, s.core.th.nest * 2 ^ 32 + s.core.th.ord, s.core.th.tid, n, m, up, false⟩
    let mine := s.dev.cur.held.filter (fun e => e.holder == me)
    let misuse := nameOk n = false ∨ (∃ e ∈ mine, e.name = n) ∨ 64 ≤ mine.length
    let cur (c : Curator) (u : State) : State := { u with dev := { u.dev with cur := c } }
    let unrevoked : State := { s with core := { s.core with th := { s.core.th with revoked := false } } }
    let freed : State := { s with
      core := { s.core with coalesce := [] }
      dev := { s.dev with carried := s.carriedTime } }
    let gone (up : Bool) (q : List LockReq) : List LockReq := q.filter (· != req up)
    let got := acquireAt sc 0xFFFF (cur { s.dev.cur with
      queue := gone false s.dev.cur.queue, starved := gone false s.dev.cur.starved
      held := s.dev.cur.held ++ [⟨me, (req false).age, (req false).tid, n, m, none⟩] } s)
    let remode (e : LockEntry) : LockEntry := if e.holder == me && e.name == n then { e with expl := m } else e
    let now := s.dev.cur.explOf me n
    let full := s.dev.cur.needs (req false) = true ∧ 32704 < s.dev.cur.used (req false)
    let waits (up : Bool) (i : Instr) : Prop := s.ready [a] = true →
      (s.dev.cur.clear (req up) = false ∨ s.dev.cur.fits (req up) = false → s.dev.cur.queue.contains (req up) = true →
        ∃ t, exec i s = .next t ∧ WaitEffect (woundFor (req up) s) t) ∧
      (s.dev.cur.clear (req up) = false → s.dev.cur.fits (req up) = true → s.dev.cur.queue.contains (req up) = false →
        ∃ t, exec i s = .next t ∧ WaitEffect (woundFor (req up) (cur { s.dev.cur with
          queue := if up then req up :: s.dev.cur.queue else s.dev.cur.queue ++ [req up]
          starved := gone up s.dev.cur.starved } s)) t) ∧
      (s.dev.cur.fits (req up) = false → s.dev.cur.queue.contains (req up) = false →
        ∃ t, exec i s = .next t ∧ WaitEffect (woundFor (req up) (cur { s.dev.cur with
          starved := s.dev.cur.starved ++ (if s.dev.cur.starved.contains (req up) then [] else [req up]) } s)) t)
    (s.core.th.revoked = true → s.core.th.wait = none →
      ∀ i ∈ [Instr.lkacq d a mode sc st, .lktry d a mode sc st, .lkup d a mode sc st, .lkdown d a mode sc st, .lkrel d a sc st],
        Acts [a] 8 i s unrevoked d 3) ∧
    (s.core.th.revoked = false ∨ s.core.th.wait ≠ none →
      (misuse → Traps [a] (.lkacq d a mode sc st) s .lockmisuse n ∧ Traps [a] (.lktry d a mode sc st) s .lockmisuse n) ∧
      (upOk now m = false → Traps [a] (.lkup d a mode sc st) s .lockmisuse n) ∧
      (downOk now m = false → Traps [a] (.lkdown d a mode sc st) s .lockmisuse n) ∧
      (now = .nl → Traps [a] (.lkrel d a sc st) s .lockmisuse n) ∧
      (acquiresQueued s = true → s.ready [a] = true →
        (¬misuse → Holds (.lkacq d a mode sc st) s ∧ Holds (.lktry d a mode sc st) s) ∧
        (upOk now m = true → Holds (.lkup d a mode sc st) s) ∧ (downOk now m = true → Holds (.lkdown d a mode sc st) s) ∧
        (now ≠ .nl → Holds (.lkrel d a sc st) s)) ∧
      (acquiresQueued s = false →
        (¬misuse →
          (s.dev.cur.clear (req false) = true → s.dev.cur.fits (req false) = true → Acts [a] 8 (.lkacq d a mode sc st) s got d 0) ∧
          waits false (.lkacq d a mode sc st) ∧
          (full → Acts [a] 8 (.lktry d a mode sc st) s s d 2) ∧
          (¬full → s.dev.cur.clear (req false) = true → Acts [a] 8 (.lktry d a mode sc st) s got d 0) ∧
          (¬full → s.dev.cur.clear (req false) = false → Acts [a] 8 (.lktry d a mode sc st) s s d 1)) ∧
        (upOk now m = true →
          (s.dev.cur.clear (req true) = true → s.dev.cur.fits (req true) = true →
            Acts [a] 8 (.lkup d a mode sc st) s (acquireAt sc 0xFFFF (cur { s.dev.cur with
              queue := gone true s.dev.cur.queue, starved := gone true s.dev.cur.starved
              held := s.dev.cur.held.map remode } s)) d 0) ∧
          waits true (.lkup d a mode sc st)) ∧
        (downOk now m = true →
          Acts [a] 8 (.lkdown d a mode sc st) s (cur { s.dev.cur with held := s.dev.cur.held.map remode } freed) d 0) ∧
        (now ≠ .nl → Acts [a] 8 (.lkrel d a sc st) s
          (cur { s.dev.cur with held := s.dev.cur.held.filter (fun e => !(e.holder == me && e.name == n)) } freed) d 0))) ∧
    (acquiresQueued s = true → Holds (.lkrelall d sc st) s) ∧
    (acquiresQueued s = false → Acts [] 8 (.lkrelall d sc st) s
      { freed with
        core := { freed.core with th := { s.core.th with revoked := false } }
        dev := { freed.dev with cur := { s.dev.cur with held := s.dev.cur.held.filter (fun e => e.holder != me) } } } d
      (BitVec.ofNat 64 mine.length ||| (if s.core.th.revoked then (0x8000000000000000 : Word) else 0))) ∧
    Acts [a] 8 (.lkstat d a sc st) s unrevoked d (lockStat s n)

/-- 08 R250, R251; 14 R330, R338, Table 14-1; 18 R409: `nlaunch` completes: it posts a record that passes its checks and returns its
sequence number, or returns why it was not posted; `llease` sets MIN and PREF and computes the targets anew. The supervisor
form is a privileged one. Which queued accesses `nlaunch` waits for is the model's reading (log 39), as is that a gang flag is
found before a check that fails (log 66). -/
def Obligations.LaunchResults : Prop :=
  ∀ (d a b : Reg) (sup : Bool) (st : BitVec 2) (s : State),
    let va := readG s a
    (sup = true → s.core.level = .user → Traps [] (.nlaunch d a sup st) s .priv 0) ∧
    (sup = false ∨ s.core.level ≠ .user →
      AccessTraps [a] (.nlaunch d a sup st) s .read va 128 ∧
      ∀ s1 p, va.toNat % 128 = 0 → translate s s.ctx s.dtlb .read va = (s1, .ok p) → anyPoisoned s1.dev 128 p.loc = false →
        (storesQueued s = true ∨ acquiresQueued s = true → s.ready [a] = true →
          ∃ t, exec (.nlaunch d a sup st) s = .next t ∧ WaitEffect s1 t) ∧
        (storesQueued s = false → acquiresQueued s = false →
          let s2 := (noteLoad p (setAD p s1)).release
          let r : BitVec 1024 := BitVec.ofNat 1024 (readNat s2.dev.mem p.key 128 p.loc)
          let q := if sup then r else capPrio s.core.th.prio r
          let gang := sup = false ∧ (q.getLsbD 12 = true ∨ q.getLsbD 13 = true)
          let room := (s2.dev.walker.nests.filter (fun n => n.prio == recF q 1 3)).length < 128
          (gang → Acts [a] 8 (.nlaunch d a sup st) s s2 d (2 ^ 63 + 3)) ∧
          (¬gang → recordOk q = false → Acts [a] 8 (.nlaunch d a sup st) s s2 d (2 ^ 63 + 2)) ∧
          (¬gang → recordOk q = true → ¬room → Acts [a] 8 (.nlaunch d a sup st) s s2 d (2 ^ 63 + 1)) ∧
          (¬gang → recordOk q = true → room →
            Acts [a] 8 (.nlaunch d a sup st) s (nestAccept s.ctx q s2) d (BitVec.ofNat 64 s.dev.walker.nextSeq)))) ∧
    Acts [a, b] 8 (.llease a b st) s
      (retarget (s.at_ / 8) (lowerMin (setLease ((readG s a).toNat % 256) ((readG s b).toNat % 256) s))) 0 0

/-! ### Device events of the opcode table: the core's -/

/-- 01 R22 to R25, R35, R38; 05 R130; 10 R280; 12 R303; 16 R373; 17 R383, R386; 20 R438; 21 R452: the events that write a
control register act where the core's level reaches the register and the write neither waits nor traps, nor names a
synchronising register while vector instructions are queued (01 R36), and then change what the register's rule names; else they
change nothing. That an event is such a write by the core whose turn it is, with no effect where it would wait or trap, is the
model's reading (log 45). -/
def Obligations.CsrWriteEvents : Prop :=
  ∀ (v : Word) (csr : BitVec 12) (hi : Bool) (s : State),
    let acts (i : Instr) (n : Nat) (t : State) : Prop :=
      ((∀ l, csrLevel n = some l → s.core.level.num < l.num) ∨ csrFirstUse n v s ≠ none ∨ csrWriteWaits n v s = true ∨
        (csrSync n = true ∧ s.core.th.held < s.core.th.viq.length) → exec i s = .next s) ∧
      (∀ l, csrLevel n = some l → l.num ≤ s.core.level.num → csrFirstUse n v s = none → csrWriteWaits n v s = false →
        (csrSync n = true → s.core.th.viq.length ≤ s.core.th.held) → exec i s = .next t)
    let csrs (c : Csrs) : State := { s with core := { s.core with th := { s.core.th with csr := c } } }
    let sup (u : SCsrs) : State := { s with core := { s.core with sup := u } }
    let squash : Core := { s.core with lead := none, diverged := false, leadV := (s.core.lead.map (·.v)).getD s.core.leadV }
    let pair (mode : BitVec 32) : BitVec 32 := BitVec.ofNat 32 (max (v.toNat / 2 ^ 16 % 2 ^ 16) 64 * 2 ^ 16) + mode
    acts (.vtypeWrite v) 0x011 (csrs (if vtValid v
      then { s.csr with vtype := v, vl := BitVec.ofNat 15 (min s.csr.vl.toNat (vlmaxOf s.vlen v)) }
      else { s.csr with vtype := 0x8000000000000000, vl := 0 })) ∧
    acts (.vlWrite v) 0x010 (csrs { s.csr with
      vl := BitVec.ofNat 15 (min v.toNat s.vlmax), leaseGranted := leaseOffer s }) ∧
    acts (.vstartWrite v) 0x012 (csrs { s.csr with vstart := BitVec.ofNat 15 (min v.toNat s.vlmax) }) ∧
    acts (.vtagsWrite hi v) (if hi then 0x016 else 0x015) (writeVtags hi v s) ∧
    acts (.pairctlModeSolo v) 0x040
      { s with core := { squash with th := { s.core.th with csr := { s.csr with pairctl := pair 0 } }, refork := false } } ∧
    acts (.pairctlModePair v) 0x040
      { s with core := (if s.csr.pairctl.getLsbD 0 then { s.core with th := { s.core.th with csr := { s.csr with pairctl := pair 1 } } }
        else { squash with th := { s.core.th with csr := { s.csr with pairctl := pair 1 } }, refork := true }) } ∧
    acts (.ksliceWrite v) 0x041
      { s with core := { squash with
        th := { s.core.th with csr := { s.csr with kslice := v.setWidth 32 } }, refork := s.csr.pairctl.getLsbD 0 } } ∧
    acts (.catctlWrite v) 0x030
      { s with core := { s.core with
        th := { s.core.th with csr := { s.csr with catctl := v.setWidth 2 } }
        cat := { s.core.cat with entries := if v.getLsbD 0 then s.core.cat.entries else [] } } } ∧
    acts (.curcmpWrite v) 0x120 { s with dev := { s.dev with cur := { s.dev.cur with cmp := v &&& 0xFFFFFFFFF } } } ∧
    acts (.ptbaseWrite v) 0x106
      { sup { s.core.sup with ptbase := v &&& 0x000FFFFFFFFF0000 } with
        dev := { s.dev with tlbs := s.dev.tlbs.filter (fun e =>
          if e.pte.getLsbD 7 then s.core.sup.asid != 0 else e.asid != s.core.sup.asid) } } ∧
    acts (.sctxWrite v) 0x105
      { s with core := { s.core with
        th := { s.core.th with resv := none, vresv := [] }
        sup := { s.core.sup with sctx := v &&& 0xFFFFFFFFFFFFF000, fustat := 0 }
        cat := { s.core.cat with entries := [] }
        scratchOwner := (leaveWays s).core.scratchOwner } } ∧
    acts (.tbcfgWrite v) 0x070 (writeTbcfg v s) ∧
    acts (.dspsupWrite v) 0x311 { s with dev := { s.dev with dspsup := BitVec.ofNat 10 (min v.toNat 0x3FF) } } ∧
    acts (.csrWrite csr v) csr.toNat (writePlain csr.toNat v s) ∧
    acts (.csrWrite 0x001 v) 0x001 (csrs { s.csr with fflags := v.setWidth 5 }) ∧
    acts (.csrWrite 0x002 v) 0x002 (csrs (if v.toNat % 8 ≤ 4 then { s.csr with frm := v.setWidth 3 } else s.csr)) ∧
    acts (.csrWrite 0x060 v) 0x060 (csrs { s.csr with utvec := v &&& 0xFFFFFFFFFFFFFFFE }) ∧
    acts (.csrWrite 0x065 v) 0x065 (csrs { s.csr with emptyspin := BitVec.ofNat 32 (max (v.toNat % 2 ^ 32) 64) }) ∧
    acts (.csrWrite 0x100 v) 0x100 (sup { s.core.sup with stvec := v &&& 0xFFFFFFFFFFFFFFFE }) ∧
    acts (.csrWrite 0x102 v) 0x102 (sup { s.core.sup with sepc := v &&& 0xFFFFFFFFFFFFFFFE }) ∧
    acts (.csrWrite 0x107 v) 0x107 (sup { s.core.sup with asid := v.setWidth 16 }) ∧
    acts (.csrWrite 0x314 v) 0x314 (sup { s.core.sup with timecmp := v })

/-- 10 R260 to R263; 07 R199, R201; 02 R61; 20 R430; 21 R451: the queue events act on the oldest entry that may run: it issues, or
its first failing check is a vector trap; it completes with its flags; it retires with its results; and one that waits for
a gated register or a peer is tried again. An entry that replay could not fetch takes its own trap (02 R44, log 22). R270 to R278: an
eligible instruction that the Catalogue knows takes the recorded values and flags and adds to CATHIT, one it does not know, or whose
values stand behind too many registers, adds to CATMISS and runs, and what it leaves is entered under its key, the last 64 kept, but
for a load over more than four granules. 08 R238, R239, R243: an instruction that reads a bound input register pops a strip first, the
converted elements below vl in its register, zeros beyond the stream's end; where an element's access fails STREAMERR is taken and
nothing is popped, or queued; one that writes a bound output register appends its elements after. Each operation runs as its own. -/
def Obligations.VectorQueueEvents : Prop :=
  (∀ (n : BitVec 8) (s : State) (e : VEntry),
    let u := s.select n.toNat
    let x := VX.of u e
    let entry (k : VEntry) (l : List VEntry) (h : Nat) : List VEntry := l.set h k
    let moved (st : VStage) (popped : Bool) (t : State) : Prop :=
      t.core.th.viq = entry { e with since := 0, stage := st, popped := popped } u.core.th.viq u.core.th.held
    headEntry u = some e →
      (∀ c v, e.stage = .queued → e.desc.op = .lost c v → ∃ t : State, exec (.viqIssue n) s = .next (t.select s.at_) ∧
        t.core.sup.scause = BitVec.ofNat 8 c.code ∧ t.core.sup.stval = v ∧ t.core.sup.sepc = u.core.th.pc ∧
        t.core.th.pc = u.core.sup.stvec ∧ t.csr.vfpc = e.pc) ∧
      (e.stage = .queued → (∀ c v, e.desc.op ≠ .lost c v) → u.core.th.streams = [] → u.csr.vfemask = 0 →
        x.checks x.shape false = none → x.eligible x.shape = true →
        let known := catFind u.core.cat (x.key x.shape)
        (known = none ∨ (∃ c, known = some c ∧ c.names.any (nameFull u.core.cat c.isMask) = true) →
          ∃ t : State, exec (.viqIssue n) s = .next (t.select s.at_) ∧ moved .issued e.popped t ∧ t.dev = u.dev ∧
            t.csr = { u.csr with catmiss := u.csr.catmiss + 1 } ∧ t.core.th.v = u.core.th.v ∧ t.core.th.m = u.core.th.m) ∧
        ∀ c, known = some c → c.names.any (nameFull u.core.cat c.isMask) = false →
          ∃ t : State, exec (.viqIssue n) s = .next (t.select s.at_) ∧ moved .hit e.popped t ∧ t.dev = u.dev ∧
            t.csr.cathit = u.csr.cathit + 1 ∧ t.csr.catmiss = u.csr.catmiss ∧ t.csr.fflags = u.csr.fflags ||| c.flags ∧
            t.csr.vstart = 0 ∧ t.core.th.g = u.core.th.g ∧
            (c.isMask = true → t.core.th.v = u.core.th.v) ∧ (c.isMask = false → t.core.th.m = u.core.th.m ∧ ∀ g, x.shape.dst = some g →
              ∀ r < 32, vreg t.core.th r = if g.base ≤ r ∧ r < g.base + c.vregs.length then c.vregs.getD (r - g.base) VReg.zero
                else vreg u.core.th r) ∧
            (c.isMask = true → ∀ b, x.shape.dst = none → x.shape.mdst = some b → ∀ r < 16, t.core.th.m.getD r 0 =
              if b ≤ r ∧ r < b + c.masks.length then c.masks.getD (r - b) 0 else u.core.th.m.getD r 0)) ∧
      (e.stage = .queued → (∀ c v, e.desc.op ≠ .lost c v) → e.popped = false → x.isStrm = false → u.csr.catctl.getLsbD 0 = false →
        x.view.checks x.view.shape (x.view.boundIll x.view.shape) = none → emptySource u.core.th x.view.shape = none →
        (groupRegs x.view.shape.srcs).all (fun r => !u.csr.vfemask.getLsbD r) = true →
        ∀ b, (boundIn u.core.th (groupRegs x.view.shape.srcs)).filter (fun b => !sdOut b.desc) = [b] →
          ∀ w, x.popAll [b] u = (w, none) → (∀ r, w.csr.vfemask.getLsbD r = u.csr.vfemask.getLsbD r) →
            w.csr.catctl = u.csr.catctl → w.core.th.viq = u.core.th.viq → w.core.th.held = u.core.th.held →
            ∃ t : State, exec (.viqIssue n) s = .next (t.select s.at_) ∧ moved .issued true t ∧ t.core.th.v = w.core.th.v ∧
              t.core.th.streams = w.core.th.streams ∧ t.csr.fflags = w.csr.fflags ∧ t.dev = w.dev) ∧
      (e.stage = .issued → e.allDone = false → x.eligible x.shape = true → ∀ w fl res, x.run = .done w fl res → w.core.th.streams = [] →
        (∀ c, e.desc.op ≠ .setty c) → ∃ t : State, exec (.viqComplete n) s = .next (t.select s.at_) ∧
          t.core.cat = (catInsert x x.shape (x.key x.shape) fl (w.mapCore (renameWritten x x.shape))).core.cat ∧
          t.core.th.v = w.core.th.v ∧ t.core.th.m = w.core.th.m ∧ t.csr.fflags = w.csr.fflags ||| fl) ∧
      (e.stage = .queued → (∀ c v, e.desc.op ≠ .lost c v) → u.core.th.streams = [] → u.csr.vfemask = 0 →
          u.csr.catctl.getLsbD 0 = false →
        (x.checks x.shape false = none → exec (.viqIssue n) s = .next
          (State.select { u with core := { u.core with
            th := { u.core.th with viq := entry { e with since := 0, stage := .issued } u.core.th.viq u.core.th.held }
            lead := (leadFree e.din u).core.lead } } s.at_)) ∧
        (∀ c val, x.checks x.shape false = some (c, val) → ∃ t : State, exec (.viqIssue n) s = .next (t.select s.at_) ∧
          t.core.sup.scause = BitVec.ofNat 8 c.code ∧ t.core.sup.stval = val ∧ t.core.sup.sepc = u.core.th.pc ∧
          t.core.sup.sstatus.getLsbD 9 = true ∧ t.core.th.pc = u.core.sup.stvec ∧
          t.core.level = (if u.core.level = .firmware then .firmware else .supervisor) ∧
          t.csr.vfpc = e.pc ∧ t.csr.vqpos = BitVec.ofNat 6 u.core.th.held ∧ t.csr.vstart = BitVec.ofNat 15 x.start ∧
          t.core.th.v = u.core.th.v ∧ t.core.th.g = u.core.th.g)) ∧
      (e.stage = .issued → ∀ w fl res, x.run = .done w fl res → w.core.th.streams = [] → u.csr.catctl.getLsbD 0 = false →
        (∀ c, e.desc.op ≠ .setty c) → ∃ t : State, exec (.viqComplete n) s = .next (t.select s.at_) ∧
          t.csr = { w.csr with vstart := 0, fflags := w.csr.fflags ||| fl } ∧ t.core.th.v = w.core.th.v ∧ t.core.th.m = w.core.th.m ∧
          t.core.th.g = w.core.th.g ∧ t.dev = w.dev ∧
          t.core.th.viq = entry { e with stage := .done, results := res, since := 0 } w.core.th.viq w.core.th.held) ∧
      (e.stage = .done ∨ e.stage = .hit → ∃ t : State, exec (.viqRetire n) s = .next (t.select s.at_) ∧
        t.core.th.viq = u.core.th.viq.eraseIdx u.core.th.held ∧ t.csr = { u.csr with instret := u.csr.instret + 1 } ∧
        t.core.th.v = u.core.th.v ∧ t.core.th.m = u.core.th.m ∧ t.core.th.pc = u.core.th.pc ∧ t.dev = u.dev ∧
        (∀ r, (r ∈ e.srq → ∀ q ∈ e.results, q.1 ≠ r) → readG t r = readG u r) ∧
        (∀ q ∈ e.results, q.1 ≠ 0 → q.1 ∈ e.srq → e.names u.core.banked q.1 = true → (u.core.banked = true → u.core.th.bank ≠ none) → (∀ p ∈ e.results, p.1 = q.1 → p = q) → readG t q.1 = q.2)) ∧
      (e.since ≠ 0 → e.desc.op ≠ .push → exec (.gatedReadProceed n) s = .next ((vecRun u).select s.at_)) ∧
      (e.since ≠ 0 → e.desc.op = .push → exec (.vpushProceed n) s = .next ((vecRun u).select s.at_))) ∧
  (∀ (x : VX) (h : VShape) (key : CatKey) (fl : Flags) (s : State),
    let gr := if x.e.desc.op.isLoad then x.granules else []
    let cat := s.core.cat
    let new (base k : Nat) (isM : Bool) : CatEntry :=
      { key := key, isMask := isM, flags := fl, load := if x.e.desc.op.isLoad then some (x.e.desc.cls, gr) else none
        names := (List.range k).map (fun i => if isM then cat.mname.getD (base + i) 0 else cat.vname.getD (base + i) 0)
        vregs := if isM then [] else (List.range k).map (fun i => vreg s.core.th (base + i))
        masks := if isM then (List.range k).map (fun i => s.core.th.m.getD (base + i) 0) else [] }
    let entered (c : CatEntry) : Prop :=
      let k : Catalogue := { cat with entries := (c :: cat.entries.filter (fun o => o.key != key)).take 64 }
      ∃ es, catInsert x h key fl s = { s with core := { s.core with cat := { cat with entries := es } } } ∧ es.length ≤ 64 ∧
        (∀ o ∈ es, o ∈ k.entries ∧ keyLive { cat with entries := es } o = true) ∧
        (k.entries.all (keyLive k) = true → es = k.entries)
    (4 < gr.length → catInsert x h key fl s = s) ∧
    (gr.length ≤ 4 → ∀ g, h.dst = some g → entered (new g.base g.n false)) ∧
    (gr.length ≤ 4 → ∀ b, h.dst = none → h.mdst = some b → entered (new b x.ms true)) ∧
    (∀ k : Catalogue, ∀ c, catFind k key = some c → c ∈ k.entries ∧ c.key = key)) ∧
  (∀ (x : VX) (b : Binding) (s t : State) (es : List (Option (Nat × Flags × Bool))) (n : Nat),
    let tag := (sdTag b.desc).getD .i32
    let r := b.reg.toNat
    let z := sdSize b.desc
    let va := sdAddr b.desc n
    let got (i : Nat) : Nat × Flags × Bool := (es.getD i none).getD (0, 0, false)
    let after (err : Bool) : Binding := { b with
      pos := b.pos + x.vl, ended := b.ended || decide (sdN b.desc < b.pos + x.vl), ahead := b.ahead - 1, err := b.err || err }
    let bound (c : Binding) (l : List Binding) : List Binding := l.map (fun o => if o.reg = b.reg then c else o)
    let p := x.popInto b es s
    (sdQ b.desc = false → va.toNat % z ≠ 0 → x.streamElem b s n = (s, none)) ∧
    (sdQ b.desc = false → va.toNat % z = 0 → ∀ c, translate s x.e.ctx (s.vtlb (dieOf x.vlen tag.width 0)) .read va = (t, .error c) →
      x.streamElem b s n = (t, none)) ∧
    (sdQ b.desc = false → va.toNat % z = 0 → ∀ q, translate s x.e.ctx (s.vtlb (dieOf x.vlen tag.width 0)) .read va = (t, .ok q) →
      let u := noteLoadOn (homeDie q.loc) (homeDie q.loc) q (setAD q t)
      let v := streamIn x.rm x.ftz (sdFmt b.desc) tag (readNat u.dev.mem q.key z q.loc)
      x.streamElem b s n = (u, some (v.1, v.2, anyPoisoned u.dev z q.loc))) ∧
    (sdQ b.desc = false → va = recW b.desc 0x10 + BitVec.ofNat 64 (n % sdCnt b.desc 0) * recW b.desc 0x18 +
      BitVec.ofNat 64 (n / sdCnt b.desc 0 % sdCnt b.desc 1) * recW b.desc 0x20 +
      BitVec.ofNat 64 (n / sdCnt b.desc 0 / sdCnt b.desc 1) * recW b.desc 0x28) ∧
    (x.stripOf b (List.range x.vl) s = (t, es) → es.length = x.vl ∧ (sdN b.desc ≤ b.pos → t = s) ∧
      ∀ i < x.vl, sdN b.desc ≤ b.pos + i → es[i]? = some (some (0, 0, false))) ∧
    (x.vlen ≤ 16384 → x.vl ≤ perReg x.vlen tag.width → 0 < x.vl →
      (∀ i < x.vl, el p.core.th x.vlen r tag.width i = (got i).1 % 2 ^ tag.width ∧ elPoison p.core.th x.vlen r tag.width i = (got i).2.2) ∧
      (∀ i, x.vl ≤ i → i < perReg x.vlen tag.width → el p.core.th x.vlen r tag.width i = el s.core.th x.vlen r tag.width i) ∧
      (vreg p.core.th r).tag = tag ∧ (∀ k, k ≠ r → vreg p.core.th k = vreg s.core.th k)) ∧
    p.core.th.streams = bound (after (es.any Option.isNone)) s.core.th.streams ∧
    p.csr.fflags = s.csr.fflags ||| flagsUnion (es.filterMap (fun e => e.map (fun q => q.2.1))) ∧ p.dev = s.dev ∧
    (x.stripOf b (List.range x.vl) s = (t, es) →
      (es.any Option.isNone = false → x.popAll [b] s = (x.popInto b es t, none)) ∧
      (es.any Option.isNone = true → streamErrNow t = true → x.popAll [b] s = ({ t with core := { t.core with th := { t.core.th with
        streams := bound { b with err := true } t.core.th.streams } } }, some b)) ∧
      (es.any Option.isNone = true → streamErrNow t = false →
        x.popAll [b] s = ((x.popInto b es t).mapTh (queueUser ⟨.streamerr, BitVec.ofNat 64 r⟩), none))) ∧
    (sdQ b.desc = false →
      let own := (vreg x.t r).tag
      let w := own.width
      let step (acc : State × Flags × Bool) (i : Nat) : State × Flags × Bool :=
        if sdN b.desc ≤ b.pos + i then acc
        else
          let va := sdAddr b.desc (b.pos + i)
          let v := streamOut x.rm x.ftz (sdFmt b.desc) own (x.el r w i)
          match (if va.toNat % z ≠ 0 then (acc.1, .error .align)
              else translate acc.1 x.e.ctx (acc.1.vtlb (dieOf x.vlen w 0)) .write va) with
          | (s, .error _) => (s, acc.2.1 ||| v.2, true)
          | (s, .ok p) =>
            let s := catWrite va z (storeLoc (setAD p (noteStoreOn (dieOf x.vlen w i) p s)) p.key p.loc z v.1 false)
            (if x.bad r w i then s.mapDev (fun d => { d with mem := markPoison d.mem z p.loc }) else s, acc.2.1 ||| v.2, acc.2.2)
      let a := (List.range x.vl).foldl step (x.s, 0, false)
      let u : State := { a.1 with core := { a.1.core with th := { a.1.core.th with
        streams := bound { b with pos := b.pos + x.vl, ended := b.ended || decide (sdN b.desc < b.pos + x.vl), err := b.err || a.2.2 }
          a.1.core.th.streams } } }
      x.append b = (if a.2.2 then u.mapTh (queueUser ⟨.streamerr, BitVec.ofNat 64 r⟩) else u, a.2.1))) ∧
  (∀ (x : VX) (i : IntOp) (c : ICmp) (f : FpOp) (g : FCmp) (q : FmaOp) (rd : RedOp) (po : PermOp) (mo : MaskOp) (md : VAddr) (ao : VamoOp)
      (a b : Nat) (k r : Bool) (t5 : BitVec 5) (sc : BitVec 2) (imm : BitVec 11) (ca : Cause) (v : Word),
    let is (o : VOp) (run : VOut) : Prop := x.e.desc.op = o → x.run = run
    is (.int i) (runInt x i) ∧ is (.icmp c) (runIcmp x c) ∧ is .merge (runMerge x) ∧ is .mv (runMv x) ∧ is (.fp f) (runFp x f) ∧
    is (.fcmp g) (runFcmp x g) ∧ is .fcvt (runFcvt x) ∧ is .fmerge (runMerge x) ∧ is (.fma q) (runFma x q) ∧
    is (.red rd) (runRed x rd) ∧ is .scan (runScan x) ∧ is .fscan (runFscan x) ∧ is .smx (runSmx x) ∧ is (.perm po) (runPerm x po) ∧
    is .ext (runExt x) ∧ is (.mask mo) (runMask x mo) ∧ is (.setty t5) (runSetty x t5) ∧ is (.load md a) (runLoad x md a) ∧
    is (.loadff a) (runLoadff x a) ∧ is (.store md a k) (runStore x md a k) ∧ is (.ldq k a) (runLdq x k a) ∧ is (.stq k a) (runStq x k a) ∧
    is .ldf16 (runLdf16 x) ∧ is .stf16 (runStf16 x) ∧ is (.ldseg a b) (runLdseg x a b) ∧ is (.stseg a b) (runStseg x a b) ∧
    is (.amo ao r) (runAmo x ao r) ∧ is .gl (runGl x) ∧ is .sc (runSc x) ∧ is .push (runPush x) ∧ is .take (runTake x) ∧
    is .vempty (runFill x false) ∧ is .vfill (runFill x true) ∧ is (.tplanar k) (runTplanar x k) ∧ is (.tpost sc) (runTpost x sc) ∧
    is .tzero (runTzero x) ∧ is .trenorm (runTrenorm x) ∧ is .tload (runTload x) ∧ is (.tinit t5 k) (runTinit x t5 k) ∧
    is .tstat (runTstat x) ∧ is .tflags (runTflags x) ∧ is .epost (runEpost x) ∧ is (.sbind imm) (runSbind x imm) ∧
    is .sunbind (runSunbind x) ∧ is .sflush (runSflush x) ∧ is .sstat (runSstat x) ∧ is (.lost ca v) (.fault x.s 0 ca v x.start))

/-- 07 R197, R198, R204; 08 R235; 05 R134, R135: an event that ends a wait runs the waiting instruction again, by its own
meaning, on the core it names; EMPTY runs the instruction whose EMPTYSPIN cycles are gone. -/
def Obligations.RetryEvents : Prop :=
  ∀ (n : BitVec 8) (s t : State) (i : Instr) (d a b : Reg) (imm : BitVec 11) (k : BitVec 3) (sc st : BitVec 2) (cls : BitVec 4),
    let u := s.select n.toNat
    let again (ev : Instr) : Prop := ∃ r : State, exec i t = .next r ∧
      exec ev s = .next ((if r.core.th.din = u.core.th.din + 1 then leadReconcile u.core.th.din false r else r).select s.at_)
    let futs : List Instr := [.fget d a imm sc cls st, .ftake d a imm sc cls st, .fgive b a imm sc cls st]
    u.core.run ≠ .idle → u.core.run ≠ .stopped → issueBlocked u = false → fetchPc u = (t, .instr i) →
      (i ∈ futs → again (.futureWaitComplete n)) ∧
      (i ∈ [Instr.bwait k a sc st, .bsync k sc st] → again (.bwaitReturn n)) ∧
      (i = .ewait d a b imm sc cls st → again (.ewaitReturn n)) ∧
      (i = .nap st → again (.napWake n)) ∧
      (i = .kend st ∨ i = .cKend → again (.kendRetire n)) ∧
      (∀ w, headEntry u = none → u.core.th.wait = some w → emptyDue u u.csr.emptyspin w.since = true →
        i ∈ futs ∨ i = .ewait d a b imm sc cls st → again (.emptyTimeout n)) ∧
      (∀ e, headEntry u = some e → e.since ≠ 0 → emptyDue u e.spin (e.since - 1) = true →
        exec (.emptyTimeout n) s = .next ((vecRun u).select s.at_))

/-- 07 R190, R195; 08 R240; 10 R271; 18 R407; 19 R418; 20 R431, R434, R437; 22 R466: the events by which a core's own parts move
complete in every state, and each changes what its rule names and nothing else: reservations and buffered lines that are 4,096
cycles old go; a doorbell leaves its value; a fill of the instruction cache that was asked for ends, a walk brings a translation
into a TLB; an input stream fetches one strip ahead, within its depth; two equal physical registers become one; a scratch way of
the running thread that the device had saved, on whichever core, comes back. The model's readings here: fetching ahead changes only a
count (log 34), a line with a poisoned unit is not kept (log 12), a merge is one move (log 19), and a way comes back whole from
where it was saved (log 44). -/
def Obligations.CoreUpkeepEvents : Prop :=
  ∀ (n : BitVec 8) (r : Reg) (v : Word) (kind : BitVec 2) (w : BitVec 4) (s : State),
    let u := s.select n.toNat
    let does (i : Instr) (t : State) : Prop := exec i s = .next (t.select s.at_)
    let young (t0 : Nat) : Bool := decide (u.dev.clk < t0 + 4096)
    let acc : Acc := if kind = 0 then .read else if kind = 1 then .write else if kind = 2 then .exec else .rw
    let tlb : TlbId := if kind = 2 then .itlb u.at_ else .dtlb u.at_
    let walked := translate u u.ctx tlb acc v
    let saved := u.dev.savedWays.find? (fun p => p.owner.is (wayMe u) && p.way == w.toNat)
    let fill := u.core.fills.find? (fun f => f.line == v.toNat / 64 && f.asid == u.core.sup.asid)
    does (.reservationExpire n) { u with core := { u.core with th := { u.core.th with
      resv := u.core.th.resv.filter (fun p => young p.2), vresv := u.core.th.vresv.filter (fun p => young p.2.2) } } } ∧
    does (.coalesceDrainTimeout n) { u with core := { u.core with coalesce := u.core.coalesce.filter (fun p => young p.since) } } ∧
    does (.hostDoorbellWrite n v) { u with core := { u.core with hostint := some v } } ∧
    (fill = none → does (.icacheFill n v) u) ∧
    (∀ f, fill = some f → ∃ t : State, does (.icacheFill n v) t ∧
      t = { u with
        core := { u.core with icache := t.core.icache, fills := u.core.fills.filter (· != f) }
        dev := { u.dev with fabric := t.dev.fabric, host := t.dev.host } } ∧
      ((icacheFind u v.toNat).isSome = true ∨ anyPoisoned u.dev 64 (f.loc / 64 * 64) = true →
        t.core.icache = u.core.icache ∧ t.dev = u.dev) ∧
      (icacheFind u v.toNat = none → anyPoisoned u.dev 64 (f.loc / 64 * 64) = false →
        icacheFind t v.toNat =
          some ⟨v.toNat / 64, u.core.sup.asid, BitVec.ofNat 512 (readNat u.dev.mem f.key 64 (f.loc / 64 * 64))⟩)) ∧
    (∃ t : State, does (.pageWalk n v kind) t ∧ t = walked.1 ∧
      t = { u with dev := { u.dev with tlbs := t.dev.tlbs, host := t.dev.host, fabric := t.dev.fabric } } ∧
      (windowOf v.toNat ≠ none → t = u) ∧
      (∀ p, walked.2 = .ok p → windowOf v.toNat = none → (tlbFind t.dev tlb u.core.sup.asid v.toNat).isSome = true)) ∧
    (u.csr.catctl ≠ 3 ∨ equalNames u.vlen (nameContents u.core) = none → does (.catalogueDedup n) u) ∧
    (∀ a b, u.csr.catctl = 3 → equalNames u.vlen (nameContents u.core) = some (a, b) →
      (a ≠ b ∧ ∃ c, (a, c) ∈ nameContents u.core ∧ (b, c) ∈ nameContents u.core) ∧
      ∃ t : State, does (.catalogueDedup n) t ∧ t = { u with core := { u.core with cat := { u.core.cat with
          entries := t.core.cat.entries, vname := u.core.cat.vname.map (fun k => if k = b then a else k) } } } ∧
        ∀ e ∈ t.core.cat.entries, ∃ o ∈ u.core.cat.entries, e.isMask = o.isMask ∧ e.vregs = o.vregs ∧ e.masks = o.masks ∧
          e.flags = o.flags ∧ e.names = (if o.isMask then o.names else o.names.map (fun k => if k = b then a else k))) ∧
    (bindingOf u.core.th r.toNat = none → does (.streamFetch n r) u) ∧
    (∀ b, bindingOf u.core.th r.toNat = some b →
      (sdOut b.desc = true ∨ b.ended = true ∨ streamDepth b.desc ≤ b.ahead → does (.streamFetch n r) u) ∧
      (sdOut b.desc = false → b.ended = false → b.ahead < streamDepth b.desc → does (.streamFetch n r) { u with
        core := { u.core with th := { u.core.th with
          streams := u.core.th.streams.map (fun c => if c.reg = b.reg then { b with ahead := b.ahead + 1 } else c) } } })) ∧
    (saved = none ∨ u.csr.tbcfg.getLsbD w.toNat = false → does (.scratchWayRestore n w) u) ∧
    (∀ p, saved = some p → u.csr.tbcfg.getLsbD w.toNat = true →
      ∃ t : State, does (.scratchWayRestore n w) t ∧
        t = { u with dev := { u.dev with
          mem := t.dev.mem, host := t.dev.host
          savedWays := u.dev.savedWays.filter (fun q => !(q.owner.is p.owner && q.way == w.toNat)) } } ∧
        ∀ die < 8, ∀ i < 4096,
          let dest := waySlice u.at_ w.toNat die + i
          s.memOk → p.base + 0x8000 ≤ dspLoc → locPresent u.dev dest = true →
            readByte t.dev.mem 0 dest = readByte u.dev.mem p.owner.key (p.base + die * 4096 + i))

/-- 20 R430, R431, Table 20-1; 14 R336, R342, R349; 22 R461, R462: at a boundary the first pending enabled asynchronous cause is taken,
GANGFAIL, PREEMPT, HOSTINT, TIMER in that order, and clears itself; PREEMPT leaves the stopped vector instructions in the save area,
and the thread joins the set-aside ones, or ends where its iteration is to end; a user-level trap is delivered with the second bank;
firmware ends the iteration of a stopped core. A boundary event without its condition changes nothing. That the thread is set aside
with its area while the handler runs on at its core is the model's reading (log 54), and so is when firmware ends a stopped core
(log 29). -/
def Obligations.BoundaryEvents : Prop :=
  ∀ (n : BitVec 8) (s : State),
    let u := s.select n.toNat
    let takes (i : Instr) (c : Cause) (val : Word) (clear : Core → Core) : Prop :=
      ∃ t : State, exec i s = .next (State.select { t with core := clear t.core } s.at_) ∧ TrapEntry u t c val u.core.th.pc
    (asyncNow u = false → exec (.asyncTrapTake n) s = .next (u.select s.at_) ∧ exec (.timerCompare n) s = .next (u.select s.at_)) ∧
    (asyncEnabled u = true →
      (∀ g, u.core.gangfail = some g → takes (.asyncTrapTake n) .gangfail (g.setWidth 64) (fun c => { c with gangfail := none })) ∧
      (u.core.gangfail = none → u.core.preempt = true → u.core.th.viq = [] →
        ∃ t : State, exec (.asyncTrapTake n) s = .next (t.select s.at_) ∧ t.core.sup.scause = 0x30 ∧ t.core.sup.stval = 0 ∧
          t.core.sup.sepc = u.core.th.pc ∧ t.core.sup.sstatus.getLsbD 9 = true ∧ t.core.th.pc = u.core.sup.stvec ∧
          t.core.preempt = false ∧ t.core.th.resv = none ∧ t.core.th.vresv = [] ∧ t.core.tblines = [] ∧
          (∀ e ∈ t.core.cat.entries, e.load = none) ∧ t.core.th.v = u.core.th.v ∧ t.core.th.g = u.core.th.g ∧
          (∀ o, areaOf u.dev u.core.sup.sctx = some o → (nestAt u u.core.th.nest).isSome = true → t.core.out = true ∧
            (iterLost u = false → ∃ th, t.dev.walker.aside =
              u.dev.walker.aside ++ [⟨th, u.core.level, u.at_, u.dev.clk, some o, false⟩] ∧ th.who = u.core.th.who) ∧
            (iterLost u = true → t.dev.walker.aside = u.dev.walker.aside)) ∧
          (areaOf u.dev u.core.sup.sctx = none ∨ nestAt u u.core.th.nest = none →
            t.core.out = u.core.out ∧ t.dev.walker.aside = u.dev.walker.aside)) ∧
      (u.core.gangfail = none → u.core.preempt = true → (∀ e ∈ u.core.th.viq, e.isLoadff = false) →
        ∃ t : State, exec (.asyncTrapTake n) s = .next (t.select s.at_) ∧ t.core.sup.scause = 0x30 ∧ t.core.sup.stval = 0 ∧
          t.core.sup.sepc = u.core.th.pc ∧ t.core.sup.sstatus.getLsbD 9 = true ∧ t.core.th.pc = u.core.sup.stvec ∧
          t.core.preempt = false ∧ t.core.th.resv = none ∧ t.core.th.vresv = [] ∧ t.csr.vqpos = 0 ∧ t.csr.vfpc = t.csr.vcp ∧
          (t.csr.vcp = 0 ∨ t.csr.vcp = u.core.th.pc ∨ ∃ e ∈ u.core.th.viq, t.csr.vcp = e.pc) ∧
          ((areaOf u.dev u.core.sup.sctx).isSome = true → t.core.th.viq = [])) ∧
      (u.core.gangfail = none → u.core.preempt = false →
        (∀ v, u.core.hostint = some v → takes (.asyncTrapTake n) .hostint v (fun c => { c with hostint := none })) ∧
        (u.core.hostint = none → u.core.sup.timecmp.toNat ≤ u.time.toNat →
          takes (.asyncTrapTake n) .timer 0 id ∧ takes (.timerCompare n) .timer 0 id))) ∧
    (u.core.sup.timecmp.toNat > u.time.toNat → exec (.timerCompare n) s = .next (u.select s.at_)) ∧
    (userTrapNow u = none → exec (.userTrapDeliver n) s = .next (u.select s.at_)) ∧
    (∀ x, userTrapNow u = some x → u.csr.utvec ≠ 0 → ∃ t : State, exec (.userTrapDeliver n) s = .next (t.select s.at_) ∧
      t.core.th = { u.core.th with
        utq := t.core.th.utq, woundOverflow := t.core.th.woundOverflow, lat := [], wait := none, pc := u.csr.utvec
        bank := some (Vector.ofFn (fun (i : Fin 8) => u.core.th.g[24 + i.val]))
        csr := { u.csr with utcause := BitVec.ofNat 8 x.cause.code, utval := x.value, utpc := u.core.th.pc, utActive := true } } ∧
      t.core = { u.core with
        th := t.core.th, lead := none, leadV := (u.core.lead.map (·.v)).getD u.core.leadV, diverged := false, ready := t.core.ready } ∧
      (x ∈ u.core.th.utq → t.core.th.utq.length + 1 = u.core.th.utq.length)) ∧
    (u.core.run = .stopped → ∃ t : State, exec (.iterationFaultEnd n) s = .next (t.select s.at_) ∧ t.core.run = .idle ∧ t.core.level = .user) ∧
    (u.core.run = .idle ∨ (u.core.run ≠ .stopped ∧ u.core.level = .user) → exec (.iterationFaultEnd n) s = .next (u.select s.at_))

/-- 12 R298 to R300, R302, R304, R305, R309, R310: the lead's next instruction, once it waits for nothing. A scalar one runs by its own
meaning on the lead's copies and its destination is known where its sources were; an atomic is passed with its destination
unknown; a store changes no memory, a load is taken where its address is known; a transfer goes into the delay buffer, as one that is to
be confirmed or, on unknown sources, as one the lead waits at; a check that would trap stops it. A vector one is passed where a
register of it is a stream or a gated one, where its row of Table 12-1 asks for registers in the slice and they are not, or where
its address is unknown, and else runs on the lead's copies. Whatever the lead executes, the
trail's registers, traps, every byte of memory and every other core are as before: it changes its own copies, and brings in
translations and lines. The end of a fork's copy, once no older vector instruction owes a copied register, only lets it run. -/
def Obligations.LeadChangesNothing : Prop :=
  (∀ (n : BitVec 8) (s : State),
    let u := s.select n.toNat
    (∃ t : State, exec (.leadIssue n) s = .next (t.select s.at_) ∧ t = { u with
      core := { u.core with lead := t.core.lead, icache := t.core.icache, fills := t.core.fills, tblines := t.core.tblines }
      dev := { u.dev with tlbs := t.dev.tlbs, fabric := { t.dev.fabric with acked := u.dev.fabric.acked } } }) ∧
    (u.core.lead = none → exec (.leadIssue n) s = .next (u.select s.at_) ∧ exec (.leadForkCopyDone n) s = .next (u.select s.at_)) ∧
    (∀ l c, u.core.lead = some l → l.copyUntil = some c → (l.owed ≠ [] ∨ u.dev.clk < c) →
      exec (.leadForkCopyDone n) s = .next (u.select s.at_)) ∧
    (∀ l c, u.core.lead = some l → l.copyUntil = some c → l.owed = [] → c ≤ u.dev.clk → exec (.leadForkCopyDone n) s = .next
      (State.select { u with core := { u.core with lead := some { l with copyUntil := none } } } s.at_)) ∧
    (∀ l, u.core.lead = some l → l.todo = [] →
      (256 ≤ l.buf.length ∨ u.core.th.din + u.csr.pairctl.toNat / 2 ^ 16 ≤ l.din ∨ l.syw = true ∨ l.fstop = true ∨ l.copyUntil ≠ none) →
      exec (.leadIssue n) s = .next (u.select s.at_)) ∧
    (∀ l i v, u.core.lead = some l → l.todo = [] → u.core.level = .user → u.csr.utActive = false → u.core.refork = false →
      l.buf.length < 256 → l.din < u.core.th.din + u.csr.pairctl.toNat / 2 ^ 16 → l.syw = false → l.fstop = false →
      l.copyUntil = none → fetchAt .user (leadView u l) l.pc = (v, .instr i) →
      let f : State := { u with
        core := { u.core with icache := v.core.icache, fills := v.core.fills }, dev := { u.dev with tlbs := leadTlbs u v } }
      let w := leadView f l
      let known (rs : List Reg) : Bool := rs.all (fun r => r == 0 || l.known.getLsbD r.toNat)
      let set (k : Lead) (d : Reg) (b : Bool) : Lead :=
        { k with known := if b then k.known ||| (1#32 <<< d.toNat) else k.known &&& ~~~(1#32 <<< d.toNat) }
      let setAll (k : Lead) (d : Option Reg) (b : Bool) : Lead := (d.map (set k · b)).getD k
      let past (bytes : Nat) : Lead := { l with
        pc := l.pc + BitVec.ofNat 64 bytes, din := l.din + 1, slot := l.slot + 1 + stallOf i
        lat := l.lat.filter (fun p => decide (l.slot + 1 + stallOf i < p.ready)) }
      let took (t : State) (vec cfg : Bool) : Lead := { l with
        pc := t.core.th.pc, din := l.din + 1, g := t.core.th.g, m := t.core.th.m, slot := t.core.th.slot, lat := t.core.th.lat
        v := if vec then t.core.th.v.map (fun r => { r with poison := 0 }) else l.v
        csr := if cfg then { l.csr with vl := t.csr.vl, vtype := t.csr.vtype } else l.csr }
      let becomes (k : Lead) : Prop := ∃ t : State, exec (.leadIssue n) s = .next (t.select s.at_) ∧ t.core.lead = some k
      let ran (t : State) : Prop := exec i w = .next t ∧ t.core.level = .user ∧ t.csr.utActive = false
      let stops (t : State) : Prop := exec i w = .next t ∧ (t.core.level ≠ .user ∨ t.csr.utActive = true) ∧ t.core.sup.scause ≠ 0x20
      (∀ a, leadRow i = some a →
        (a.kind = .nop → becomes (past a.len)) ∧
        (a.kind = .skip → becomes (setAll (past a.len) a.dst false)) ∧
        (a.kind = .sys → becomes (if l.din < u.core.th.din then past a.len else l)) ∧
        (a.kind = .alu → ∀ t, ran t → becomes (setAll (took t false false) a.dst (known a.srcs))) ∧
        (a.kind = .jump → ∀ t, ran t → becomes (setAll (took t false false) a.dst true)) ∧
        (a.kind = .transfer → known a.srcs = false → becomes { l with syw := true, buf := l.buf ++ [.sy l.din l.pc] }) ∧
        (a.kind = .transfer → known a.srcs = true → ∀ t, ran t → becomes { setAll (took t false false) a.dst true with
          buf := l.buf ++ [.br l.din (branchTaken i w) t.core.th.pc] }) ∧
        (a.kind = .load ∨ a.kind = .acq → known a.srcs = false → becomes (setAll (past a.len) a.dst false)) ∧
        (a.kind = .load ∨ a.kind = .acq → known a.srcs = true → ∀ t, ran t → becomes (setAll (took t false false) a.dst true)) ∧
        (a.kind = .store → known a.srcs = false → becomes (past a.len)) ∧
        (a.kind = .store → known a.srcs = true → ∀ t, ran t → becomes (past a.len)) ∧
        (a.kind = .config → ∀ t, ran t → becomes (setAll { took t false true with vlKnown := l.vlKnown || a.dst.isSome } a.dst (known a.srcs))) ∧
        (a.kind ≠ .nop → a.kind ≠ .skip → a.kind ≠ .sys →
          (a.kind = .alu ∨ a.kind = .jump ∨ a.kind = .prefetch ∨ a.kind = .csr ∨ a.kind = .config ∨ known a.srcs = true) →
          ∀ t, stops t → becomes { l with fstop := true })) ∧
      (∀ k, leadRow i = none → formOf i = some k →
        let bytes := ((encode i).getD []).length
        let h := ({ s := w, e := leadCaptured bytes (stallOf i) k w, start := 0 } : VX).shape
        let named := u.core.th.streams.any (fun b => (groupRegs (h.srcs ++ h.dst.toList)).contains b.reg.toNat) ||
          (groupRegs (h.srcs ++ h.dst.toList)).any (fun r => u.csr.vfemask.getLsbD r)
        let sliced (gs : List VGroup) : Bool := (groupRegs gs).all (fun r => l.csr.kslice.getLsbD r)
        let ports := k.ports.r1.toList ++ k.ports.r2.toList ++ k.ports.r3.toList
        let results (x : Lead) (b : Bool) : Lead := k.ports.res.foldl (fun x r => set x r b) x
        let passed : Lead := results (past bytes) false
        let runs (t : State) : Prop := leadVexec bytes (stallOf i) k w = .next t ∧ t.core.level = .user ∧ t.csr.utActive = false
        (named = true ∨ k.desc.op.leadRow = .skip → (∀ z, k.desc.op ≠ .loadff z) → becomes passed) ∧
        (named = false → k.desc.op.leadRow = .dest → sliced h.dst.toList = false → becomes passed) ∧
        (named = false → k.desc.op.leadRow = .sources → sliced h.srcs = false → becomes passed) ∧
        (named = false → k.desc.op.leadRow ∈ [.load, .store, .gl] → known ports = false → (∀ z, k.desc.op ≠ .loadff z) → becomes passed) ∧
        (named = false → k.desc.op.leadRow = .always ∨ (k.desc.op.leadRow = .dest ∧ sliced h.dst.toList = true) ∨
            (k.desc.op.leadRow = .sources ∧ sliced h.srcs = true) →
          ∀ t, runs t → t.core.th.viq = [] → becomes (results (took t true false) (known ports)))))) ∧
  (∀ (i : Instr) (a : LeadAct) (t : State), leadRow i = some a → a.kind ≠ .nop → a.kind ≠ .skip → a.kind ≠ .sys → a.run t = exec i t)

/-! ### Device events of the opcode table: the host's, the walker's and the engines' -/

/-- 14 R326; 17 R388, R389, R393, R402; 19 R420; 20 R441, R442, Table 20-6, R444; 22 R461: what the host does from outside: a whole
request word with REQ raises PREEMPT on a live core and a malformed one is logged; a mailbox word that is empty takes a value and
becomes full, any other write is lost, logged and counted, and a read of one gives its value or 0; a read of memory returns its
bytes, the first lowest, through pages of the host's key alone, with a mark where one of them is poisoned, and zeros, logged, where it may not
read; it changes no byte; a write stores its bytes, and none where it may not write; the management BAR shows the mirrors, the
doorbell, the errors and the counts; a report begins with its nonce. The places within the management BAR are the model's own
(log 55), so are the codes of what is logged (log 42) and the bytes of a report that only the device knows (log 21). -/
def Obligations.HostEvents : Prop :=
  ∀ (n : BitVec 8) (w : BitVec 9) (size : BitVec 4) (off : BitVec 40) (v : Word) (nonce : BitVec 512) (asid : BitVec 16) (s : State),
    let c := s.coreAt n.toNat
    let live := (c.run = .live ∨ c.run = .napping) ∧ c.out = false
    let loc := mailboxLoc w.toNat
    let k := hostBytes size
    let ignored : Dev := { s.dev with host := { s.dev.host with preemptLog := s.dev.host.preemptLog + 1 } }
    (4 ≤ v.toNat → exec (.preemptRequestWrite n v) s =
      .next { s with dev := logError (dspLoc + reqOff + 8 * n.toNat) 8 9 none ignored }) ∧
    (v.toNat < 2 ∨ (v.toNat < 4 ∧ ¬live) → exec (.preemptRequestWrite n v) s = .next s) ∧
    (v.toNat = 2 ∨ v.toNat = 3 → live → ∃ t : State, exec (.preemptRequestWrite n v) s = .next t ∧
      (t.coreAt n.toNat).preempt = true ∧ (t.coreAt n.toNat).preemptStop = (c.preemptStop || v.toNat == 3) ∧
      ∀ m, (t.coreAt m).th = { (s.coreAt m).th with resv := (t.coreAt m).th.resv, vresv := (t.coreAt m).th.vresv } ∧
        (m ≠ n.toNat → t.coreAt m = { s.coreAt m with th := (t.coreAt m).th })) ∧
    (k ≠ 8 ∨ wordFull s.dev.mem loc = true → exec (.hostMailboxWrite w size v) s = .next { s with dev := { s.dev with
      host := { s.dev.host with
        mailboxOverflow := s.dev.host.mailboxOverflow + 1
        mailboxLog := s.dev.host.mailboxLog ++ [(w.toNat, v, BitVec.ofNat 64 (ticks s.dev.clk))]
        msix := if k ≠ 8 then s.dev.host.msix else s.dev.host.msix ++ [9] } } }) ∧
    (k = 8 → wordFull s.dev.mem loc = false → ∃ t : State, exec (.hostMailboxWrite w size v) s = .next t ∧
      wordFull t.dev.mem loc = true ∧ (storeBy none s 0 loc 8 v.toNat false).dev.mem.cells = t.dev.mem.cells ∧ t.core.th.g = s.core.th.g) ∧
    mailboxRead w.toNat s = { s with dev := { s.dev with host := { s.dev.host with
      lastRead := if wordFull s.dev.mem loc then BitVec.ofNat 64 (readNat s.dev.mem 0 8 loc) else 0 } } } ∧
    mirrorOf n.toNat s = [c.th.csr.gpass, c.th.csr.ifmiss, c.th.csr.ipdrop] ∧
    mgmtRead (0x60000 + 8 * n.toNat) s = c.hostint.getD 0 ∧
    (∀ k < 3, mgmtRead (0x10000 + 64 * n.toNat + 8 * k) s = (mirrorOf n.toNat s).getD k 0) ∧
    mgmtRead 0x3000 s = BitVec.ofNat 64 s.dev.host.overflow ∧ mgmtRead 0x3008 s = BitVec.ofNat 64 s.dev.fabric.replays ∧
    mgmtRead 0x3010 s = BitVec.ofNat 64 s.dev.fabric.corrected ∧ mgmtRead 0x3018 s = BitVec.ofNat 64 s.dev.host.preemptLog ∧
    (∀ j e, s.dev.host.errors[j]? = some e → j < 256 → mgmtRead (0x1000 + 32 * j) s = BitVec.ofNat 64 e.pa ∧
      mgmtRead (0x1008 + 32 * j) s = BitVec.ofNat 64 (e.size + e.kind * 2 ^ 32) ∧ mgmtRead (0x1010 + 32 * j) s = e.time) ∧
    (∀ s1 ps, hostPlaces .read k off.toNat s = (s1, some ps) →
      ps.length = k ∧ (∀ p ∈ ps, p.2 = 4096) ∧ ∃ t : State, exec (.hostMemoryRead off size) s = .next t ∧
        t = { s1 with dev := { s1.dev with fabric := t.dev.fabric, host := t.dev.host } } ∧
        (∀ i p, ps[i]? = some p → t.dev.host.lastRead.extractLsb' (8 * i) 8 = byteOr s1.dev s1.free p.2 p.1) ∧
        (∀ i, k ≤ i → t.dev.host.lastRead.extractLsb' (8 * i) 8 = 0) ∧
        (t.dev.host.lastPoison = true ↔ ∃ p ∈ ps, locPoisoned s1.dev p.1 = true)) ∧
    (∀ s1, hostPlaces .read k off.toNat s = (s1, none) → exec (.hostMemoryRead off size) s = .next { s1 with
      dev := logError off.toNat k 6 none { s1.dev with host := { s1.dev.host with lastRead := 0, lastPoison := false } } }) ∧
    (∀ s1 x, hostPlaces .read k off.toNat s = (s1, x) →
      s1 = { s with dev := { s.dev with tlbs := s1.dev.tlbs, host := s1.dev.host, fabric := s1.dev.fabric } }) ∧
    (∀ s1, hostPlaces .write k off.toNat s = (s1, none) →
      exec (.hostMemoryWrite off size v) s = .next { s1 with dev := logError off.toNat k 6 none s1.dev }) ∧
    (∀ s1 x, hostPlaces .write k off.toNat s = (s1, x) →
      s1 = { s with dev := { s.dev with tlbs := s1.dev.tlbs, host := s1.dev.host, fabric := s1.dev.fabric } }) ∧
    (∀ s1 key a, hostPlaces .write k off.toNat s = (s1, some ((List.range k).map (fun i => (a + i, key)))) →
      exec (.hostMemoryWrite off size v) s = .next (storeBy none s1 key a k v.toNat false)) ∧
    (∃ (r : List Byte) (l : List (BitVec 2048)), exec (.attestationRequest nonce asid) s = .next { s with
        dev := { s.dev with host := { s.dev.host with report := r, images := s.dev.host.images ++ l.map (fun h => (asid, h)) } }
        free := s.free + 1 } ∧
      ∀ i < 64, r[i]? = some (nonce.extractLsb' (8 * i) 8))

/-- 14 R327, R329 to R332, R334, R335, R337, R342, R343, R345 to R348; 10 R287: the events of the Registrar and the walker complete in
every state. The Registrar takes one mailbox word and accepts, keeps or refuses its record. A wait word that has come far
enough makes its nest eligible. An iteration's threads start on their cores, a set-aside thread goes on with MIN columns. A nest
that ends leaves the walker with DONE in its completion word; one that is aborted loses its tasks and suspended copies and none
of its iterations counts; FEATURE ends an iteration and the dispatch of the rest. A gang forms once its members have
acknowledged, and fails after 100 µs. A wait word that cannot be read is logged once, a condition word that cannot be read ends
the nest with ABORTED; the code of the kind that is logged is the model's own (log 42). Whether a peer takes over what FEATURE
ended is free (log 51), and so is the resumption of a pre-empted thread from its save area the model's reading (log 54). -/
def Obligations.LaunchEvents : Prop :=
  ∀ (seq : Word) (gid : BitVec 32) (fabric : BitVec 16) (s : State),
    let does (i : Instr) (p : State → Prop) : Prop := ∃ t : State, exec i s = .next t ∧ p t
    let same (i : Instr) : Prop := exec i s = .next s
    let n? := nestAt s seq.toNat
    let upd (q : Nat) (f : Nest → Nest) (u : State) : State := { u with dev := { u.dev with walker := { u.dev.walker with
      nests := u.dev.walker.nests.map (fun n => if n.seq = q then f n else n) } } }
    let closed (n : Nest) (bits : Word) (u t : State) : Prop :=
      t.dev.walker.nests = u.dev.walker.nests.filter (fun k => k.seq != n.seq) ∧
      (n.word 0x60 = 0 → t.dev.mem = u.dev.mem) ∧
      (∀ s1 p, n.word 0x60 ≠ 0 → translate u n.ctx.alien .sqd .write (n.word 0x60) = (s1, .ok p) → anyPoisoned s1.dev 8 p.loc = false →
        t.dev.mem = (rmwBy none (setAD p s1) p.key p.loc 8
          (BitVec.ofNat 64 (readNat (setAD p s1).dev.mem p.key 8 p.loc) ||| (bits ||| 0x100)).toNat false).dev.mem) ∧
      (n.word 0x60 ≠ 0 → n.flag 14 = true → ∃ l, t.dev.host.msix = l ++ [n.prio])
    let open_ (n : Nest) : Bool := n.flag 12 && n.fld 0x68 32 == gid.toNat && !n.gangFormed && !n.gangLate &&
      decide (s.dev.clk < n.postedAt + 175000)
    let waits := ∀ l r, keptAt s l = some r → nestRoom s (recF r 1 3) = false
    (waits → nextMail s = none → same .registrarServe) ∧
    (∀ l w, waits → nextMail s = some (l, w) →
      let loc := mailboxLoc (64 * l + w)
      let a := BitVec.ofNat 64 (readNat s.dev.mem 0 8 loc)
      let u := markFull loc false s
      let taken : State := { u with dev := { u.dev with reg := { u.dev.reg with last := u.dev.reg.last.setIfInBounds l w } } }
      does .registrarServe (fun t =>
        (s.memOk → wordFull t.dev.mem loc = false) ∧ t.dev.reg.last = s.dev.reg.last.setIfInBounds l w ∧
        (∀ s1, registrarRead a taken = (s1, none) →
          t.dev.host.refusals = s.dev.host.refusals ++ [a] ∧ t.dev.walker = s.dev.walker ∧ t.dev.reg.kept = s.dev.reg.kept) ∧
        (∀ s1 r, registrarRead a taken = (s1, some r) →
          (recordOk r = false → t.dev.host.refusals = s.dev.host.refusals ++ [a] ∧ t.dev.walker = s.dev.walker ∧
            t.dev.reg.kept = s.dev.reg.kept) ∧
          (recordOk r = true → nestRoom s (recF r 1 3) = false →
            t.dev.reg.kept = s.dev.reg.kept.setIfInBounds l (some r) ∧ t.dev.walker = s.dev.walker) ∧
          (recordOk r = true → nestRoom s (recF r 1 3) = true →
            t.dev.reg.kept = s.dev.reg.kept ∧ t.dev.walker.nextSeq = s.dev.walker.nextSeq + 1 ∧
            (r.getLsbD 12 = false → recF r 0x40 64 ≠ 0 →
              t.dev.walker.nests = s.dev.walker.nests ++ [newNest s1 (registrarCtx s1) r]))))) ∧
    (∀ l r, keptAt s l = some r → (∀ k, k ≠ l → keptAt s k = none) → nestRoom s (recF r 1 3) = true →
      (∀ k < 512, wordFull s.dev.mem (mailboxLoc k) = false) →
      does .registrarServe (fun t => keptAt t l = none ∧ t.dev.walker.nextSeq = s.dev.walker.nextSeq + 1)) ∧
    (n? = none → same (.waitWordRead seq) ∧ same (.nestDone seq) ∧ same (.featureRequeue seq) ∧ same (.gangTimeout seq)) ∧
    (∀ n, n? = some n → n.eligible = true → same (.waitWordRead seq)) ∧
    (∀ n s1 v, n? = some n → n.eligible = false → agentRead n.ctx.alien .sqd (n.word 0x40) s = (s1, some v) →
      (v.toNat < (n.word 0x48).toNat → exec (.waitWordRead seq) s = .next s1) ∧
      ((n.word 0x48).toNat ≤ v.toNat → n.flag 11 = false →
        exec (.waitWordRead seq) s = .next (upd seq.toNat (fun m => { m with eligible := true }) s1)) ∧
      ((n.word 0x48).toNat ≤ v.toNat → n.flag 11 = true →
        (∀ s2 x, agentRead n.ctx.alien .sqd (n.word 0x50) (upd seq.toNat (fun m => { m with eligible := true }) s1) = (s2, some x) →
          (x = n.word 0x58 → exec (.waitWordRead seq) s = .next s2) ∧
          (x ≠ n.word 0x58 → does (.waitWordRead seq) (closed n 0x200 s2))) ∧
        (∀ s2, agentRead n.ctx.alien .sqd (n.word 0x50) (upd seq.toNat (fun m => { m with eligible := true }) s1) = (s2, none) →
          does (.waitWordRead seq) (closed n 0x800 { s2 with dev := logError (n.word 0x50).toNat 8 5 none s2.dev })))) ∧
    (∀ n s1, n? = some n → n.eligible = false → agentRead n.ctx.alien .sqd (n.word 0x40) s = (s1, none) →
      (n.badWait = true → exec (.waitWordRead seq) s = .next s1) ∧
      (n.badWait = false → exec (.waitWordRead seq) s = .next (upd seq.toNat (fun m => { m with badWait := true })
        { s1 with dev := logError (n.word 0x40).toNat 8 5 none s1.dev }))) ∧
    ((∀ q c ks, walkerMove s ≠ some (.dispatch q c ks)) → does .walkerDispatch (fun t =>
      t = { s with dev := { s.dev with walker := { s.dev.walker with requests := t.dev.walker.requests, aside := t.dev.walker.aside } } } ∧
      (∃ l, t.dev.walker.requests = s.dev.walker.requests ++ l) ∧
      (∀ n ∈ s.dev.walker.nests, wantsRoom s n = true → ∃ r ∈ t.dev.walker.requests, r.2.1 = n.seq) ∧
      t.dev.walker.aside.map (·.th) = s.dev.walker.aside.map (·.th))) ∧
    (∀ q c ks n, s.coresOk → walkerMove s = some (.dispatch q c ks) → nestAt s q = some n → (∀ m ∈ s.dev.walker.nests, m.seq = q → m = n) →
      does .walkerDispatch (fun t =>
      nestAt t q = some { n with
        rank := some n.position, nextOrd := n.nextOrd + 1, lastCluster := some c, iters := n.iters ++ [⟨n.nextOrd, n.stages, false, false⟩] } ∧
      ks.length = n.stages ∧ ∀ st k, ks[st]? = some k →
        let th := n.thread n.nextOrd st k s.dev.clk (s.cluster (k / 8)).cols (BitVec.ofNat 16 (n.fld 0x3A 16))
        let now := BitVec.ofNat 64 (ticks s.dev.clk)
        (s.coreAt k).vacant = true ∧ (t.coreAt k).run = .live ∧ (t.coreAt k).level = .user ∧ (t.coreAt k).cat = Catalogue.start ∧
          (t.coreAt k).out = false ∧ (t.coreAt k).th = { th with
            floor := if now.toNat < s.dev.carried.toNat then s.dev.carried else now
            csr := { th.csr with tbcfg := (t.coreAt k).th.csr.tbcfg } } ∧
          (n.flag 3 = false → (t.coreAt k).th.csr.tbcfg = th.csr.tbcfg))) ∧
    ((∀ a k, walkerMove s ≠ some (.resume a k)) → same .threadResume) ∧
    (∀ a k, s.coresOk → walkerMove s = some (.resume a k) → does .threadResume (fun t =>
      let c := t.coreAt k
      (s.coreAt k).vacant = true ∧ a.since + 512 ≤ s.dev.clk ∧ a ∉ t.dev.walker.aside ∧ c.run = .live ∧ c.level = a.level ∧
        c.out = false ∧ c.th.csr.leaseGranted = c.th.csr.leaseMin ∧
        (a.area = none → c.th.pc = a.th.pc ∧ c.th.g = a.th.g ∧ c.th.v = a.th.v ∧ c.th.m = a.th.m ∧ c.th.who = a.th.who ∧
          c.th.viq = a.th.viq.map (fun e => { e with granted := a.th.csr.leaseMin }) ∧
          c.th.csr = { a.th.csr with leaseGranted := a.th.csr.leaseMin }) ∧
        (∀ o, a.area = some o → dspRead s (o + 0x138) 8 = 1 ∧ c.th.pc = BitVec.ofNat 64 (dspRead s (o + 0x100) 8) ∧
          ∀ r (h : r < 32), 0 < r → c.th.g[r] = BitVec.ofNat 64 (dspRead s (o + 8 * r) 8)))) ∧
    (∀ n, n? = some n → nestReady s n = true → does (.nestDone seq) (closed n (if n.aborted then 0x800 else 0) s)) ∧
    (∀ n, n? = some n → nestReady s n = false → same (.nestDone seq)) ∧
    does (.nestAbort seq) (fun t =>
      (∀ k ∈ t.dev.tasks, k.nest ≠ seq.toNat) ∧ (∀ c ∈ t.dev.copies, c.nest = seq.toNat → c.suspended = false) ∧
      (∀ a ∈ t.dev.walker.aside, a.th.nest ≠ seq.toNat) ∧
      (∀ m ∈ t.dev.walker.nests, m.seq = seq.toNat → m.aborted = true ∧ ∀ i ∈ m.iters, i.lost = true) ∧
      t.dev.walker.nests.map (·.seq) = s.dev.walker.nests.map (·.seq) ∧
      (s.coresOk → ∀ k, (s.coreAt k).lives = true → (s.coreAt k).run ≠ .stopped → (s.coreAt k).th.nest = seq.toNat →
        (t.coreAt k).preempt = true)) ∧
    ((∀ k ∈ s.knownCores, tookFeature (s.coreAt k) seq.toNat = false) → same (.featureRequeue seq)) ∧
    (∀ k n, s.coresOk → s.knownCores.find? (fun k => tookFeature (s.coreAt k) seq.toNat) = some k → n? = some n →
      does (.featureRequeue seq) (fun t =>
        t.free = s.free + 1 ∧ (t.coreAt k).run = .idle ∧ (t.coreAt k).level = .user ∧
        (∀ m ∈ t.dev.walker.nests, m.seq = seq.toNat → m.nextOrd = m.count) ∧
        t.dev.walker.nests.map (·.aborted) = s.dev.walker.nests.map (·.aborted) ∧
        ∀ j, j ≠ k → (t.coreAt j).run = (s.coreAt j).run ∧ (t.coreAt j).th.pc = (s.coreAt j).th.pc ∧
          (t.coreAt j).th.g = (s.coreAt j).th.g)) ∧
    ((∀ n, s.dev.walker.nests.find? open_ = some n → exec (.gangAck gid fabric) s = .next (upd n.seq (fun m =>
        let acks := if fabric ∈ m.acks then m.acks else m.acks ++ [fabric]
        ({ m with acks := acks, gangFormed := decide (m.fld 0x6C 16 ≤ acks.length) } : Nest)) s)) ∧
      (s.dev.walker.nests.find? open_ = none →
        ((∃ n ∈ s.dev.walker.nests, n.flag 12 = true ∧ n.fld 0x68 32 = gid.toNat) ∨ (gid, fabric) ∈ s.dev.walker.early →
          same (.gangAck gid fabric)) ∧
        ((∀ n ∈ s.dev.walker.nests, ¬(n.flag 12 = true ∧ n.fld 0x68 32 = gid.toNat)) → (gid, fabric) ∉ s.dev.walker.early →
          exec (.gangAck gid fabric) s = .next { s with dev := { s.dev with walker := { s.dev.walker with
            early := s.dev.walker.early ++ [(gid, fabric)] } } }))) ∧
    (∀ n, n? = some n → (n.gangFormed = true ∨ n.gangLate = true ∨ s.dev.clk < n.postedAt + 175000) → same (.gangTimeout seq)) ∧
    (∀ n, n? = some n → n.gangFormed = false → n.gangLate = false → n.postedAt + 175000 ≤ s.dev.clk →
      (n.flag 13 = true → exec (.gangTimeout seq) s = .next (upd seq.toNat (fun m => { m with gangLate := true }) s)) ∧
      (n.flag 13 = false → does (.gangTimeout seq) (closed n 0x1800 s)))

/-- 01 R30, R41, R42; 14 R333, R335: a dispatched thread begins at the entry point with the indices of its iteration times their
strides, its stage, its core, the argument block and its rank in g1 to g8, every other register zero, and the CSRs of
Table 01-6 with the values that the record gives, MIN and PREF as R30 stores them in a cluster of `cols` columns. The rank is the
position of this device's fabric number among the members; while some of an eager gang are unknown, how many of them come before it is
free, and the first dispatch settles it (14 R346, R348; log 20). -/
def Obligations.DispatchedThread : Prop :=
  ∀ (n : Nest) (ord stage core clk cols : Nat) (ways : BitVec 16),
    let t := n.thread ord stage core clk cols ways
    let mn := min (max (n.fld 0x38 8) 1) cols
    let ix (l : Nat) : Nat := (n.indices ord).getD l 0
    t.pc = n.word 0x28 ∧
    (∀ l (h : l < 4), t.g[l + 1] = BitVec.ofNat 64 (ix l * n.fld (0x18 + 4 * l) 32)) ∧
    t.g[5] = BitVec.ofNat 64 stage ∧ t.g[6] = BitVec.ofNat 64 core ∧ t.g[7] = n.word 0x30 ∧ t.g[8] = n.position.setWidth 64 ∧
    (n.flag 12 = false → n.position = 0) ∧ (∀ r, n.flag 12 = true → n.rank = some r → n.position = r) ∧
    (n.flag 12 = true → n.rank = none → n.fld 0x6C 16 ≤ n.acks.length →
      n.position = BitVec.ofNat 16 (n.acks.filter (fun f => decide (f.toNat < Config.fabricNumber.toNat))).length) ∧
    t.floor = BitVec.ofNat 64 (ticks clk) ∧ t.g[0] = 0 ∧ (∀ k (h : k < 32), 9 ≤ k → t.g[k] = 0) ∧
    (∀ k (h : k < 32), t.v[k] = ⟨0, .i32, 0⟩) ∧ (∀ k (h : k < 16), t.m[k] = 0) ∧
    t.viq = [] ∧ t.streams = [] ∧ t.utq = [] ∧ t.resv = none ∧ t.vresv = [] ∧ t.bank = none ∧ t.fault = none ∧ t.revoked = false ∧
    t.csr = { Csrs.start with
      vtype := if n.flag 2 then 0xFF58 else 0xFF18
      leasePref := BitVec.ofNat 8 (min (max (n.fld 0x39 8) mn) cols), leaseMin := BitVec.ofNat 8 mn
      leaseGranted := BitVec.ofNat 8 mn
      pairctl := if n.flag 1 then 0x08000001 else 0x08000000, kslice := BitVec.ofNat 32 (n.fld 0x3C 32), tbcfg := ways
      threadid := BitVec.ofNat 16 (stage * 256 + core), nestid := BitVec.ofNat 64 n.seq, gangrank := n.position }

/-- 16 R375, R377, R378, Table 16-2: a grant wounds what must give way and then makes the first grantable task READY with its
lock, or lets a thread's waiting `lkacq` or `lkup` run, which takes its lock; a revocation takes a name whose grace has passed
from its holder, and no other, and tells the holder: on its core at once, and one that a switch has taken off its core when it
comes back. R380 leaves the order to the Curator: that wounds come before grants and tasks before threads is the model's choice
(log 40). -/
def Obligations.CuratorEvents : Prop :=
  ∀ (name : Word) (tid : BitVec 8) (d a : Reg) (mode : BitVec 3) (sc st : BitVec 2) (s : State),
    let w := woundAll s
    let due (e : LockEntry) : Bool := e.name == name && e.tid == tid.toNat &&
      (match e.wounded with
       | some t => decide (t + s.dev.cur.grace.toNat ≤ s.dev.clk)
       | none => false)
    (s.dev.cur.queue = [] → s.dev.cur.starved = [] → exec .curatorGrant s = .next s) ∧
    (∀ r e age k, s.dev.cur.queue ++ s.dev.cur.starved = [r] → s.dev.cur.woundees r = [e] → e.holder = .thread age k → e.wounded = none →
      w.dev.cur = { s.dev.cur with held := s.dev.cur.held.map (fun x => if x = e then { x with wounded := some s.dev.clk } else x) }) ∧
    (∀ r id, taskGrantable w = some (r, id) → ∃ t : State, exec .curatorGrant s = .next t ∧
      r ∈ w.dev.cur.queue ∧ r.holder = .task id ∧ r ∉ t.dev.cur.queue ∧
      t = { w with dev := { w.dev with cur := t.dev.cur, tasks := w.dev.tasks.map (fun k => if k.id = id then { k with state := .ready } else k) } } ∧
      t.dev.cur = { w.dev.cur with
        queue := w.dev.cur.queue.filter (· != r), starved := w.dev.cur.starved.filter (· != r)
        held := if r.upgrade then w.dev.cur.held.map (fun e => if e.holder = r.holder ∧ e.name = r.name then { e with expl := r.mode } else e)
          else w.dev.cur.held ++ [⟨r.holder, r.age, r.tid, r.name, r.mode, none⟩] }) ∧
    (taskGrantable w = none → threadGrantable w = none → exec .curatorGrant s = .next w) ∧
    (∀ k, taskGrantable w = none → threadGrantable w = some k →
      let u := w.select k
      u.core.run ≠ .idle → u.core.run ≠ .stopped → issueBlocked u = false →
        ∀ t i, fetchPc u = (t, .instr i) → i = .lkacq d a mode sc st ∨ i = .lkup d a mode sc st →
          ∃ r : State, exec i t = .next r ∧ exec .curatorGrant s =
            .next ((if r.core.th.din = u.core.th.din + 1 then leadReconcile u.core.th.din false r else r).select w.at_)) ∧
    (s.dev.cur.held.find? due = none → exec (.lockRevoke name tid) s = .next s) ∧
    (∀ e id, s.dev.cur.held.find? due = some e → e.holder = .task id → exec (.lockRevoke name tid) s = .next s) ∧
    (∀ e age k, s.dev.cur.held.find? due = some e → e.holder = .thread age k →
      ∃ t : State, exec (.lockRevoke name tid) s = .next t ∧
        t.dev.cur = { s.dev.cur with held := s.dev.cur.held.filter (· != e) } ∧ t.dev.mem = s.dev.mem ∧ t.core.th.g = s.core.th.g ∧
        (∀ c, coreOf s (age / 2 ^ 32) (age % 2 ^ 32) k = some c → (s.coreAt c).switching = false →
          t.coreAt c = { s.coreAt c with th := { (s.coreAt c).th with revoked := true } } ∧
          (s.coresOk → ∀ m, m ≠ c → t.coreAt m = s.coreAt m)) ∧
        (∀ n, coreOf s (age / 2 ^ 32) (age % 2 ^ 32) k = none → (∀ a ∈ s.dev.walker.aside, a.area ≠ none) →
          nestAt s (age / 2 ^ 32) = some n → (∃ i ∈ n.iters, i.ord = age % 2 ^ 32) →
          t.dev.away = s.dev.away ++ [⟨age / 2 ^ 32, age % 2 ^ 32, k, .revoked⟩]))

/-- 14 R340; 16 R362, R365 to R370, R375, R379, Table 16-2; 08 R221, R472; 22 R464: a tile task moves from state to state as its table
says: its token condition holds, and it is READY, or QUEUED with a request for its lock; an engine takes it, and its headers are checked
then and not again; it does a slice or its work, at the end of its slice goes into its engine's save slot where its poster was stopped, or
back to WAITING where the slot is taken, and comes back from it; takes its merge turn, and finishes. `tpost` takes the leading valid
records of its group that find a free slot as tasks of the posting thread, after a release, and says how many and why it stopped. -/
def Obligations.TileTaskEvents : Prop :=
  (∀ (id : Word) (c : BitVec 5) (s : State),
    let put (t : TileTask) (f : TileTask → TileTask) (u : State) : State :=
      { u with dev := { u.dev with tasks := u.dev.tasks.map (fun k => if k.id = t.id then f k else k) } }
    let done (t : TileTask) (u : State) : State := put t (fun k => { k with state := .finishing, due := u.dev.clk + 32 }) u
    (oldestReady s c.toNat = none → exec (.tileTaskIssue c) s = .next s) ∧
    (∀ t, oldestReady s c.toNat = some t → chooseEngine s t = none → exec (.tileTaskIssue c) s = .next s) ∧
    (∀ t d, oldestReady s c.toNat = some t → chooseEngine s t = some d → (∀ p ∈ s.dev.slots, p.2 ≠ t.id) →
      let e : TileTask := { t with engine := d }
      let starts (u : State) (h : Option (PlanarHdr × PlanarHdr)) (tile : List TileRow) (cycles : Nat) : Prop :=
        (∀ p ∈ u.dev.slots, p.2 ≠ t.id) → exec (.tileTaskIssue c) s = .next (put t (fun k => { k with
          state := .running, engine := d, slice := 0, tile := tile, hdrs := h
          due := u.dev.clk + 32 + (if 0 < t.fld 2 16 then cycles else 0) }) u)
      (2 ≤ t.op → (t.op = 5 → scratchLost (ctxWays s t.ctx).2 (exportDests t.record) = false) →
        (∀ s1, checkC e 3 s = (s1, .ok ()) → starts s1 none [] 0) ∧
        (∀ s1 k, checkC e 3 s = (s1, .error k) → exec (.tileTaskIssue c) s = .next (taskEnd e k s1))) ∧
      (t.op = 5 → scratchLost (ctxWays s t.ctx).2 (exportDests t.record) = true →
        exec (.tileTaskIssue c) s = .next (taskEnd e 5 s)) ∧
      (t.op ≤ 1 → (∀ s1 k, readHdrs e s = (s1, .error k) → exec (.tileTaskIssue c) s = .next (taskEnd e k s1)) ∧
        ∀ s1 a b, readHdrs e s = (s1, .ok (a, b)) →
          (∀ s2 k, checkC e 3 s1 = (s2, .error k) → exec (.tileTaskIssue c) s = .next (taskEnd e k s2)) ∧
          ∀ s2, checkC e 3 s1 = (s2, .ok ()) →
            (t.op = 1 → starts s2 (some (a, b)) (List.replicate 64 TileRow.zero) (sliceCycles (t.slicePlanes a b))) ∧
            (t.op = 0 → ∀ s3 rows, readTile e s2 = (s3, .ok rows) →
              starts s3 (some (a, b)) rows (sliceCycles (t.slicePlanes a b))))) ∧
    (∀ t d i, oldestReady s c.toNat = some t → chooseEngine s t = some d → s.dev.slots.find? (fun p => p.2 == t.id) = some (i, t.id) →
      anyPoisoned s.dev 25090 (dspLoc + 0x03800000 + 0x6200 * i) = false →
      let k := dspRead s (0x03800000 + 0x6200 * i + 0x6140) 2
      exec (.tileTaskIssue c) s = .next (put t (fun x => { x with
          state := .running, engine := d, slice := k, tile := slotTile s (0x03800000 + 0x6200 * i), hdrs := t.hdrs
          due := s.dev.clk + 32 + (match t.hdrs with
            | some (a, b) => if k < t.fld 2 16 then sliceCycles (t.slicePlanes a b) else 0
            | none => 0) })
        { s with dev := { s.dev with slots := s.dev.slots.filter (fun p => p.2 != t.id) } })) ∧
    (taskAt s id.toNat = none → ∀ i ∈ [Instr.tileTaskWtokReady id, .tileSliceStep id, .tileMergeTurn id, .tileTaskFinish id],
      exec i s = .next s) ∧
    (∀ t, taskAt s id.toNat = some t → t.id = id.toNat →
      (t.state = .waiting → tokenReady s t = true → t.fld 6 8 = 0 →
        exec (.tileTaskWtokReady id) s = .next (put t (fun k => { k with state := .ready }) s)) ∧
      (t.state = .waiting → tokenReady s t = true → t.fld 6 8 ≠ 0 →
        let asked (cur : Curator) : State := put t (fun k => { k with state := .queued }) { s with dev := { s.dev with cur := cur } }
        let q := { s.dev.cur with queue := s.dev.cur.queue ++ [t.lockReq], starved := s.dev.cur.starved.filter (· != t.lockReq) }
        (s.dev.cur.fits t.lockReq = true → q.woundees t.lockReq = [] → exec (.tileTaskWtokReady id) s = .next (asked q)) ∧
        (s.dev.cur.fits t.lockReq = false → t.lockReq ∉ s.dev.cur.starved → (∀ r ∈ s.dev.cur.queue, r.holder ≠ .task t.id) →
          s.dev.cur.woundees t.lockReq = [] →
          exec (.tileTaskWtokReady id) s = .next (asked { s.dev.cur with starved := s.dev.cur.starved ++ [t.lockReq] }))) ∧
      (t.state = .running → t.op ≤ 1 → t.stopped = true → t.repInc = false →
        let i := 8 * t.cluster + t.engine
        let o := 0x03800000 + 0x6200 * i
        let parks (u : TileTask) (v : State) : Prop :=
          let w := dspWrite (dspWrite (dspWrite v o 24832 (imageOf u.tile)) (o + 0x6100) 64 u.record.toNat) (o + 0x6140) 2 u.slice
          ((∀ p ∈ v.dev.slots, p.1 ≠ i) → exec (.tileSliceStep id) s = .next
            (put t (fun k => { k with state := .suspended, tile := [] }) { w with dev := { w.dev with slots := w.dev.slots ++ [(i, t.id)] } })) ∧
          ((∃ p ∈ v.dev.slots, p.1 = i) → exec (.tileSliceStep id) s = .next
            (put t (fun k => { k with state := .waiting, slice := 0, tile := [] }) { v with dev := { v.dev with
              cur := v.dev.cur.dropHolder (.task t.id), slots := v.dev.slots.filter (fun p => p.2 != t.id) } }))
        (t.fld 2 16 ≤ t.slice → parks t s) ∧
        (t.slice + 1 < t.fld 2 16 → t.tile ≠ [] → ∀ a b as bs s2 s3 s4, t.hdrs = some (a, b) →
          readPlanes t (t.word 0x10) a.k t.slice a.p (planesRead (t.fld 4 8) a.p) s = (s2, .ok as) →
          readPlanes t (t.word 0x18) b.k t.slice b.p (planesRead (t.fld 5 8) b.p) s2 = (s3, .ok bs) →
          checkC t tileChunks s3 = (s4, .ok ()) →
          let next (k : TileTask) : TileTask := { k with
            slice := k.slice + 1, tile := applySlice a b as bs t.tile, due := s4.dev.clk + sliceCycles (t.slicePlanes a b) }
          parks (next t) (sliceDone t.id (put t next s4)))) ∧
      (t.state = .waiting → tokenReady s t = false → exec (.tileTaskWtokReady id) s = .next s) ∧
      (t.state = .running → 1 < t.op →
        (∀ s1, taskWork t s = (s1, .ok ()) → exec (.tileSliceStep id) s = .next (done t s1)) ∧
        (∀ s1 k, taskWork t s = (s1, .error k) → exec (.tileSliceStep id) s = .next (taskEnd t k s1))) ∧
      (t.state = .running → t.op ≤ 1 → t.stopped = false → t.slice < t.fld 2 16 → t.tile ≠ [] → ∀ a b as bs s2 s3 s4,
        t.hdrs = some (a, b) →
        readPlanes t (t.word 0x10) a.k t.slice a.p (planesRead (t.fld 4 8) a.p) s = (s2, .ok as) →
        readPlanes t (t.word 0x18) b.k t.slice b.p (planesRead (t.fld 5 8) b.p) s2 = (s3, .ok bs) →
        (checkC t tileChunks s3 = (s4, .ok ()) →
          exec (.tileSliceStep id) s = .next (sliceDone t.id (put t (fun k => { k with
            slice := k.slice + 1, tile := applySlice a b as bs t.tile
            due := s4.dev.clk + (if t.slice + 1 < t.fld 2 16 then sliceCycles (t.slicePlanes a b) else 0) }) s4))) ∧
        (∀ k, checkC t tileChunks s3 = (s4, .error k) → exec (.tileSliceStep id) s = .next (taskEnd t k s4))) ∧
      (t.state = .running → t.repInc = true → t.fld 2 16 ≤ t.slice → t.stopped = false →
        (∀ k ∈ s.dev.tasks, k.repInc = true → k.word 0x28 = t.word 0x28 → k.olderThan t = false) →
        exec (.tileMergeTurn id) s = .next (done t s)) ∧
      (t.state = .finishing → 1 < t.op → exec (.tileTaskFinish id) s = .next (taskEnd t 0 s)) ∧
      (t.state = .finishing → t.op ≤ 1 →
        (∀ s1, taskWork t s = (s1, .ok ()) → exec (.tileTaskFinish id) s = .next (taskEnd t 0 s1)) ∧
        (∀ s1 k, taskWork t s = (s1, .error k) → exec (.tileTaskFinish id) s = .next (taskEnd t k s1))) ∧
      (t.state ≠ .finishing → exec (.tileTaskFinish id) s = .next s))) ∧
  (∀ (x : VX) (scope : BitVec 2), x.vl ≤ 512 →
    let recs : List (BitVec 512) := (List.range (x.vl / 16)).map (fun j =>
      BitVec.ofNat 512 (packEls 32 ((List.range 16).map (fun q => x.el x.va 32 (16 * j + q)))))
    let free := 256 - (x.s.dev.tasks.filter (fun t => t.cluster == x.s.at_ / 8)).length
    (∀ i < x.vl, x.bad x.va 32 i = true → (∀ k < i, x.bad x.va 32 k = false) →
      runTpost x scope = .fault x.s 0 .poison (BitVec.ofNat 64 (2 ^ 63 + (x.va + i / perReg x.vlen 32))) 0) ∧
    ((∀ i < x.vl, x.bad x.va 32 i = false) → ∃ t n v, runTpost x scope = .done t 0 [(x.e.desc.gd, v)] ∧
      PostTakes taskValid recs free n v ∧ t.core.coalesce = [] ∧ t.core.th = x.t ∧ t.dev.mem = x.s.dev.mem ∧
      t.dev.tasks = x.s.dev.tasks ++ ((recs.take n).zipIdx).map (fun q => {
        id := x.s.dev.nextOp + q.2, cluster := x.s.at_ / 8, record := q.1, cls := x.e.desc.cls, scope := scope, ctx := x.e.ctx
        nest := x.t.nest, ord := x.t.ord, tid := x.t.tid, state := .waiting, engine := 0, slice := 0, tile := [], hdrs := none
        failed := 0, stopped := false, due := 0 }) ∧ t.dev.copies = x.s.dev.copies))

/-- 08 R215, R217, R221, R222, R472; 14 R341; 17 R386, R400; 22 R465: a copy engine takes the next command, or fails it where its
destination has left the scratch ways; moves it to the next 256-byte boundary of its progress, a segment split through the
256-byte buffers of its fields; stops there where its poster was stopped; and ends it. `epost` takes commands as `tpost` takes tasks (R220,
R232), but none where one names a scratch way that is gone, which is XLATE_W. That a stretch takes a cycle is the model's
choice (log 6); where an entry off its size fails with code 8, and that the buffers are written as they fill, is its reading
(log 35). -/
def Obligations.CopyEvents : Prop :=
  (∀ (id : Word) (c : BitVec 5) (s : State),
    let put (k : CopyCmd) (f : CopyCmd → CopyCmd) (u : State) : State :=
      { u with dev := { u.dev with copies := u.dev.copies.map (fun x => if x.id = k.id then f x else x) } }
    let fails (i : Instr) (k : CopyCmd) (code : Nat) (u : State) : Prop := exec i s =
      .next (put k (fun x => { x with failed := code, state := .finished }) (flushCopies (·.id == k.id) u))
    (nextCopy s c.toNat = none → exec (.copyStart c) s = .next s) ∧
    (∀ k, nextCopy s c.toNat = some k →
      (destLost s k.ctx (copyDests k.record) = true → fails (.copyStart c) k 5 s) ∧
      (destLost s k.ctx (copyDests k.record) = false →
        exec (.copyStart c) s = .next (put k (fun x => { x with state := .running, due := s.dev.clk + 1 }) s))) ∧
    (copyAt s id.toNat = none → exec (.copyChunk id) s = .next s ∧ exec (.copyFinish id) s = .next s) ∧
    (∀ k, copyAt s id.toNat = some k → k.id = id.toNat →
      (k.state ≠ .running → exec (.copyChunk id) s = .next s) ∧
      (k.state = .running → (k.stopped = true ∨ k.suspended = true) →
        exec (.copyChunk id) s = .next (put k (fun x => { x with state := .queued }) (flushCopies (·.id == k.id) s))) ∧
      (k.state = .running → k.stopped = false → k.suspended = false → k.total ≤ k.progress →
        exec (.copyChunk id) s = .next (put k (fun x => { x with state := .finished }) s)) ∧
      (k.state = .running → k.stopped = false → k.suspended = false → k.progress < k.total →
        let stop := min k.total ((k.progress / 256 + 1) * 256)
        let len := stop - k.progress
        (k.misfit false k.progress len = true → fails (.copyChunk id) k 8 s) ∧
        (k.misfit false k.progress len = false →
          (∀ s1 e, k.gatherBytes len k.progress s = (s1, .error e) → fails (.copyChunk id) k e s1) ∧
          ∀ s1 vs, k.gatherBytes len k.progress s = (s1, .ok vs) →
            (k.misfit true k.progress len = true → fails (.copyChunk id) k 8 s1) ∧
            (∀ s2 e, k.misfit true k.progress len = false → k.places len k.progress s1 = (s2, .error e) → fails (.copyChunk id) k e s2) ∧
            ∀ s2 ps, k.misfit true k.progress len = false → k.places len k.progress s1 = (s2, .ok ps) →
              let s3 : State := { s2 with
                dev := ((vs.flatMap (·.2)).eraseDups).foldl (fun d line => readLine (lineHome line) (128 * line) d) s2.dev }
              (∀ i < len, k.inSource (k.dstOf (k.progress + i)) s3 = false) →
              let new : List BufByte := ((ps.zip vs).zipIdx).map (fun q => ⟨k.fieldNo (k.progress + q.2), q.1.1.key, q.1.1.loc, q.1.2.1⟩)
              let keeps := recN k.record 0 8 = 3 ∧ stop ≠ k.total
              ∃ t : State, exec (.copyChunk id) s = .next t ∧ t = put k (fun x => { x with
                  progress := stop, buf := if keeps then (fullBuffers (k.buf ++ new)).2 else []
                  state := if stop = x.total then .finished else x.state, due := t.dev.clk + 1 })
                (writeBuf (if keeps then (fullBuffers (k.buf ++ new)).1 else k.buf ++ new) (ps.foldl (fun u p => setAD p u) s3)))) ∧
      (∀ j n, recN k.record 0 8 = 4 → 0 < n → (k.misfit false j n = true ↔ k.src.toNat % 8 ≠ 0)) ∧
      (∀ b j n, recN k.record 0 8 = 0 ∨ recN k.record 0 8 = 2 → k.misfit b j n = false) ∧
      (k.state ≠ .finished → exec (.copyFinish id) s = .next s) ∧
      (k.state = .finished → ∃ t : State, exec (.copyFinish id) s = .next t ∧ ∀ x ∈ t.dev.copies, x.id ≠ id.toNat))) ∧
  (∀ (x : VX), x.vl ≤ 512 →
    let recs : List (BitVec 512) := (List.range (x.vl / 16)).map (fun j =>
      BitVec.ofNat 512 (packEls 32 ((List.range 16).map (fun q => x.el x.va 32 (16 * j + q)))))
    let free := 64 - (x.s.dev.copies.filter (fun c => c.cluster == x.s.at_ / 8)).length
    let gone (r : BitVec 512) : Bool := scratchLost x.s.csr.tbcfg (copyDests r)
    (∀ i < x.vl, x.bad x.va 32 i = true → (∀ k < i, x.bad x.va 32 k = false) →
      runEpost x = .fault x.s 0 .poison (BitVec.ofNat 64 (2 ^ 63 + (x.va + i / perReg x.vlen 32))) 0) ∧
    ((∀ i < x.vl, x.bad x.va 32 i = false) →
      (∀ r pre post, recs = pre ++ r :: post → gone r = true → (∀ q ∈ pre, gone q = false) →
        let o := (recW r 0x10).toNat - scratchBase
        runEpost x = .fault x.s 0 .xlateW
          (BitVec.ofNat 64 (o * 2 ^ 24 + ((scratchWay x.s.csr.tbcfg o).getD 0xFFFF) * 2 ^ 8 + 1)) 0) ∧
      ((∀ r ∈ recs, gone r = false) → ∃ t n v, runEpost x = .done t 0 [(x.e.desc.gd, v)] ∧
        PostTakes copyValid recs free n v ∧ t.core.coalesce = [] ∧ t.core.th = x.t ∧ t.dev.mem = x.s.dev.mem ∧
        t.dev.copies = x.s.dev.copies ++ ((recs.take n).zipIdx).map (fun q => {
          id := x.s.dev.nextOp + q.2, cluster := x.s.at_ / 8, record := q.1, ctx := x.e.ctx, nest := x.t.nest, ord := x.t.ord
          tid := x.t.tid, state := .queued, progress := 0, suspended := false, stopped := false, failed := 0, due := 0, buf := [] }) ∧
        t.dev.tasks = x.s.dev.tasks)))

/-- 17 R388 to R391, R395, R397, R398, R401, R402; 10 R285; 01 R37; 14 R342; 18 R415; 20 R439, R441, R447: the parts below the caches
change no value: a fill, a recall, an epoch, a flit and a plan leave memory, every core and the clock as they are, and a frame
does but for an error that strikes. A fill brings the line to its home, a recall takes it from its helpers, a frame and an epoch begin once
their cycles have passed. A flit whose CRC or sequence number is wrong, or that breaks the protocol, is discarded and a replay
asked for; one that is taken opens, fills or closes a context: element i of a data flit goes to ADDR + i × STRIDE. A header that finds
255 contexts open waits at its sender. Axolotl takes one step where a margin is short: 5 mV more, else 25 MHz less, else a
retirement at the next reset. A die that goes down takes its memory with it, an error after an acknowledgement loses an atomic and
sets FAULTED, and device reset leaves what reset leaves. The lists that stand for the fabric are the model's (log 24), so are the
codes 7 and 8 of what is logged (log 42), that the error's location is an input (log 25), and what device reset keeps (log 47). -/
def Obligations.FabricEvents : Prop :=
  ∀ (pa : BitVec 52) (link : BitVec 5) (flit : BitVec 576) (die : BitVec 3) (group : BitVec 2) (short : Bool) (seq loc : Word) (s : State),
    let f := s.dev.fabric
    let line := pa.toNat / 128
    let room := freeSlots f (homeDie pa.toNat) (sliceNode (homeDie pa.toNat) (homeSlice pa.toNat))
    let fab (g : Fabric) : State := { s with dev := { s.dev with fabric := g } }
    let logged (k kind : Nat) (loc : Nat) : State := { s with dev := logError loc k kind none s.dev }
    (∀ i ∈ [Instr.l2Fill pa, .loanRecallDone pa, .goldenEpoch, .linkFlitReceive link flit, .axolotlReplan die group short],
      ∃ fb h k, exec i s = .next { s with dev := { s.dev with fabric := fb, host := h }, free := k }) ∧
    (locPresent s.dev pa.toNat = false → exec (.l2Fill pa) s = .next (logged 128 7 (line * 128))) ∧
    (locPresent s.dev pa.toNat = true → room.length < 2 → exec (.l2Fill pa) s = .next s) ∧
    (locPresent s.dev pa.toNat = true → 2 ≤ room.length → ∃ g : Fabric, exec (.l2Fill pa) s = .next (fab g) ∧
      g.mesh.length = f.mesh.length + 2 ∧ ∃ x ∈ g.l2, x.die = homeDie pa.toNat ∧ x.line = line) ∧
    exec (.loanRecallDone pa) s = .next (fab { f with
      l2 := f.l2.filter (fun x => !(x.line == line && x.die != lineHome x.line)), loans := f.loans.filter (fun l => l.line != line) }) ∧
    (s.dev.clk / 512 ≤ f.epoch → exec .goldenEpoch s = .next s) ∧
    (f.epoch < s.dev.clk / 512 → ∃ m, exec .goldenEpoch s = .next (fab { f with epoch := s.dev.clk / 512, mesh := m }) ∧
      ∀ x ∈ m, x ∈ f.mesh ∧ s.dev.clk / 512 - f.epoch ≤ (8 * x.node + x.slot + 512 - f.epoch % 512) % 512) ∧
    (s.dev.clk / 4096 ≤ f.frame → exec .slotWheelFrame s = .next s) ∧
    (f.frame < s.dev.clk / 4096 → ∃ l2 ln,
      let now := s.dev.clk / 4096
      let u := fab { f with
        l2 := l2, loans := ln, reads := [], frame := now, vddc := f.nextVddc, clock := f.nextClock
        corrected := f.corrected + Config.corrected now }
      (Config.strike now = none → exec .slotWheelFrame s = .next u) ∧
      (∀ x, Config.strike now = some x →
        let z := errorUnit (l2.any (fun y => y.line == x / 128)) x
        exec .slotWheelFrame s = .next { u with dev := { u.dev with mem := markPoison u.dev.mem z (x / z * z) } })) ∧
    (let lk := f.links.getD link.toNat ⟨0, [], none, 0, []⟩
     let got (k : Nat) : Nat := flit.toNat / 2 ^ (8 * k) % 256
     let tag := got 0
     let opens : Bool := tag == 0 && got 4 != 5 && got 6 != 0
     let full : Bool := decide (255 ≤ (f.linkOpen.filter (·.link == link.toNat)).length)
     let whole : Bool := crc32c ((List.range 68).map got) == got 68 + 256 * got 69 + 65536 * got 70 + 16777216 * got 71
     let sent : Link := { lk with held := (flit :: lk.held.filter (· != flit)).take 512 }
     let inSeq : Bool := got 2 + 256 * got 3 == lk.seq.toNat
     let asks (k : Link) : Prop := exec (.linkFlitReceive link flit) s = .next (fab { f with
       links := f.links.setIfInBounds link.toNat { k with replay := some (lk.seq, got 1 / 4 % 2 = 1) }, replays := f.replays + 1 })
     let is (t : Nat) (c : LinkCtx) : Bool := c.link == link.toNat && c.tag == t
     let taken (now closed : List LinkCtx) : Prop := lk.waiting = [] →
       (∀ g ∈ sent.held, g.toNat / 2 ^ 16 % 2 ^ 16 ≠ (lk.seq + 1).toNat) → exec (.linkFlitReceive link flit) s = .next (fab { f with
         linkOpen := now, transfers := f.transfers ++ closed
         links := f.links.setIfInBounds link.toNat { sent with seq := lk.seq + 1, replay := none, credits := lk.credits + got 1 / 8 } })
     (opens = true → full = true → exec (.linkFlitReceive link flit) s = .next (fab { f with
       links := f.links.setIfInBounds link.toNat { lk with waiting := lk.waiting ++ [flit] } })) ∧
     ((opens && full) = false → whole = false → asks lk) ∧
     ((opens && full) = false → whole = true → inSeq = false → asks sent) ∧
     (opens = true → full = false → whole = true → inSeq = true → f.linkOpen.any (is (got 6)) = true → asks sent) ∧
     (opens = true → full = false → whole = true → inSeq = true → f.linkOpen.any (is (got 6)) = false →
       taken (f.linkOpen ++ [{
         link := link.toNat, tag := got 6, op := got 4, cls := BitVec.ofNat 4 (got 5), scope := BitVec.ofNat 2 (got 5 / 16)
         dstUnit := flit.toNat / 2 ^ (8 * 28) % 2 ^ 16, srcUnit := flit.toNat / 2 ^ (8 * 30) % 2 ^ 16
         operand := flit.extractLsb' (8 * 32) 288, elem := got 7 % 4, addr := flit.extractLsb' (8 * 12) 64
         stride := flit.extractLsb' (8 * 20) 64, count := flit.toNat / 2 ^ (8 * 8) % 2 ^ 32, passed := 0, got := [] }]) []) ∧
     (tag = 0 → got 4 = 5 → whole = true → inSeq = true →
       taken (f.linkOpen.filter (fun c => !is (got 6) c)) (f.linkOpen.filter (is (got 6)))) ∧
     (tag = 0 → got 4 ≠ 5 → got 6 = 0 → whole = true → inSeq = true → taken f.linkOpen []) ∧
     (tag ≠ 0 → whole = true → inSeq = true →
       let fed (c : LinkCtx) : LinkCtx :=
         let m := min (64 / 2 ^ c.elem) (c.count - c.passed)
         { c with passed := c.passed + m, got := c.got ++ (List.range m).map (fun k =>
           ⟨c.addr + BitVec.ofNat 64 (c.passed + k) * c.stride,
             flit.toNat / 2 ^ (8 * (4 + k * 2 ^ c.elem)) % 2 ^ (8 * 2 ^ c.elem), decide (got 1 / 2 % 2 = 1)⟩) }
       let l := f.linkOpen.map (fun c => if is tag c then fed c else c)
       let ended (c : LinkCtx) : Bool := is tag c && decide (c.count ≤ c.passed)
       taken (l.filter (fun c => !ended c)) (l.filter ended))) ∧
    exec (.axolotlReplan die group false) s = .next s ∧
    (let v := f.nextVddc[die.toNat]
     let c := f.nextClock[die.toNat]
     (v < 550 → exec (.axolotlReplan die group true) s = .next (fab { f with nextVddc := f.nextVddc.set die.toNat (v + 5) die.isLt })) ∧
     (550 ≤ v → 1500 < c →
       exec (.axolotlReplan die group true) s = .next (fab { f with nextClock := f.nextClock.set die.toNat (c - 25) die.isLt })) ∧
     (550 ≤ v → c ≤ 1500 → ∃ g : Fabric, exec (.axolotlReplan die group true) s = .next { s with
         dev := { s.dev with fabric := g, host := { s.dev.host with msix := s.dev.host.msix ++ [10] } }, free := s.free + 1 } ∧
       (g = { f with retireBanks := true } ∨ ∃ col : Nat × Nat, col.1 < 32 ∧ col.2 / 8 = group.toNat ∧
         g = { f with retireCols := if col ∈ f.retireCols then f.retireCols else f.retireCols ++ [col] }))) ∧
    (∃ t : State, exec (.dieDomainDown die) s = .next t ∧ t.core = s.core ∧ t.others = s.others ∧ t.dev.mem = s.dev.mem ∧
      (∀ k, t.dev.down.getLsbD k = (s.dev.down.getLsbD k || decide (k = die.toNat))) ∧
      ∀ x, dieOfLoc x = die.toNat → locPoisoned t.dev x = true) ∧
    (∃ t : State, exec .deviceReset s = .next t ∧ t.core = Core.start ∧ t.at_ = 0 ∧ t.others = [] ∧ t.dev.mem = ⟨[], [], [], []⟩ ∧
      t.dev.tlbs = [] ∧ t.dev.cur = Curator.start ∧ t.dev.walker.nests = [] ∧ t.dev.tasks = [] ∧ t.dev.copies = [] ∧
      t.dev.down = 0 ∧ t.dev.dspsup = 0x200 ∧ t.dev.tierBytes = s.dev.tierBytes) ∧
    (nestAt s seq.toNat = none → exec (.uncorrectableErrorAfterAck seq loc) s = .next s) ∧
    (∀ n, nestAt s seq.toNat = some n →
      let u := logged (poisonUnit loc.toNat) 8 loc.toNat
      let acked := f.acked.find? (fun a => a.seq == seq.toNat && a.loc == loc.toNat)
      (acked = none → exec (.uncorrectableErrorAfterAck seq loc) s = .next (nestUpdate n (· ||| 0x400) u)) ∧
      (∀ a, acked = some a → exec (.uncorrectableErrorAfterAck seq loc) s = .next (nestUpdate n (· ||| 0x400)
        { u with dev := writeNat a.key a.n { u.dev with fabric := { f with acked := f.acked.filter (· != a) } } a.loc a.old })))

/-! ### The machine as a whole -/

/-- 01 R37, Table 01-6: what every control register with a reset value reads as at device reset. A value set at iteration
start stands at device reset too (log 16). Memory has its canonical form and lists nothing (log 4). -/
def Obligations.ResetState : Prop :=
  (∀ n ∈ [0x001, 0x002, 0x003, 0x010, 0x012, 0x015, 0x016, 0x017, 0x019, 0x01A, 0x01B, 0x01C, 0x01D, 0x031, 0x032, 0x033,
      0x038, 0x042, 0x043, 0x050, 0x060, 0x061, 0x062, 0x063, 0x064, 0x066, 0x100, 0x101, 0x102, 0x103, 0x104, 0x105, 0x106,
      0x107, 0x108, 0x109, 0x310, 0x312, 0x313, 0xC00, 0xC01], csrRead State.reset n = 0) ∧
  (∀ p ∈ [(0x011, (0xFF18 : Word)), (0x013, 512), (0x014, 16384), (0x018, 0xFFFFFFFF), (0x030, 3), (0x065, 1024),
      (0x083, 0x010000000000007F), (0x120, 0x120454CF), (0x121, 65536), (0x311, 0x200), (0x314, 0xFFFFFFFFFFFFFFFF),
      (0x315, 0x0000008000000000)], csrRead State.reset p.1 = p.2) ∧
  (csrRead State.reset 0x040).extractLsb' 1 31 = 2048#16 ++ 0#15 ∧
  State.reset.dev.clusters = Vector.replicate 32 Cluster.start ∧ Cluster.start.cols = 32 ∧ State.reset.dev.cur.held = [] ∧
  State.reset.memOk ∧ State.reset.dev.mem.cells = [] ∧ State.reset.dev.mem.full = [] ∧ State.reset.dev.mem.poison = [] ∧
  ∀ key loc, readByte State.reset.dev.mem key loc = 0

/-- 02 R45 to R54; 03 R64, R66, R70, R75; 09 R254; 21 R455; Tables 03-11, 09-4 and 21-4: words that the spec lists decode to the
instructions it lists them for, one of each instruction of the context-switch handler among them. -/
def Obligations.DecodedWords : Prop :=
  ∀ p ∈ ([(4, 0x01D285C0, .ld64 9 7 0 0 0), (4, 0x01D685C1, .ld64 11 7 1 0 0), (4, 0x28108982, .vsetty 8 5 0),
      (4, 0x02D08C40, .vld32 8 11 0 false 0), (4, 0x43108AC2, .vfmulVs 8 12 8 false 0), (4, 0x02D08D00, .vst32 8 11 0 false 0),
      (4, 0x129C8080, .slli 14 10 2 0), (4, 0x72D68040, .add 11 11 14 0), (4, 0xFA5584F4, .sbnz 9 10 0xFF4 0),
      (2, 0x5400, .cKend), (4, 0x000A8884, .fenceacq 4 1 0), (4, 0x83108B04, .vfmaccVs 8 12 16 false 0),
        (8, 0x0000051FE311C040, .ldi 17 0x28FF18 0),
      (4, 0x17FE88C8, .csrrw 31 31 0x108 0), (4, 0x07FC86DE, .st64 30 31 30 0 0), (4, 0x103C8901, .csrrs 30 0 0x101 0),
      (4, 0x003A80F0, .addi 29 0 0x30 0), (4, 0x07BA834A, .beq 30 29 0xA 0), (4, 0x07FC85E6, .ld64 30 31 38 0 0),
      (4, 0x07808300, .jalr 0 30 0 0), (8, 0x0000001FE363C040, .ldi 3 0xFF1B 0), (4, 0x00C08981, .vsetvt 0 3 0),
      (4, 0x00068241, .movhi 3 1 0), (4, 0x00C08980, .vsetl 0 3 0), (4, 0xF9088040, .add 4 4 31 0),
      (4, 0x088D813F, .andi 6 2 0xFF 0), (4, 0x01008D00, .vst32 0 4 0 false 0), (4, 0x408C8081, .srli 6 2 8 0),
      (4, 0x001C8881, .vdrain 1 2 0), (8, 0x0413C0001BE0C083, .srel 6 31 39 3 2 0 0),
      (8, 0x003FC00003FFC083, .lacq 31 31 127 3 2 0 0), (4, 0x000087C1, .tret 0), (4, 0x70888080, .slli 4 2 14 0),
      (4, 0x094A8046, .sll 5 5 1 0), (8, 0xFFE000000003C040, .ldi 3 0x7FF00000000 0), (4, 0xF8C381BF, .xori 1 3 0xFFF 0),
      (4, 0x01308C40, .vld32 24 4 0 false 0), (4, 0x0FBC8043, .or 30 30 1 0), (4, 0x000082DE, .jal 0 0x1E 0),
      (4, 0x01408957, .csrrc 0 5 0x017 0)] : List (Nat × Nat × Instr)),
    decode (leBytes p.1 p.2.1) = .ok (p.2.2, p.1)

/-- 02 R43, R44, R59; 10 R261; 12 R307; 20 R430; 22 R464 (the order of agents within a cycle is the model's choice, log 1, 11, and so
is how long a load's result is waited for, log 6): a step of a core that has nothing before its next instruction lets its vector
unit move and a fork be made, and then, where the bytes at the pc decode, runs the instruction they decode to, with the engine
operations of its thread resumed; a reserved encoding raises ILLEGAL, and a fetch that fails its own cause. With an empty queue the
vector unit changes nothing; a lone entry runs as far as it can unless the scalar unit is ahead. -/
def Obligations.StepRunsDecoded : Prop :=
  ∀ (s : State),
    let s0 := leadCopied (drainOld s)
    let v0 := vecPhase s0
    let t0 := leadFork (leadPassed v0)
    let s1 := resumeOps t0
    let follow (taken : Bool) (t : State) : State :=
      if t.core.th.din = t0.core.th.din + 1 then leadReconcile t0.core.th.din taken t else t
    let waits (i : Instr) (t : State) : State :=
      if (leadAct i).any (fun a => a.kind == .load || a.kind == .acq) then
        { t with core := { t.core with ready := t.core.ready + Config.loadTime t.free % 4096 }, free := t.free + 1 }
      else t
    s.agenda = [] → devMove s = none → s.core.run ≠ .idle → boundary s = none →
      ((headEntry s0).isSome = true → vecMoved s0 t0 = true → step s = .next (passTurn ((renewAhead t0).tick 1))) ∧
      ((headEntry s0).isNone = true → v0 = s0) ∧
      ((headEntry s0).isSome = true → s0.core.ahead = 0 → s0.core.th.viq.length = s0.core.th.held + 1 → v0 = vecRun s0) ∧
      ((headEntry s0).isNone = true ∨ vecMoved s0 t0 = false →
        (issueBlocked t0 = true → step s = .next (passTurn (stall t0))) ∧
        (issueBlocked t0 = false →
          (∀ s2 bs i n, fetchBytes s1.core.level s1 s1.core.th.pc = (s2, .ok bs) → decode bs = .ok (i, n) →
            ∃ t : State, exec i s2 = .next t ∧ step s = .next (passTurn (waits i (follow (branchTaken i s2) t)))) ∧
          (∀ s2 bs e, fetchBytes s1.core.level s1 s1.core.th.pc = (s2, .ok bs) → decode bs = .error e →
            step s = .next (passTurn (trap .illegal 0 s2))) ∧
          (∀ s2 c v, fetchBytes s1.core.level s1 s1.core.th.pc = (s2, .error (c, v)) →
            step s = .next (passTurn (trap c v s2)))))

/-- 02 R45 to R54, R59; 03 R64, R66: every instruction whose fields have an encoding decodes from its bytes, with every operand
and the bytes' length; a field with a reserved value makes the bytes a reserved encoding. -/
def Obligations.DecodeEncode : Prop :=
  ∀ (i : Instr) (bs : List Byte), encode i = some bs →
    (i.wf = true → decode bs = .ok (i, bs.length)) ∧ (i.wf = false → decode bs = .error .reserved)

/-- 20 R429 to R433: nothing stops this machine. Every instruction and every device event has an effect in every state, and
every state has a next one. -/
def Obligations.NothingStops : Prop :=
  (∀ i s, ∃ t : State, exec i s = .next t) ∧ (∀ s : State, ¬ s.stops)

/-- 17 R381, R396; 07 R196; 20 R439 (the form is the model's, log 4): every step keeps the memory in its canonical form,
cells, full words, poison units and sector keys strictly rising and no cell equal to what an unlisted location reads as. -/
def Obligations.MemoryStaysCanonical : Prop :=
  ∀ (s t : State), s.memOk → step s = .next t → t.memOk
end

