-- ==== Sys2Proof/Laws/Decode.lean ====
section
/-! SUPPORT. Words and their fields: the bytes of a word give the word back, a word made of fields has those fields, and
`decode` of a word's bytes is what its length's decoder reads (02 R43, R45, R48, R53). -/

namespace Sys2Proof

/-! ### Bytes -/

@[simp] theorem length_leBytes : ∀ n v, (leBytes n v).length = n
  | 0, _ => rfl
  | n + 1, v => by simp [leBytes, length_leBytes n]

theorem leNat_leBytes : ∀ n v, leNat (leBytes n v) = v % 256 ^ n
  | 0, v => by simp [leBytes, leNat, Nat.mod_one]
  | n + 1, v => by
    rw [leBytes, leNat, leNat_leBytes n, Nat.pow_succ, Nat.mul_comm (256 ^ n) 256, Nat.mod_mul, BitVec.toNat_ofNat]

theorem take_leBytes : ∀ k n v, k ≤ n → (leBytes n v).take k = leBytes k v
  | 0, _, _, _ => rfl
  | k + 1, n + 1, v, h => by simp [leBytes, take_leBytes k n (v / 256) (by omega)]

/-! ### Decoding by length -/

theorem decode_two (v : Nat) (h : (BitVec.ofNat 16 v).getLsbD 15 = false) :
    decode (leBytes 2 v) = match decode16 (BitVec.ofNat 16 v) with
      | some i => .ok (i, 2)
      | none => .error .reserved := by
  have e : BitVec.ofNat 16 (v % 256 ^ 2) = BitVec.ofNat 16 v := by apply BitVec.eq_of_toNat_eq; simp
  simp only [decode, length_leBytes, take_leBytes 2 2 v (by omega), leNat_leBytes, e]
  have hn : parcelLength (BitVec.ofNat 16 v) = 2 := by unfold parcelLength; rw [h]; rfl
  rw [hn]; rfl

theorem decode_four (v : Nat) (h : (BitVec.ofNat 16 v).getLsbD 15 = true) (h' : (BitVec.ofNat 16 v).getLsbD 14 = false) :
    decode (leBytes 4 v) = match decode32 (BitVec.ofNat 32 v) with
      | some i => .ok (i, 4)
      | none => .error .reserved := by
  have e : BitVec.ofNat 16 (v % 256 ^ 2) = BitVec.ofNat 16 v := by apply BitVec.eq_of_toNat_eq; simp
  have e' : BitVec.ofNat 32 (v % 256 ^ 4) = BitVec.ofNat 32 v := by apply BitVec.eq_of_toNat_eq; simp
  simp only [decode, length_leBytes, take_leBytes 2 4 v (by omega), take_leBytes 4 4 v (by omega), leNat_leBytes, e, e']
  have hn : parcelLength (BitVec.ofNat 16 v) = 4 := by unfold parcelLength; rw [h, h']; rfl
  rw [hn]; rfl

theorem decode_eight (v : Nat) (h : (BitVec.ofNat 16 v).getLsbD 15 = true) (h' : (BitVec.ofNat 16 v).getLsbD 14 = true) :
    decode (leBytes 8 v) = match decode64 (BitVec.ofNat 64 v) with
      | some i => .ok (i, 8)
      | none => .error .reserved := by
  have e : BitVec.ofNat 16 (v % 256 ^ 2) = BitVec.ofNat 16 v := by apply BitVec.eq_of_toNat_eq; simp
  have e' : BitVec.ofNat 64 (v % 256 ^ 8) = BitVec.ofNat 64 v := by apply BitVec.eq_of_toNat_eq; simp
  simp only [decode, length_leBytes, take_leBytes 2 8 v (by omega), take_leBytes 8 8 v (by omega), leNat_leBytes, e, e']
  have hn : parcelLength (BitVec.ofNat 16 v) = 8 := by unfold parcelLength; rw [h, h']; rfl
  rw [hn]; rfl

/-! ### Fields of a word made of fields -/

section
variable (f31 f26 f21 : BitVec 5) (f16 : BitVec 1) (st : BitVec 2) (op lo : BitVec 6)

@[simp] theorem wF31_mk32 : wF31 (mk32 f31 f26 f21 f16 st op lo) = f31 := by
  apply BitVec.eq_of_getLsbD_eq; intro i hi
  simp only [wF31, BitVec.getLsbD_extractLsb', hi, decide_true, Bool.true_and]
  change BitVec.getLsbD (w := 5 + 5 + 5 + 1 + 2 + 2 + 6 + 6) (f31 ++ f26 ++ f21 ++ f16 ++ 2#2 ++ st ++ op ++ lo) (27 + i) = _
  rw [BitVec.getLsbD_append, if_neg (by omega), BitVec.getLsbD_append, if_neg (by omega), BitVec.getLsbD_append,
    if_neg (by omega), BitVec.getLsbD_append, if_neg (by omega), BitVec.getLsbD_append, if_neg (by omega),
    BitVec.getLsbD_append, if_neg (by omega), BitVec.getLsbD_append, if_neg (by omega)]
  congr 1; omega

@[simp] theorem wF26_mk32 : wF26 (mk32 f31 f26 f21 f16 st op lo) = f26 := by
  apply BitVec.eq_of_getLsbD_eq; intro i hi
  simp only [wF26, BitVec.getLsbD_extractLsb', hi, decide_true, Bool.true_and]
  change BitVec.getLsbD (w := 5 + 5 + 5 + 1 + 2 + 2 + 6 + 6) (f31 ++ f26 ++ f21 ++ f16 ++ 2#2 ++ st ++ op ++ lo) (22 + i) = _
  rw [BitVec.getLsbD_append, if_neg (by omega), BitVec.getLsbD_append, if_neg (by omega), BitVec.getLsbD_append,
    if_neg (by omega), BitVec.getLsbD_append, if_neg (by omega), BitVec.getLsbD_append, if_neg (by omega),
    BitVec.getLsbD_append, if_neg (by omega), BitVec.getLsbD_append, if_pos (by omega)]
  congr 1; omega

@[simp] theorem wF21_mk32 : wF21 (mk32 f31 f26 f21 f16 st op lo) = f21 := by
  apply BitVec.eq_of_getLsbD_eq; intro i hi
  simp only [wF21, BitVec.getLsbD_extractLsb', hi, decide_true, Bool.true_and]
  change BitVec.getLsbD (w := 5 + 5 + 5 + 1 + 2 + 2 + 6 + 6) (f31 ++ f26 ++ f21 ++ f16 ++ 2#2 ++ st ++ op ++ lo) (17 + i) = _
  rw [BitVec.getLsbD_append, if_neg (by omega), BitVec.getLsbD_append, if_neg (by omega), BitVec.getLsbD_append,
    if_neg (by omega), BitVec.getLsbD_append, if_neg (by omega), BitVec.getLsbD_append, if_neg (by omega),
    BitVec.getLsbD_append, if_pos (by omega)]
  congr 1; omega

@[simp] theorem wF16_mk32 : wF16 (mk32 f31 f26 f21 f16 st op lo) = f16 := by
  apply BitVec.eq_of_getLsbD_eq; intro i hi
  simp only [wF16, BitVec.getLsbD_extractLsb', hi, decide_true, Bool.true_and]
  change BitVec.getLsbD (w := 5 + 5 + 5 + 1 + 2 + 2 + 6 + 6) (f31 ++ f26 ++ f21 ++ f16 ++ 2#2 ++ st ++ op ++ lo) (16 + i) = _
  rw [BitVec.getLsbD_append, if_neg (by omega), BitVec.getLsbD_append, if_neg (by omega), BitVec.getLsbD_append,
    if_neg (by omega), BitVec.getLsbD_append, if_neg (by omega), BitVec.getLsbD_append, if_pos (by omega)]
  congr 1; omega

@[simp] theorem wSt_mk32 : wSt (mk32 f31 f26 f21 f16 st op lo) = st := by
  apply BitVec.eq_of_getLsbD_eq; intro i hi
  simp only [wSt, BitVec.getLsbD_extractLsb', hi, decide_true, Bool.true_and]
  change BitVec.getLsbD (w := 5 + 5 + 5 + 1 + 2 + 2 + 6 + 6) (f31 ++ f26 ++ f21 ++ f16 ++ 2#2 ++ st ++ op ++ lo) (12 + i) = _
  rw [BitVec.getLsbD_append, if_neg (by omega), BitVec.getLsbD_append, if_neg (by omega), BitVec.getLsbD_append,
    if_pos (by omega)]
  congr 1; omega

@[simp] theorem wOp_mk32 : wOp (mk32 f31 f26 f21 f16 st op lo) = op := by
  apply BitVec.eq_of_getLsbD_eq; intro i hi
  simp only [wOp, BitVec.getLsbD_extractLsb', hi, decide_true, Bool.true_and]
  change BitVec.getLsbD (w := 5 + 5 + 5 + 1 + 2 + 2 + 6 + 6) (f31 ++ f26 ++ f21 ++ f16 ++ 2#2 ++ st ++ op ++ lo) (6 + i) = _
  rw [BitVec.getLsbD_append, if_neg (by omega), BitVec.getLsbD_append, if_pos (by omega)]
  congr 1; omega

@[simp] theorem wLo_mk32 : wLo (mk32 f31 f26 f21 f16 st op lo) = lo := by
  apply BitVec.eq_of_getLsbD_eq; intro i hi
  simp only [wLo, BitVec.getLsbD_extractLsb', hi, decide_true, Bool.true_and]
  change BitVec.getLsbD (w := 5 + 5 + 5 + 1 + 2 + 2 + 6 + 6) (f31 ++ f26 ++ f21 ++ f16 ++ 2#2 ++ st ++ op ++ lo) (0 + i) = _
  rw [BitVec.getLsbD_append, if_pos (by omega)]
  congr 1; omega

theorem mk32_bit15 : (mk32 f31 f26 f21 f16 st op lo).getLsbD 15 = true := by
  change BitVec.getLsbD (w := 5 + 5 + 5 + 1 + 2 + 2 + 6 + 6) (f31 ++ f26 ++ f21 ++ f16 ++ 2#2 ++ st ++ op ++ lo) 15 = _
  rw [BitVec.getLsbD_append, if_neg (by omega), BitVec.getLsbD_append, if_neg (by omega), BitVec.getLsbD_append,
    if_neg (by omega), BitVec.getLsbD_append, if_pos (by omega)]; rfl

theorem mk32_bit14 : (mk32 f31 f26 f21 f16 st op lo).getLsbD 14 = false := by
  change BitVec.getLsbD (w := 5 + 5 + 5 + 1 + 2 + 2 + 6 + 6) (f31 ++ f26 ++ f21 ++ f16 ++ 2#2 ++ st ++ op ++ lo) 14 = _
  rw [BitVec.getLsbD_append, if_neg (by omega), BitVec.getLsbD_append, if_neg (by omega), BitVec.getLsbD_append,
    if_neg (by omega), BitVec.getLsbD_append, if_pos (by omega)]; rfl

theorem decode_mk32 : decode (leBytes 4 (mk32 f31 f26 f21 f16 st op lo).toNat) = match decode32 (mk32 f31 f26 f21 f16 st op lo) with
    | some i => .ok (i, 4)
    | none => .error .reserved := by
  have low : ∀ k < 16, (BitVec.ofNat 16 (mk32 f31 f26 f21 f16 st op lo).toNat).getLsbD k = (mk32 f31 f26 f21 f16 st op lo).getLsbD k := fun k hk => by
    rw [BitVec.ofNat_toNat, BitVec.getLsbD_setWidth]; simp [hk]
  rw [decode_four _ (by rw [low _ (by omega)]; exact mk32_bit15 f31 f26 f21 f16 st op lo) (by rw [low _ (by omega)]; exact mk32_bit14 f31 f26 f21 f16 st op lo),
    BitVec.ofNat_toNat, BitVec.setWidth_eq]

end

section
variable (op a b : BitVec 5)

@[simp] theorem cOp_mk16 : cOp (mk16 op a b) = op := by
  apply BitVec.eq_of_getLsbD_eq; intro i hi
  simp only [cOp, BitVec.getLsbD_extractLsb', hi, decide_true, Bool.true_and]
  change BitVec.getLsbD (w := 1 + 5 + 5 + 5) (0#1 ++ op ++ a ++ b) (10 + i) = _
  rw [BitVec.getLsbD_append, if_neg (by omega), BitVec.getLsbD_append, if_neg (by omega), BitVec.getLsbD_append,
    if_pos (by omega)]
  congr 1; omega

@[simp] theorem cA_mk16 : cA (mk16 op a b) = a := by
  apply BitVec.eq_of_getLsbD_eq; intro i hi
  simp only [cA, BitVec.getLsbD_extractLsb', hi, decide_true, Bool.true_and]
  change BitVec.getLsbD (w := 1 + 5 + 5 + 5) (0#1 ++ op ++ a ++ b) (5 + i) = _
  rw [BitVec.getLsbD_append, if_neg (by omega), BitVec.getLsbD_append, if_pos (by omega)]
  congr 1; omega

@[simp] theorem cB_mk16 : cB (mk16 op a b) = b := by
  apply BitVec.eq_of_getLsbD_eq; intro i hi
  simp only [cB, BitVec.getLsbD_extractLsb', hi, decide_true, Bool.true_and]
  change BitVec.getLsbD (w := 1 + 5 + 5 + 5) (0#1 ++ op ++ a ++ b) (0 + i) = _
  rw [BitVec.getLsbD_append, if_pos (by omega)]
  congr 1; omega

theorem mk16_bit15 : (mk16 op a b).getLsbD 15 = false := by
  change BitVec.getLsbD (w := 1 + 5 + 5 + 5) (0#1 ++ op ++ a ++ b) 15 = _
  rw [BitVec.getLsbD_append, if_neg (by omega), BitVec.getLsbD_append, if_neg (by omega), BitVec.getLsbD_append,
    if_neg (by omega)]; rfl

theorem decode_mk16 : decode (leBytes 2 (mk16 op a b).toNat) = match decode16 (mk16 op a b) with
    | some i => .ok (i, 2)
    | none => .error .reserved := by
  have low : ∀ k < 16, (BitVec.ofNat 16 (mk16 op a b).toNat).getLsbD k = (mk16 op a b).getLsbD k := fun k hk => by
    rw [BitVec.ofNat_toNat, BitVec.getLsbD_setWidth]; simp [hk]
  rw [decode_two _ (by rw [low _ (by omega)]; exact mk16_bit15 op a b), BitVec.ofNat_toNat, BitVec.setWidth_eq]

end

section
variable (f6 : BitVec 6) (imm : BitVec 11) (scope : BitVec 2) (cls : BitVec 4) (me : BitVec 1) (mi : BitVec 4)
  (e b a d : BitVec 5) (st : BitVec 2) (maj aux : BitVec 6)

@[simp] theorem xF6_mk64 : xF6 (mk64 f6 imm scope cls me mi e b a d st maj aux) = f6 := by
  apply BitVec.eq_of_getLsbD_eq; intro i hi
  simp only [xF6, BitVec.getLsbD_extractLsb', hi, decide_true, Bool.true_and]
  change BitVec.getLsbD (w := 6 + 11 + 2 + 4 + 1 + 4 + 5 + 5 + 5 + 5 + 2 + 2 + 6 + 6)
    (f6 ++ imm ++ scope ++ cls ++ me ++ mi ++ e ++ b ++ a ++ d ++ 3#2 ++ st ++ maj ++ aux) (58 + i) = _
  rw [BitVec.getLsbD_append, if_neg (by omega), BitVec.getLsbD_append, if_neg (by omega), BitVec.getLsbD_append,
    if_neg (by omega), BitVec.getLsbD_append, if_neg (by omega), BitVec.getLsbD_append, if_neg (by omega),
    BitVec.getLsbD_append, if_neg (by omega), BitVec.getLsbD_append, if_neg (by omega), BitVec.getLsbD_append,
    if_neg (by omega), BitVec.getLsbD_append, if_neg (by omega), BitVec.getLsbD_append, if_neg (by omega),
    BitVec.getLsbD_append, if_neg (by omega), BitVec.getLsbD_append, if_neg (by omega), BitVec.getLsbD_append,
    if_neg (by omega)]
  congr 1; omega

@[simp] theorem xImm_mk64 : xImm (mk64 f6 imm scope cls me mi e b a d st maj aux) = imm := by
  apply BitVec.eq_of_getLsbD_eq; intro i hi
  simp only [xImm, BitVec.getLsbD_extractLsb', hi, decide_true, Bool.true_and]
  change BitVec.getLsbD (w := 6 + 11 + 2 + 4 + 1 + 4 + 5 + 5 + 5 + 5 + 2 + 2 + 6 + 6)
    (f6 ++ imm ++ scope ++ cls ++ me ++ mi ++ e ++ b ++ a ++ d ++ 3#2 ++ st ++ maj ++ aux) (47 + i) = _
  rw [BitVec.getLsbD_append, if_neg (by omega), BitVec.getLsbD_append, if_neg (by omega), BitVec.getLsbD_append,
    if_neg (by omega), BitVec.getLsbD_append, if_neg (by omega), BitVec.getLsbD_append, if_neg (by omega),
    BitVec.getLsbD_append, if_neg (by omega), BitVec.getLsbD_append, if_neg (by omega), BitVec.getLsbD_append,
    if_neg (by omega), BitVec.getLsbD_append, if_neg (by omega), BitVec.getLsbD_append, if_neg (by omega),
    BitVec.getLsbD_append, if_neg (by omega), BitVec.getLsbD_append, if_neg (by omega), BitVec.getLsbD_append,
    if_pos (by omega)]
  congr 1; omega

@[simp] theorem xScope_mk64 : xScope (mk64 f6 imm scope cls me mi e b a d st maj aux) = scope := by
  apply BitVec.eq_of_getLsbD_eq; intro i hi
  simp only [xScope, BitVec.getLsbD_extractLsb', hi, decide_true, Bool.true_and]
  change BitVec.getLsbD (w := 6 + 11 + 2 + 4 + 1 + 4 + 5 + 5 + 5 + 5 + 2 + 2 + 6 + 6)
    (f6 ++ imm ++ scope ++ cls ++ me ++ mi ++ e ++ b ++ a ++ d ++ 3#2 ++ st ++ maj ++ aux) (45 + i) = _
  rw [BitVec.getLsbD_append, if_neg (by omega), BitVec.getLsbD_append, if_neg (by omega), BitVec.getLsbD_append,
    if_neg (by omega), BitVec.getLsbD_append, if_neg (by omega), BitVec.getLsbD_append, if_neg (by omega),
    BitVec.getLsbD_append, if_neg (by omega), BitVec.getLsbD_append, if_neg (by omega), BitVec.getLsbD_append,
    if_neg (by omega), BitVec.getLsbD_append, if_neg (by omega), BitVec.getLsbD_append, if_neg (by omega),
    BitVec.getLsbD_append, if_neg (by omega), BitVec.getLsbD_append, if_pos (by omega)]
  congr 1; omega

@[simp] theorem xCls_mk64 : xCls (mk64 f6 imm scope cls me mi e b a d st maj aux) = cls := by
  apply BitVec.eq_of_getLsbD_eq; intro i hi
  simp only [xCls, BitVec.getLsbD_extractLsb', hi, decide_true, Bool.true_and]
  change BitVec.getLsbD (w := 6 + 11 + 2 + 4 + 1 + 4 + 5 + 5 + 5 + 5 + 2 + 2 + 6 + 6)
    (f6 ++ imm ++ scope ++ cls ++ me ++ mi ++ e ++ b ++ a ++ d ++ 3#2 ++ st ++ maj ++ aux) (41 + i) = _
  rw [BitVec.getLsbD_append, if_neg (by omega), BitVec.getLsbD_append, if_neg (by omega), BitVec.getLsbD_append,
    if_neg (by omega), BitVec.getLsbD_append, if_neg (by omega), BitVec.getLsbD_append, if_neg (by omega),
    BitVec.getLsbD_append, if_neg (by omega), BitVec.getLsbD_append, if_neg (by omega), BitVec.getLsbD_append,
    if_neg (by omega), BitVec.getLsbD_append, if_neg (by omega), BitVec.getLsbD_append, if_neg (by omega),
    BitVec.getLsbD_append, if_pos (by omega)]
  congr 1; omega

@[simp] theorem xMi_mk64 : xMi (mk64 f6 imm scope cls me mi e b a d st maj aux) = mi := by
  apply BitVec.eq_of_getLsbD_eq; intro i hi
  simp only [xMi, BitVec.getLsbD_extractLsb', hi, decide_true, Bool.true_and]
  change BitVec.getLsbD (w := 6 + 11 + 2 + 4 + 1 + 4 + 5 + 5 + 5 + 5 + 2 + 2 + 6 + 6)
    (f6 ++ imm ++ scope ++ cls ++ me ++ mi ++ e ++ b ++ a ++ d ++ 3#2 ++ st ++ maj ++ aux) (36 + i) = _
  rw [BitVec.getLsbD_append, if_neg (by omega), BitVec.getLsbD_append, if_neg (by omega), BitVec.getLsbD_append,
    if_neg (by omega), BitVec.getLsbD_append, if_neg (by omega), BitVec.getLsbD_append, if_neg (by omega),
    BitVec.getLsbD_append, if_neg (by omega), BitVec.getLsbD_append, if_neg (by omega), BitVec.getLsbD_append,
    if_neg (by omega), BitVec.getLsbD_append, if_pos (by omega)]
  congr 1; omega

@[simp] theorem xE_mk64 : xE (mk64 f6 imm scope cls me mi e b a d st maj aux) = e := by
  apply BitVec.eq_of_getLsbD_eq; intro i hi
  simp only [xE, BitVec.getLsbD_extractLsb', hi, decide_true, Bool.true_and]
  change BitVec.getLsbD (w := 6 + 11 + 2 + 4 + 1 + 4 + 5 + 5 + 5 + 5 + 2 + 2 + 6 + 6)
    (f6 ++ imm ++ scope ++ cls ++ me ++ mi ++ e ++ b ++ a ++ d ++ 3#2 ++ st ++ maj ++ aux) (31 + i) = _
  rw [BitVec.getLsbD_append, if_neg (by omega), BitVec.getLsbD_append, if_neg (by omega), BitVec.getLsbD_append,
    if_neg (by omega), BitVec.getLsbD_append, if_neg (by omega), BitVec.getLsbD_append, if_neg (by omega),
    BitVec.getLsbD_append, if_neg (by omega), BitVec.getLsbD_append, if_neg (by omega), BitVec.getLsbD_append,
    if_pos (by omega)]
  congr 1; omega

@[simp] theorem xB_mk64 : xB (mk64 f6 imm scope cls me mi e b a d st maj aux) = b := by
  apply BitVec.eq_of_getLsbD_eq; intro i hi
  simp only [xB, BitVec.getLsbD_extractLsb', hi, decide_true, Bool.true_and]
  change BitVec.getLsbD (w := 6 + 11 + 2 + 4 + 1 + 4 + 5 + 5 + 5 + 5 + 2 + 2 + 6 + 6)
    (f6 ++ imm ++ scope ++ cls ++ me ++ mi ++ e ++ b ++ a ++ d ++ 3#2 ++ st ++ maj ++ aux) (26 + i) = _
  rw [BitVec.getLsbD_append, if_neg (by omega), BitVec.getLsbD_append, if_neg (by omega), BitVec.getLsbD_append,
    if_neg (by omega), BitVec.getLsbD_append, if_neg (by omega), BitVec.getLsbD_append, if_neg (by omega),
    BitVec.getLsbD_append, if_neg (by omega), BitVec.getLsbD_append, if_pos (by omega)]
  congr 1; omega

@[simp] theorem xA_mk64 : xA (mk64 f6 imm scope cls me mi e b a d st maj aux) = a := by
  apply BitVec.eq_of_getLsbD_eq; intro i hi
  simp only [xA, BitVec.getLsbD_extractLsb', hi, decide_true, Bool.true_and]
  change BitVec.getLsbD (w := 6 + 11 + 2 + 4 + 1 + 4 + 5 + 5 + 5 + 5 + 2 + 2 + 6 + 6)
    (f6 ++ imm ++ scope ++ cls ++ me ++ mi ++ e ++ b ++ a ++ d ++ 3#2 ++ st ++ maj ++ aux) (21 + i) = _
  rw [BitVec.getLsbD_append, if_neg (by omega), BitVec.getLsbD_append, if_neg (by omega), BitVec.getLsbD_append,
    if_neg (by omega), BitVec.getLsbD_append, if_neg (by omega), BitVec.getLsbD_append, if_neg (by omega),
    BitVec.getLsbD_append, if_pos (by omega)]
  congr 1; omega

@[simp] theorem xD_mk64 : xD (mk64 f6 imm scope cls me mi e b a d st maj aux) = d := by
  apply BitVec.eq_of_getLsbD_eq; intro i hi
  simp only [xD, BitVec.getLsbD_extractLsb', hi, decide_true, Bool.true_and]
  change BitVec.getLsbD (w := 6 + 11 + 2 + 4 + 1 + 4 + 5 + 5 + 5 + 5 + 2 + 2 + 6 + 6)
    (f6 ++ imm ++ scope ++ cls ++ me ++ mi ++ e ++ b ++ a ++ d ++ 3#2 ++ st ++ maj ++ aux) (16 + i) = _
  rw [BitVec.getLsbD_append, if_neg (by omega), BitVec.getLsbD_append, if_neg (by omega), BitVec.getLsbD_append,
    if_neg (by omega), BitVec.getLsbD_append, if_neg (by omega), BitVec.getLsbD_append, if_pos (by omega)]
  congr 1; omega

@[simp] theorem xSt_mk64 : xSt (mk64 f6 imm scope cls me mi e b a d st maj aux) = st := by
  apply BitVec.eq_of_getLsbD_eq; intro i hi
  simp only [xSt, BitVec.getLsbD_extractLsb', hi, decide_true, Bool.true_and]
  change BitVec.getLsbD (w := 6 + 11 + 2 + 4 + 1 + 4 + 5 + 5 + 5 + 5 + 2 + 2 + 6 + 6)
    (f6 ++ imm ++ scope ++ cls ++ me ++ mi ++ e ++ b ++ a ++ d ++ 3#2 ++ st ++ maj ++ aux) (12 + i) = _
  rw [BitVec.getLsbD_append, if_neg (by omega), BitVec.getLsbD_append, if_neg (by omega), BitVec.getLsbD_append,
    if_pos (by omega)]
  congr 1; omega

@[simp] theorem xMaj_mk64 : xMaj (mk64 f6 imm scope cls me mi e b a d st maj aux) = maj := by
  apply BitVec.eq_of_getLsbD_eq; intro i hi
  simp only [xMaj, BitVec.getLsbD_extractLsb', hi, decide_true, Bool.true_and]
  change BitVec.getLsbD (w := 6 + 11 + 2 + 4 + 1 + 4 + 5 + 5 + 5 + 5 + 2 + 2 + 6 + 6)
    (f6 ++ imm ++ scope ++ cls ++ me ++ mi ++ e ++ b ++ a ++ d ++ 3#2 ++ st ++ maj ++ aux) (6 + i) = _
  rw [BitVec.getLsbD_append, if_neg (by omega), BitVec.getLsbD_append, if_pos (by omega)]
  congr 1; omega

@[simp] theorem xAux_mk64 : xAux (mk64 f6 imm scope cls me mi e b a d st maj aux) = aux := by
  apply BitVec.eq_of_getLsbD_eq; intro i hi
  simp only [xAux, BitVec.getLsbD_extractLsb', hi, decide_true, Bool.true_and]
  change BitVec.getLsbD (w := 6 + 11 + 2 + 4 + 1 + 4 + 5 + 5 + 5 + 5 + 2 + 2 + 6 + 6)
    (f6 ++ imm ++ scope ++ cls ++ me ++ mi ++ e ++ b ++ a ++ d ++ 3#2 ++ st ++ maj ++ aux) (0 + i) = _
  rw [BitVec.getLsbD_append, if_pos (by omega)]
  congr 1; omega

@[simp] theorem xMe_mk64 : xMe (mk64 f6 imm scope cls me mi e b a d st maj aux) = (me == 1#1) := by
  have : (mk64 f6 imm scope cls me mi e b a d st maj aux).extractLsb' 40 1 = me := by
    apply BitVec.eq_of_getLsbD_eq; intro i hi
    simp only [BitVec.getLsbD_extractLsb', hi, decide_true, Bool.true_and]
    change BitVec.getLsbD (w := 6 + 11 + 2 + 4 + 1 + 4 + 5 + 5 + 5 + 5 + 2 + 2 + 6 + 6)
      (f6 ++ imm ++ scope ++ cls ++ me ++ mi ++ e ++ b ++ a ++ d ++ 3#2 ++ st ++ maj ++ aux) (40 + i) = _
    rw [BitVec.getLsbD_append, if_neg (by omega), BitVec.getLsbD_append, if_neg (by omega), BitVec.getLsbD_append,
      if_neg (by omega), BitVec.getLsbD_append, if_neg (by omega), BitVec.getLsbD_append, if_neg (by omega),
      BitVec.getLsbD_append, if_neg (by omega), BitVec.getLsbD_append, if_neg (by omega), BitVec.getLsbD_append,
      if_neg (by omega), BitVec.getLsbD_append, if_neg (by omega), BitVec.getLsbD_append, if_pos (by omega)]
    congr 1; omega
  simp [xMe, this]

theorem mk64_bit15 : (mk64 f6 imm scope cls me mi e b a d st maj aux).getLsbD 15 = true := by
  change BitVec.getLsbD (w := 6 + 11 + 2 + 4 + 1 + 4 + 5 + 5 + 5 + 5 + 2 + 2 + 6 + 6)
    (f6 ++ imm ++ scope ++ cls ++ me ++ mi ++ e ++ b ++ a ++ d ++ 3#2 ++ st ++ maj ++ aux) 15 = _
  rw [BitVec.getLsbD_append, if_neg (by omega), BitVec.getLsbD_append, if_neg (by omega), BitVec.getLsbD_append,
    if_neg (by omega), BitVec.getLsbD_append, if_pos (by omega)]; rfl

theorem mk64_bit14 : (mk64 f6 imm scope cls me mi e b a d st maj aux).getLsbD 14 = true := by
  change BitVec.getLsbD (w := 6 + 11 + 2 + 4 + 1 + 4 + 5 + 5 + 5 + 5 + 2 + 2 + 6 + 6)
    (f6 ++ imm ++ scope ++ cls ++ me ++ mi ++ e ++ b ++ a ++ d ++ 3#2 ++ st ++ maj ++ aux) 14 = _
  rw [BitVec.getLsbD_append, if_neg (by omega), BitVec.getLsbD_append, if_neg (by omega), BitVec.getLsbD_append,
    if_neg (by omega), BitVec.getLsbD_append, if_pos (by omega)]; rfl

theorem decode_mk64 : decode (leBytes 8 (mk64 f6 imm scope cls me mi e b a d st maj aux).toNat) = match decode64 (mk64 f6 imm scope cls me mi e b a d st maj aux) with
    | some i => .ok (i, 8)
    | none => .error .reserved := by
  have low : ∀ k < 16, (BitVec.ofNat 16 (mk64 f6 imm scope cls me mi e b a d st maj aux).toNat).getLsbD k = (mk64 f6 imm scope cls me mi e b a d st maj aux).getLsbD k := fun k hk => by
    rw [BitVec.ofNat_toNat, BitVec.getLsbD_setWidth]; simp [hk]
  rw [decode_eight _ (by rw [low _ (by omega)]; exact mk64_bit15 f6 imm scope cls me mi e b a d st maj aux) (by rw [low _ (by omega)]; exact mk64_bit14 f6 imm scope cls me mi e b a d st maj aux),
    BitVec.ofNat_toNat, BitVec.setWidth_eq]

end

/-! ### Fields joined and taken apart -/

/-- Neighbouring fields of a value put back together. -/
theorem join {n : Nat} (x : BitVec n) (lo a b : Nat) :
    x.extractLsb' (lo + a) b ++ x.extractLsb' lo a = x.extractLsb' lo (b + a) := by
  apply BitVec.eq_of_getLsbD_eq; intro i hi
  rw [BitVec.getLsbD_append]
  simp only [BitVec.getLsbD_extractLsb']
  by_cases h : i < a
  · rw [if_pos h]; simp [h, hi]
  · rw [if_neg h, show lo + a + (i - a) = lo + i by omega]
    simp [hi, show i - a < b by omega]

@[simp] theorem join_imm12 (x : BitVec 12) : x.extractLsb' 7 5 ++ x.extractLsb' 6 1 ++ x.extractLsb' 0 6 = x := by
  have h1 := join x 6 1 5
  have h2 := join x 0 6 6
  simp only [Nat.zero_add, Nat.reduceAdd] at h1 h2
  exact (congrArg (fun (y : BitVec 6) => y ++ x.extractLsb' 0 6) h1).trans (h2.trans (BitVec.extractLsb'_eq_self))

@[simp] theorem join_imm17 (x : BitVec 17) :
    x.extractLsb' 12 5 ++ x.extractLsb' 7 5 ++ x.extractLsb' 6 1 ++ x.extractLsb' 0 6 = x := by
  have h0 := join x 7 5 5
  have h1 := join x 6 1 10
  have h2 := join x 0 6 11
  simp only [Nat.zero_add, Nat.reduceAdd] at h0 h1 h2
  refine (congrArg (fun (y : BitVec 11) => y ++ x.extractLsb' 0 6) ?_).trans (h2.trans (BitVec.extractLsb'_eq_self))
  exact (congrArg (fun (y : BitVec 10) => y ++ x.extractLsb' 6 1) h0).trans h1

@[simp] theorem join_mask16 (x : BitVec 16) : x.extractLsb' 11 5 ++ x.extractLsb' 6 5 ++ x.extractLsb' 0 6 = x := by
  have h1 := join x 6 5 5
  have h2 := join x 0 6 10
  simp only [Nat.zero_add, Nat.reduceAdd] at h1 h2
  exact (congrArg (fun (y : BitVec 10) => y ++ x.extractLsb' 0 6) h1).trans (h2.trans (BitVec.extractLsb'_eq_self))

@[simp] theorem join_off7 (x : BitVec 7) : x.extractLsb' 6 1 ++ x.extractLsb' 0 6 = x := by
  have h := join x 0 6 1
  simp only [Nat.zero_add, Nat.reduceAdd] at h
  exact h.trans (BitVec.extractLsb'_eq_self)

@[simp] theorem join_sh6 (x : BitVec 6) : x.extractLsb' 5 1 ++ x.extractLsb' 0 5 = x := by
  have h := join x 0 5 1
  simp only [Nat.zero_add, Nat.reduceAdd] at h
  exact h.trans (BitVec.extractLsb'_eq_self)

@[simp] theorem join_imm10 (x : BitVec 10) : x.extractLsb' 5 5 ++ x.extractLsb' 0 5 = x := by
  have h := join x 0 5 5
  simp only [Nat.zero_add, Nat.reduceAdd] at h
  exact h.trans (BitVec.extractLsb'_eq_self)

@[simp] theorem join_two (x : BitVec 2) : x.extractLsb' 1 1 ++ x.extractLsb' 0 1 = x := by revert x; decide

@[simp] theorem join_eight (x : BitVec 8) : x.extractLsb' 6 2 ++ x.extractLsb' 0 6 = x := by
  have h := join x 0 6 2
  simp only [Nat.zero_add, Nat.reduceAdd] at h
  exact h.trans (BitVec.extractLsb'_eq_self)

/-- The high part of two joined fields. -/
@[simp] theorem high_append {m n : Nat} (x : BitVec m) (y : BitVec n) : (x ++ y).extractLsb' n m = x := by
  apply BitVec.eq_of_getLsbD_eq; intro i hi
  rw [BitVec.getLsbD_extractLsb', BitVec.getLsbD_append, if_neg (by omega)]
  simp [hi]

/-- The low part of two joined fields. -/
@[simp] theorem low_append {m n : Nat} (x : BitVec m) (y : BitVec n) : (x ++ y).extractLsb' 0 n = y := by
  apply BitVec.eq_of_getLsbD_eq; intro i hi
  rw [BitVec.getLsbD_extractLsb', BitVec.getLsbD_append, if_pos (by omega)]
  simp [hi]

@[simp] theorem ofBool_beq_one (b : Bool) : (BitVec.ofBool b == 1#1) = b := by revert b; decide

@[simp] theorem high_append_4_1 (x : BitVec 4) (y : BitVec 1) : BitVec.extractLsb' (n := 5) 1 4 (x ++ y) = x := high_append x y

@[simp] theorem low_append_4_1 (x : BitVec 4) (y : BitVec 1) : BitVec.extractLsb' (n := 5) 0 1 (x ++ y) = y := low_append x y

@[simp] theorem high_append_3_2 (x : BitVec 3) (y : BitVec 2) : BitVec.extractLsb' (n := 5) 2 3 (x ++ y) = x := high_append x y

@[simp] theorem low_append_3_2 (x : BitVec 3) (y : BitVec 2) : BitVec.extractLsb' (n := 5) 0 2 (x ++ y) = y := low_append x y

@[simp] theorem high_append_4_2 (x : BitVec 4) (y : BitVec 2) : BitVec.extractLsb' (n := 6) 2 4 (x ++ y) = x := high_append x y

@[simp] theorem low_append_4_2 (x : BitVec 4) (y : BitVec 2) : BitVec.extractLsb' (n := 6) 0 2 (x ++ y) = y := low_append x y

@[simp] theorem high_append_5_1 (x : BitVec 5) (y : BitVec 1) : BitVec.extractLsb' (n := 6) 1 5 (x ++ y) = x := high_append x y

@[simp] theorem low_append_5_1 (x : BitVec 5) (y : BitVec 1) : BitVec.extractLsb' (n := 6) 0 1 (x ++ y) = y := low_append x y

@[simp] theorem high_append_3_8 (x : BitVec 3) (y : BitVec 8) : BitVec.extractLsb' (n := 11) 8 3 (x ++ y) = x := high_append x y

@[simp] theorem low_append_3_8 (x : BitVec 3) (y : BitVec 8) : BitVec.extractLsb' (n := 11) 0 8 (x ++ y) = y := low_append x y

@[simp] theorem high_append_10_1 (x : BitVec 10) (y : BitVec 1) : BitVec.extractLsb' (n := 11) 1 10 (x ++ y) = x := high_append x y

@[simp] theorem low_append_10_1 (x : BitVec 10) (y : BitVec 1) : BitVec.extractLsb' (n := 11) 0 1 (x ++ y) = y := low_append x y

@[simp] theorem high_append_8_3 (x : BitVec 8) (y : BitVec 3) : BitVec.extractLsb' (n := 11) 3 8 (x ++ y) = x := high_append x y

@[simp] theorem low_append_8_3 (x : BitVec 8) (y : BitVec 3) : BitVec.extractLsb' (n := 11) 0 3 (x ++ y) = y := low_append x y

@[simp] theorem high_append_9_2 (x : BitVec 9) (y : BitVec 2) : BitVec.extractLsb' (n := 11) 2 9 (x ++ y) = x := high_append x y

@[simp] theorem low_append_9_2 (x : BitVec 9) (y : BitVec 2) : BitVec.extractLsb' (n := 11) 0 2 (x ++ y) = y := low_append x y

@[simp] theorem high_append_5_6 (x : BitVec 5) (y : BitVec 6) : BitVec.extractLsb' (n := 11) 6 5 (x ++ y) = x := high_append x y

@[simp] theorem low_append_5_6 (x : BitVec 5) (y : BitVec 6) : BitVec.extractLsb' (n := 11) 0 6 (x ++ y) = y := low_append x y

/-! ### AUX6 and IMM11 of 64-bit words -/

@[simp] theorem aux_width (w : BitVec 2) : ((0#4 ++ w : BitVec 6)) >>> 2 = 0#6 := by revert w; decide

@[simp] theorem aux_wide (x : Bool) (y : BitVec 2) : (0#3 ++ BitVec.ofBool x ++ y : BitVec 6) >>> 3 = 0#6 := by revert x y; decide

@[simp] theorem aux_wide_bit (x : Bool) (y : BitVec 2) : (0#3 ++ BitVec.ofBool x ++ y : BitVec 6)[2] = x := by revert x y; decide

@[simp] theorem aux_wide_low (x : Bool) (y : BitVec 2) : BitVec.extractLsb' 0 2 (0#3 ++ BitVec.ofBool x ++ y : BitVec 6) = y := by revert x y; decide

@[simp] theorem aux_ret (x : Bool) : (0#5 ++ BitVec.ofBool x : BitVec 6) >>> 1 = 0#6 := by revert x; decide

@[simp] theorem aux_ret_bit (x : Bool) : (0#5 ++ BitVec.ofBool x : BitVec 6)[0] = x := by revert x; decide

@[simp] theorem aux_grp (g : BitVec 2) (x : Bool) : (0#3 ++ g ++ BitVec.ofBool x : BitVec 6) >>> 3 = 0#6 := by revert g x; decide

@[simp] theorem aux_grp_mid (g : BitVec 2) (x : Bool) : BitVec.extractLsb' 1 2 (0#3 ++ g ++ BitVec.ofBool x : BitVec 6) = g := by revert g x; decide

@[simp] theorem aux_grp_bit (g : BitVec 2) (x : Bool) : (0#3 ++ g ++ BitVec.ofBool x : BitVec 6)[0] = x := by revert g x; decide

@[simp] theorem aux_seg (w : BitVec 2) (f : BitVec 3) : (0#1 ++ w ++ f : BitVec 6) >>> 5 = 0#6 := by revert w f; decide

@[simp] theorem aux_seg_width (w : BitVec 2) (f : BitVec 3) : BitVec.extractLsb' 3 2 (0#1 ++ w ++ f : BitVec 6) = w := by revert w f; decide

@[simp] theorem aux_seg_fields (w : BitVec 2) (f : BitVec 3) : BitVec.extractLsb' 0 3 (0#1 ++ w ++ f : BitVec 6) = f := by revert w f; decide

@[simp] theorem aux_mode (y : BitVec 3) : (0#3 ++ y : BitVec 6) >>> 3 = 0#6 := by revert y; decide

@[simp] theorem aux_mode_low (y : BitVec 3) : BitVec.extractLsb' 0 3 (0#3 ++ y : BitVec 6) = y := by revert y; decide

@[simp] theorem imm_flag (x : Bool) : (0#10 ++ BitVec.ofBool x : BitVec 11) >>> 1 = 0#11 := by revert x; decide

@[simp] theorem imm_flag_bit (x : Bool) : (0#10 ++ BitVec.ofBool x : BitVec 11)[0] = x := by revert x; decide

@[simp] theorem imm_index (y : BitVec 3) : (0#8 ++ y : BitVec 11) >>> 3 = 0#11 := by revert y; decide

@[simp] theorem imm_select (y : BitVec 2) : (0#9 ++ y : BitVec 11) >>> 2 = 0#11 := by revert y; decide

@[simp] theorem imm_token (y : BitVec 6) : (0#5 ++ y : BitVec 11) >>> 6 = 0#11 := by revert y; decide

@[simp] theorem imm_role (x : Bool) (y : BitVec 5) : (0#5 ++ BitVec.ofBool x ++ y : BitVec 11) >>> 6 = 0#11 := by revert x y; decide

@[simp] theorem imm_role_bit (x : Bool) (y : BitVec 5) : (0#5 ++ BitVec.ofBool x ++ y : BitVec 11)[5] = x := by revert x y; decide

@[simp] theorem imm_role_low (x : Bool) (y : BitVec 5) : BitVec.extractLsb' 0 5 (0#5 ++ BitVec.ofBool x ++ y : BitVec 11) = y := by revert x y; decide

end Sys2Proof
end

