-- ==== Sys2Proof/Laws/Encode.lean ====
section
/-! SUPPORT. The bytes of every constructor that has an encoding, as the fields of its word (02 R45, R48 to R53; 03 R64, R66). -/

namespace Sys2Proof

theorem encode_add {d a b : BitVec 5} {st : BitVec 2} :
    encode (.add d a b st) = some (leBytes 4 (mk32 (b) (a) (d) (0#1) st 1 (0#6)).toNat) := rfl
theorem encode_sub {d a b : BitVec 5} {st : BitVec 2} :
    encode (.sub d a b st) = some (leBytes 4 (mk32 (b) (a) (d) (0#1) st 1 (1#6)).toNat) := rfl
theorem encode_and {d a b : BitVec 5} {st : BitVec 2} :
    encode (.and d a b st) = some (leBytes 4 (mk32 (b) (a) (d) (0#1) st 1 (2#6)).toNat) := rfl
theorem encode_or {d a b : BitVec 5} {st : BitVec 2} :
    encode (.or d a b st) = some (leBytes 4 (mk32 (b) (a) (d) (0#1) st 1 (3#6)).toNat) := rfl
theorem encode_xor {d a b : BitVec 5} {st : BitVec 2} :
    encode (.xor d a b st) = some (leBytes 4 (mk32 (b) (a) (d) (0#1) st 1 (4#6)).toNat) := rfl
theorem encode_andn {d a b : BitVec 5} {st : BitVec 2} :
    encode (.andn d a b st) = some (leBytes 4 (mk32 (b) (a) (d) (0#1) st 1 (5#6)).toNat) := rfl
theorem encode_sll {d a b : BitVec 5} {st : BitVec 2} :
    encode (.sll d a b st) = some (leBytes 4 (mk32 (b) (a) (d) (0#1) st 1 (6#6)).toNat) := rfl
theorem encode_srl {d a b : BitVec 5} {st : BitVec 2} :
    encode (.srl d a b st) = some (leBytes 4 (mk32 (b) (a) (d) (0#1) st 1 (7#6)).toNat) := rfl
theorem encode_sra {d a b : BitVec 5} {st : BitVec 2} :
    encode (.sra d a b st) = some (leBytes 4 (mk32 (b) (a) (d) (0#1) st 1 (8#6)).toNat) := rfl
theorem encode_ror {d a b : BitVec 5} {st : BitVec 2} :
    encode (.ror d a b st) = some (leBytes 4 (mk32 (b) (a) (d) (0#1) st 1 (9#6)).toNat) := rfl
theorem encode_slt {d a b : BitVec 5} {st : BitVec 2} :
    encode (.slt d a b st) = some (leBytes 4 (mk32 (b) (a) (d) (0#1) st 1 (10#6)).toNat) := rfl
theorem encode_sltn {d a b : BitVec 5} {st : BitVec 2} :
    encode (.sltn d a b st) = some (leBytes 4 (mk32 (b) (a) (d) (0#1) st 1 (11#6)).toNat) := rfl
theorem encode_min {d a b : BitVec 5} {st : BitVec 2} :
    encode (.min d a b st) = some (leBytes 4 (mk32 (b) (a) (d) (0#1) st 1 (12#6)).toNat) := rfl
theorem encode_max {d a b : BitVec 5} {st : BitVec 2} :
    encode (.max d a b st) = some (leBytes 4 (mk32 (b) (a) (d) (0#1) st 1 (13#6)).toNat) := rfl
theorem encode_minn {d a b : BitVec 5} {st : BitVec 2} :
    encode (.minn d a b st) = some (leBytes 4 (mk32 (b) (a) (d) (0#1) st 1 (14#6)).toNat) := rfl
theorem encode_maxn {d a b : BitVec 5} {st : BitVec 2} :
    encode (.maxn d a b st) = some (leBytes 4 (mk32 (b) (a) (d) (0#1) st 1 (15#6)).toNat) := rfl
theorem encode_mul {d a b : BitVec 5} {st : BitVec 2} :
    encode (.mul d a b st) = some (leBytes 4 (mk32 (b) (a) (d) (0#1) st 1 (16#6)).toNat) := rfl
theorem encode_mulh {d a b : BitVec 5} {st : BitVec 2} :
    encode (.mulh d a b st) = some (leBytes 4 (mk32 (b) (a) (d) (0#1) st 1 (17#6)).toNat) := rfl
theorem encode_mulhn {d a b : BitVec 5} {st : BitVec 2} :
    encode (.mulhn d a b st) = some (leBytes 4 (mk32 (b) (a) (d) (0#1) st 1 (18#6)).toNat) := rfl
theorem encode_div {d a b : BitVec 5} {st : BitVec 2} :
    encode (.div d a b st) = some (leBytes 4 (mk32 (b) (a) (d) (0#1) st 1 (19#6)).toNat) := rfl
theorem encode_divn {d a b : BitVec 5} {st : BitVec 2} :
    encode (.divn d a b st) = some (leBytes 4 (mk32 (b) (a) (d) (0#1) st 1 (20#6)).toNat) := rfl
theorem encode_rem {d a b : BitVec 5} {st : BitVec 2} :
    encode (.rem d a b st) = some (leBytes 4 (mk32 (b) (a) (d) (0#1) st 1 (21#6)).toNat) := rfl
theorem encode_remn {d a b : BitVec 5} {st : BitVec 2} :
    encode (.remn d a b st) = some (leBytes 4 (mk32 (b) (a) (d) (0#1) st 1 (22#6)).toNat) := rfl
theorem encode_clz {d a : BitVec 5} {st : BitVec 2} :
    encode (.clz d a st) = some (leBytes 4 (mk32 (0#5) (a) (d) (0#1) st 1 (23#6)).toNat) := rfl
theorem encode_ctz {d a : BitVec 5} {st : BitVec 2} :
    encode (.ctz d a st) = some (leBytes 4 (mk32 (0#5) (a) (d) (0#1) st 1 (24#6)).toNat) := rfl
theorem encode_cpop {d a : BitVec 5} {st : BitVec 2} :
    encode (.cpop d a st) = some (leBytes 4 (mk32 (0#5) (a) (d) (0#1) st 1 (25#6)).toNat) := rfl
theorem encode_sextb {d a : BitVec 5} {st : BitVec 2} :
    encode (.sextb d a st) = some (leBytes 4 (mk32 (0#5) (a) (d) (0#1) st 1 (26#6)).toNat) := rfl
theorem encode_sexth {d a : BitVec 5} {st : BitVec 2} :
    encode (.sexth d a st) = some (leBytes 4 (mk32 (0#5) (a) (d) (0#1) st 1 (27#6)).toNat) := rfl
theorem encode_sextw {d a : BitVec 5} {st : BitVec 2} :
    encode (.sextw d a st) = some (leBytes 4 (mk32 (0#5) (a) (d) (0#1) st 1 (28#6)).toNat) := rfl
theorem encode_bswap {d a : BitVec 5} {st : BitVec 2} :
    encode (.bswap d a st) = some (leBytes 4 (mk32 (0#5) (a) (d) (0#1) st 1 (29#6)).toNat) := rfl
theorem encode_csel {d a b : BitVec 5} {st : BitVec 2} :
    encode (.csel d a b st) = some (leBytes 4 (mk32 (b) (a) (d) (0#1) st 1 (30#6)).toNat) := rfl
theorem encode_slli {d a : BitVec 5} {h : BitVec 6} {st : BitVec 2} :
    encode (.slli d a h st) = some (leBytes 4 (mk32 (h.extractLsb' 0 5) (a) (d) (h.extractLsb' 5 1) st 2 (0#6)).toNat) := rfl
theorem encode_srli {d a : BitVec 5} {h : BitVec 6} {st : BitVec 2} :
    encode (.srli d a h st) = some (leBytes 4 (mk32 (h.extractLsb' 0 5) (a) (d) (h.extractLsb' 5 1) st 2 (1#6)).toNat) := rfl
theorem encode_srai {d a : BitVec 5} {h : BitVec 6} {st : BitVec 2} :
    encode (.srai d a h st) = some (leBytes 4 (mk32 (h.extractLsb' 0 5) (a) (d) (h.extractLsb' 5 1) st 2 (2#6)).toNat) := rfl
theorem encode_rori {d a : BitVec 5} {h : BitVec 6} {st : BitVec 2} :
    encode (.rori d a h st) = some (leBytes 4 (mk32 (h.extractLsb' 0 5) (a) (d) (h.extractLsb' 5 1) st 2 (3#6)).toNat) := rfl
theorem encode_addi {d a : BitVec 5} {i : BitVec 12} {st : BitVec 2} :
    encode (.addi d a i st) = some (leBytes 4 (mk32 (i.extractLsb' 7 5) (a) (d) (i.extractLsb' 6 1) st 3 (i.extractLsb' 0 6)).toNat) := rfl
theorem encode_andi {d a : BitVec 5} {i : BitVec 12} {st : BitVec 2} :
    encode (.andi d a i st) = some (leBytes 4 (mk32 (i.extractLsb' 7 5) (a) (d) (i.extractLsb' 6 1) st 4 (i.extractLsb' 0 6)).toNat) := rfl
theorem encode_ori {d a : BitVec 5} {i : BitVec 12} {st : BitVec 2} :
    encode (.ori d a i st) = some (leBytes 4 (mk32 (i.extractLsb' 7 5) (a) (d) (i.extractLsb' 6 1) st 5 (i.extractLsb' 0 6)).toNat) := rfl
theorem encode_xori {d a : BitVec 5} {i : BitVec 12} {st : BitVec 2} :
    encode (.xori d a i st) = some (leBytes 4 (mk32 (i.extractLsb' 7 5) (a) (d) (i.extractLsb' 6 1) st 6 (i.extractLsb' 0 6)).toNat) := rfl
theorem encode_slti {d a : BitVec 5} {i : BitVec 12} {st : BitVec 2} :
    encode (.slti d a i st) = some (leBytes 4 (mk32 (i.extractLsb' 7 5) (a) (d) (i.extractLsb' 6 1) st 7 (i.extractLsb' 0 6)).toNat) := rfl
theorem encode_sltin {d a : BitVec 5} {i : BitVec 12} {st : BitVec 2} :
    encode (.sltin d a i st) = some (leBytes 4 (mk32 (i.extractLsb' 7 5) (a) (d) (i.extractLsb' 6 1) st 8 (i.extractLsb' 0 6)).toNat) := rfl
theorem encode_movhi {d : BitVec 5} {i : BitVec 17} {st : BitVec 2} :
    encode (.movhi d i st) = some (leBytes 4 (mk32 (i.extractLsb' 12 5) (i.extractLsb' 7 5) (d) (i.extractLsb' 6 1) st 9 (i.extractLsb' 0 6)).toNat) := rfl
theorem encode_pgrel {d : BitVec 5} {i : BitVec 17} {st : BitVec 2} :
    encode (.pgrel d i st) = some (leBytes 4 (mk32 (i.extractLsb' 12 5) (i.extractLsb' 7 5) (d) (i.extractLsb' 6 1) st 10 (i.extractLsb' 0 6)).toNat) := rfl
theorem encode_jal {d : BitVec 5} {i : BitVec 17} {st : BitVec 2} :
    encode (.jal d i st) = some (leBytes 4 (mk32 (i.extractLsb' 12 5) (i.extractLsb' 7 5) (d) (i.extractLsb' 6 1) st 11 (i.extractLsb' 0 6)).toNat) := rfl
theorem encode_jalr {d a : BitVec 5} {i : BitVec 12} {st : BitVec 2} :
    encode (.jalr d a i st) = some (leBytes 4 (mk32 (i.extractLsb' 7 5) (a) (d) (i.extractLsb' 6 1) st 12 (i.extractLsb' 0 6)).toNat) := rfl
theorem encode_beq {a b : BitVec 5} {i : BitVec 12} {st : BitVec 2} :
    encode (.beq a b i st) = some (leBytes 4 (mk32 (i.extractLsb' 7 5) (a) (b) (i.extractLsb' 6 1) st 13 (i.extractLsb' 0 6)).toNat) := rfl
theorem encode_bne {a b : BitVec 5} {i : BitVec 12} {st : BitVec 2} :
    encode (.bne a b i st) = some (leBytes 4 (mk32 (i.extractLsb' 7 5) (a) (b) (i.extractLsb' 6 1) st 14 (i.extractLsb' 0 6)).toNat) := rfl
theorem encode_blt {a b : BitVec 5} {i : BitVec 12} {st : BitVec 2} :
    encode (.blt a b i st) = some (leBytes 4 (mk32 (i.extractLsb' 7 5) (a) (b) (i.extractLsb' 6 1) st 15 (i.extractLsb' 0 6)).toNat) := rfl
theorem encode_bge {a b : BitVec 5} {i : BitVec 12} {st : BitVec 2} :
    encode (.bge a b i st) = some (leBytes 4 (mk32 (i.extractLsb' 7 5) (a) (b) (i.extractLsb' 6 1) st 16 (i.extractLsb' 0 6)).toNat) := rfl
theorem encode_bltn {a b : BitVec 5} {i : BitVec 12} {st : BitVec 2} :
    encode (.bltn a b i st) = some (leBytes 4 (mk32 (i.extractLsb' 7 5) (a) (b) (i.extractLsb' 6 1) st 17 (i.extractLsb' 0 6)).toNat) := rfl
theorem encode_bgen {a b : BitVec 5} {i : BitVec 12} {st : BitVec 2} :
    encode (.bgen a b i st) = some (leBytes 4 (mk32 (i.extractLsb' 7 5) (a) (b) (i.extractLsb' 6 1) st 18 (i.extractLsb' 0 6)).toNat) := rfl
theorem encode_sbnz {a b : BitVec 5} {i : BitVec 12} {st : BitVec 2} :
    encode (.sbnz a b i st) = some (leBytes 4 (mk32 (i.extractLsb' 7 5) (a) (b) (i.extractLsb' 6 1) st 19 (i.extractLsb' 0 6)).toNat) := rfl
theorem encode_ld8 {d a : BitVec 5} {o : BitVec 7} {c : BitVec 4} {st : BitVec 2} :
    encode (.ld8 d a o c st) = some (leBytes 4 (mk32 (c ++ 0#1) (a) (d) (o.extractLsb' 6 1) st 20 (o.extractLsb' 0 6)).toNat) := rfl
theorem encode_ld8s {d a : BitVec 5} {o : BitVec 7} {c : BitVec 4} {st : BitVec 2} :
    encode (.ld8s d a o c st) = some (leBytes 4 (mk32 (c ++ 1#1) (a) (d) (o.extractLsb' 6 1) st 20 (o.extractLsb' 0 6)).toNat) := rfl
theorem encode_ld16 {d a : BitVec 5} {o : BitVec 7} {c : BitVec 4} {st : BitVec 2} :
    encode (.ld16 d a o c st) = some (leBytes 4 (mk32 (c ++ 0#1) (a) (d) (o.extractLsb' 6 1) st 21 (o.extractLsb' 0 6)).toNat) := rfl
theorem encode_ld16s {d a : BitVec 5} {o : BitVec 7} {c : BitVec 4} {st : BitVec 2} :
    encode (.ld16s d a o c st) = some (leBytes 4 (mk32 (c ++ 1#1) (a) (d) (o.extractLsb' 6 1) st 21 (o.extractLsb' 0 6)).toNat) := rfl
theorem encode_ld32 {d a : BitVec 5} {o : BitVec 7} {c : BitVec 4} {st : BitVec 2} :
    encode (.ld32 d a o c st) = some (leBytes 4 (mk32 (c ++ 0#1) (a) (d) (o.extractLsb' 6 1) st 22 (o.extractLsb' 0 6)).toNat) := rfl
theorem encode_ld32s {d a : BitVec 5} {o : BitVec 7} {c : BitVec 4} {st : BitVec 2} :
    encode (.ld32s d a o c st) = some (leBytes 4 (mk32 (c ++ 1#1) (a) (d) (o.extractLsb' 6 1) st 22 (o.extractLsb' 0 6)).toNat) := rfl
theorem encode_ld64 {d a : BitVec 5} {o : BitVec 7} {c : BitVec 4} {st : BitVec 2} :
    encode (.ld64 d a o c st) = some (leBytes 4 (mk32 (c ++ 0#1) (a) (d) (o.extractLsb' 6 1) st 23 (o.extractLsb' 0 6)).toNat) := rfl
theorem encode_st8 {d a : BitVec 5} {o : BitVec 7} {c : BitVec 4} {st : BitVec 2} :
    encode (.st8 d a o c st) = some (leBytes 4 (mk32 (c ++ 0#1) (a) (d) (o.extractLsb' 6 1) st 24 (o.extractLsb' 0 6)).toNat) := rfl
theorem encode_st16 {d a : BitVec 5} {o : BitVec 7} {c : BitVec 4} {st : BitVec 2} :
    encode (.st16 d a o c st) = some (leBytes 4 (mk32 (c ++ 0#1) (a) (d) (o.extractLsb' 6 1) st 25 (o.extractLsb' 0 6)).toNat) := rfl
theorem encode_st32 {d a : BitVec 5} {o : BitVec 7} {c : BitVec 4} {st : BitVec 2} :
    encode (.st32 d a o c st) = some (leBytes 4 (mk32 (c ++ 0#1) (a) (d) (o.extractLsb' 6 1) st 26 (o.extractLsb' 0 6)).toNat) := rfl
theorem encode_st64 {d a : BitVec 5} {o : BitVec 7} {c : BitVec 4} {st : BitVec 2} :
    encode (.st64 d a o c st) = some (leBytes 4 (mk32 (c ++ 0#1) (a) (d) (o.extractLsb' 6 1) st 27 (o.extractLsb' 0 6)).toNat) := rfl
theorem encode_fadd {d a b : BitVec 5} {p : Bool} {st : BitVec 2} :
    encode (.fadd d a b p st) = some (leBytes 4 (mk32 (b) (a) (d) (BitVec.ofBool p) st 28 (0#6)).toNat) := rfl
theorem encode_fsub {d a b : BitVec 5} {p : Bool} {st : BitVec 2} :
    encode (.fsub d a b p st) = some (leBytes 4 (mk32 (b) (a) (d) (BitVec.ofBool p) st 28 (1#6)).toNat) := rfl
theorem encode_fmul {d a b : BitVec 5} {p : Bool} {st : BitVec 2} :
    encode (.fmul d a b p st) = some (leBytes 4 (mk32 (b) (a) (d) (BitVec.ofBool p) st 28 (2#6)).toNat) := rfl
theorem encode_fdiv {d a b : BitVec 5} {p : Bool} {st : BitVec 2} :
    encode (.fdiv d a b p st) = some (leBytes 4 (mk32 (b) (a) (d) (BitVec.ofBool p) st 28 (3#6)).toNat) := rfl
theorem encode_fsqrt {d a : BitVec 5} {p : Bool} {st : BitVec 2} :
    encode (.fsqrt d a p st) = some (leBytes 4 (mk32 (0#5) (a) (d) (BitVec.ofBool p) st 28 (4#6)).toNat) := rfl
theorem encode_fmin {d a b : BitVec 5} {p : Bool} {st : BitVec 2} :
    encode (.fmin d a b p st) = some (leBytes 4 (mk32 (b) (a) (d) (BitVec.ofBool p) st 28 (5#6)).toNat) := rfl
theorem encode_fmax {d a b : BitVec 5} {p : Bool} {st : BitVec 2} :
    encode (.fmax d a b p st) = some (leBytes 4 (mk32 (b) (a) (d) (BitVec.ofBool p) st 28 (6#6)).toNat) := rfl
theorem encode_feq {d a b : BitVec 5} {p : Bool} {st : BitVec 2} :
    encode (.feq d a b p st) = some (leBytes 4 (mk32 (b) (a) (d) (BitVec.ofBool p) st 28 (7#6)).toNat) := rfl
theorem encode_flt {d a b : BitVec 5} {p : Bool} {st : BitVec 2} :
    encode (.flt d a b p st) = some (leBytes 4 (mk32 (b) (a) (d) (BitVec.ofBool p) st 28 (8#6)).toNat) := rfl
theorem encode_fle {d a b : BitVec 5} {p : Bool} {st : BitVec 2} :
    encode (.fle d a b p st) = some (leBytes 4 (mk32 (b) (a) (d) (BitVec.ofBool p) st 28 (9#6)).toNat) := rfl
theorem encode_fclass {d a : BitVec 5} {p : Bool} {st : BitVec 2} :
    encode (.fclass d a p st) = some (leBytes 4 (mk32 (0#5) (a) (d) (BitVec.ofBool p) st 28 (10#6)).toNat) := rfl
theorem encode_fsgnj {d a b : BitVec 5} {p : Bool} {st : BitVec 2} :
    encode (.fsgnj d a b p st) = some (leBytes 4 (mk32 (b) (a) (d) (BitVec.ofBool p) st 28 (11#6)).toNat) := rfl
theorem encode_fsgnjn {d a b : BitVec 5} {p : Bool} {st : BitVec 2} :
    encode (.fsgnjn d a b p st) = some (leBytes 4 (mk32 (b) (a) (d) (BitVec.ofBool p) st 28 (12#6)).toNat) := rfl
theorem encode_fsgnjx {d a b : BitVec 5} {p : Bool} {st : BitVec 2} :
    encode (.fsgnjx d a b p st) = some (leBytes 4 (mk32 (b) (a) (d) (BitVec.ofBool p) st 28 (13#6)).toNat) := rfl
theorem encode_fcvtfi {d a : BitVec 5} {p : Bool} {st : BitVec 2} :
    encode (.fcvtfi d a p st) = some (leBytes 4 (mk32 (0#5) (a) (d) (BitVec.ofBool p) st 28 (14#6)).toNat) := rfl
theorem encode_fcvtfn {d a : BitVec 5} {p : Bool} {st : BitVec 2} :
    encode (.fcvtfn d a p st) = some (leBytes 4 (mk32 (0#5) (a) (d) (BitVec.ofBool p) st 28 (15#6)).toNat) := rfl
theorem encode_fcvtif {d a : BitVec 5} {p : Bool} {st : BitVec 2} :
    encode (.fcvtif d a p st) = some (leBytes 4 (mk32 (0#5) (a) (d) (BitVec.ofBool p) st 28 (16#6)).toNat) := rfl
theorem encode_fcvtnf {d a : BitVec 5} {p : Bool} {st : BitVec 2} :
    encode (.fcvtnf d a p st) = some (leBytes 4 (mk32 (0#5) (a) (d) (BitVec.ofBool p) st 28 (17#6)).toNat) := rfl
theorem encode_fcvtff {d a : BitVec 5} {p : Bool} {st : BitVec 2} :
    encode (.fcvtff d a p st) = some (leBytes 4 (mk32 (0#5) (a) (d) (BitVec.ofBool p) st 28 (18#6)).toNat) := rfl
theorem encode_fcvtbf {d a : BitVec 5} {p : Bool} {st : BitVec 2} :
    encode (.fcvtbf d a p st) = some (leBytes 4 (mk32 (0#5) (a) (d) (BitVec.ofBool p) st 28 (19#6)).toNat) := rfl
theorem encode_fcvtfb {d a : BitVec 5} {p : Bool} {st : BitVec 2} :
    encode (.fcvtfb d a p st) = some (leBytes 4 (mk32 (0#5) (a) (d) (BitVec.ofBool p) st 28 (20#6)).toNat) := rfl
theorem encode_ffma32 {d a b e : BitVec 5} {v st : BitVec 2} :
    encode (.ffma32 d a b e v st) = some (leBytes 4 (mk32 (b) (a) (d) (v.extractLsb' 1 1) st 29 (e ++ v.extractLsb' 0 1)).toNat) := rfl
theorem encode_ffma64 {d a b e : BitVec 5} {v st : BitVec 2} :
    encode (.ffma64 d a b e v st) = some (leBytes 4 (mk32 (b) (a) (d) (v.extractLsb' 1 1) st 30 (e ++ v.extractLsb' 0 1)).toNat) := rfl
theorem encode_svc {st : BitVec 2} :
    encode (.svc st) = some (leBytes 4 (mk32 (0#5) (0#5) (0#5) (0#1) st 31 (0#6)).toNat) := rfl
theorem encode_tret {st : BitVec 2} :
    encode (.tret st) = some (leBytes 4 (mk32 (0#5) (0#5) (0#5) (0#1) st 31 (1#6)).toNat) := rfl
theorem encode_brk {st : BitVec 2} :
    encode (.brk st) = some (leBytes 4 (mk32 (0#5) (0#5) (0#5) (0#1) st 31 (2#6)).toNat) := rfl
theorem encode_nap {st : BitVec 2} :
    encode (.nap st) = some (leBytes 4 (mk32 (0#5) (0#5) (0#5) (0#1) st 31 (3#6)).toNat) := rfl
theorem encode_kend {st : BitVec 2} :
    encode (.kend st) = some (leBytes 4 (mk32 (0#5) (0#5) (0#5) (0#1) st 31 (4#6)).toNat) := rfl
theorem encode_iflush {st : BitVec 2} :
    encode (.iflush st) = some (leBytes 4 (mk32 (0#5) (0#5) (0#5) (0#1) st 31 (5#6)).toNat) := rfl
theorem encode_uret {st : BitVec 2} :
    encode (.uret st) = some (leBytes 4 (mk32 (0#5) (0#5) (0#5) (0#1) st 31 (6#6)).toNat) := rfl
theorem encode_yield {st : BitVec 2} :
    encode (.yield st) = some (leBytes 4 (mk32 (0#5) (0#5) (0#5) (0#1) st 31 (7#6)).toNat) := rfl
theorem encode_iprf {a : BitVec 5} {o : BitVec 7} {st : BitVec 2} :
    encode (.iprf a o st) = some (leBytes 4 (mk32 (0#5) (a) (0#5) (o.extractLsb' 6 1) st 32 (o.extractLsb' 0 6)).toNat) := rfl
theorem encode_dprf {a : BitVec 5} {o : BitVec 7} {c : BitVec 4} {st : BitVec 2} :
    encode (.dprf a o c st) = some (leBytes 4 (mk32 (c ++ 0#1) (a) (0#5) (o.extractLsb' 6 1) st 33 (o.extractLsb' 0 6)).toNat) := rfl
theorem encode_fence {k : BitVec 16} {e st : BitVec 2} :
    encode (.fence k e st) = some (leBytes 4 (mk32 (k.extractLsb' 11 5) (k.extractLsb' 6 5) (0#3 ++ e) (0#1) st 34 (k.extractLsb' 0 6)).toNat) := rfl
theorem encode_fenceacq {k : BitVec 16} {e st : BitVec 2} :
    encode (.fenceacq k e st) = some (leBytes 4 (mk32 (k.extractLsb' 11 5) (k.extractLsb' 6 5) (1#3 ++ e) (0#1) st 34 (k.extractLsb' 0 6)).toNat) := rfl
theorem encode_fencerel {k : BitVec 16} {e st : BitVec 2} :
    encode (.fencerel k e st) = some (leBytes 4 (mk32 (k.extractLsb' 11 5) (k.extractLsb' 6 5) (2#3 ++ e) (0#1) st 34 (k.extractLsb' 0 6)).toNat) := rfl
theorem encode_vdrain {k : BitVec 16} {e st : BitVec 2} :
    encode (.vdrain k e st) = some (leBytes 4 (mk32 (k.extractLsb' 11 5) (k.extractLsb' 6 5) (3#3 ++ e) (0#1) st 34 (k.extractLsb' 0 6)).toNat) := rfl
theorem encode_csrrw {d a : BitVec 5} {c : BitVec 12} {st : BitVec 2} :
    encode (.csrrw d a c st) = some (leBytes 4 (mk32 (c.extractLsb' 7 5) (a) (d) (c.extractLsb' 6 1) st 35 (c.extractLsb' 0 6)).toNat) := rfl
theorem encode_csrrs {d a : BitVec 5} {c : BitVec 12} {st : BitVec 2} :
    encode (.csrrs d a c st) = some (leBytes 4 (mk32 (c.extractLsb' 7 5) (a) (d) (c.extractLsb' 6 1) st 36 (c.extractLsb' 0 6)).toNat) := rfl
theorem encode_csrrc {d a : BitVec 5} {c : BitVec 12} {st : BitVec 2} :
    encode (.csrrc d a c st) = some (leBytes 4 (mk32 (c.extractLsb' 7 5) (a) (d) (c.extractLsb' 6 1) st 37 (c.extractLsb' 0 6)).toNat) := rfl
theorem encode_vsetl {d a : BitVec 5} {st : BitVec 2} :
    encode (.vsetl d a st) = some (leBytes 4 (mk32 (0#5) (a) (d) (0#1) st 38 (0#6)).toNat) := rfl
theorem encode_vsetvt {d a : BitVec 5} {st : BitVec 2} :
    encode (.vsetvt d a st) = some (leBytes 4 (mk32 (0#5) (a) (d) (0#1) st 38 (1#6)).toNat) := rfl
theorem encode_vsetty {d t : BitVec 5} {st : BitVec 2} :
    encode (.vsetty d t st) = some (leBytes 4 (mk32 (t) (0#5) (d) (0#1) st 38 (2#6)).toNat) := rfl
theorem encode_vsetdie {a b : BitVec 5} {st : BitVec 2} :
    encode (.vsetdie a b st) = some (leBytes 4 (mk32 (b) (a) (0#5) (0#1) st 38 (3#6)).toNat) := rfl
theorem encode_vaddVv {d a b : BitVec 5} {m : Bool} {st : BitVec 2} :
    encode (.vaddVv d a b m st) = some (leBytes 4 (mk32 (b) (a) (d) (BitVec.ofBool m) st 39 (0#6)).toNat) := rfl
theorem encode_vaddVs {d a b : BitVec 5} {m : Bool} {st : BitVec 2} :
    encode (.vaddVs d a b m st) = some (leBytes 4 (mk32 (b) (a) (d) (BitVec.ofBool m) st 40 (0#6)).toNat) := rfl
theorem encode_vaddVi {d b i : BitVec 5} {m : Bool} {st : BitVec 2} :
    encode (.vaddVi d b i m st) = some (leBytes 4 (mk32 (b) (i) (d) (BitVec.ofBool m) st 41 (0#6)).toNat) := rfl
theorem encode_vsubVv {d a b : BitVec 5} {m : Bool} {st : BitVec 2} :
    encode (.vsubVv d a b m st) = some (leBytes 4 (mk32 (b) (a) (d) (BitVec.ofBool m) st 39 (1#6)).toNat) := rfl
theorem encode_vsubVs {d a b : BitVec 5} {m : Bool} {st : BitVec 2} :
    encode (.vsubVs d a b m st) = some (leBytes 4 (mk32 (b) (a) (d) (BitVec.ofBool m) st 40 (1#6)).toNat) := rfl
theorem encode_vsubVi {d b i : BitVec 5} {m : Bool} {st : BitVec 2} :
    encode (.vsubVi d b i m st) = some (leBytes 4 (mk32 (b) (i) (d) (BitVec.ofBool m) st 41 (1#6)).toNat) := rfl
theorem encode_vrsubVv {d a b : BitVec 5} {m : Bool} {st : BitVec 2} :
    encode (.vrsubVv d a b m st) = some (leBytes 4 (mk32 (b) (a) (d) (BitVec.ofBool m) st 39 (2#6)).toNat) := rfl
theorem encode_vrsubVs {d a b : BitVec 5} {m : Bool} {st : BitVec 2} :
    encode (.vrsubVs d a b m st) = some (leBytes 4 (mk32 (b) (a) (d) (BitVec.ofBool m) st 40 (2#6)).toNat) := rfl
theorem encode_vrsubVi {d b i : BitVec 5} {m : Bool} {st : BitVec 2} :
    encode (.vrsubVi d b i m st) = some (leBytes 4 (mk32 (b) (i) (d) (BitVec.ofBool m) st 41 (2#6)).toNat) := rfl
theorem encode_vmulVv {d a b : BitVec 5} {m : Bool} {st : BitVec 2} :
    encode (.vmulVv d a b m st) = some (leBytes 4 (mk32 (b) (a) (d) (BitVec.ofBool m) st 39 (3#6)).toNat) := rfl
theorem encode_vmulVs {d a b : BitVec 5} {m : Bool} {st : BitVec 2} :
    encode (.vmulVs d a b m st) = some (leBytes 4 (mk32 (b) (a) (d) (BitVec.ofBool m) st 40 (3#6)).toNat) := rfl
theorem encode_vmulVi {d b i : BitVec 5} {m : Bool} {st : BitVec 2} :
    encode (.vmulVi d b i m st) = some (leBytes 4 (mk32 (b) (i) (d) (BitVec.ofBool m) st 41 (3#6)).toNat) := rfl
theorem encode_vmulhVv {d a b : BitVec 5} {m : Bool} {st : BitVec 2} :
    encode (.vmulhVv d a b m st) = some (leBytes 4 (mk32 (b) (a) (d) (BitVec.ofBool m) st 39 (4#6)).toNat) := rfl
theorem encode_vmulhVs {d a b : BitVec 5} {m : Bool} {st : BitVec 2} :
    encode (.vmulhVs d a b m st) = some (leBytes 4 (mk32 (b) (a) (d) (BitVec.ofBool m) st 40 (4#6)).toNat) := rfl
theorem encode_vmulhVi {d b i : BitVec 5} {m : Bool} {st : BitVec 2} :
    encode (.vmulhVi d b i m st) = some (leBytes 4 (mk32 (b) (i) (d) (BitVec.ofBool m) st 41 (4#6)).toNat) := rfl
theorem encode_vmulhnVv {d a b : BitVec 5} {m : Bool} {st : BitVec 2} :
    encode (.vmulhnVv d a b m st) = some (leBytes 4 (mk32 (b) (a) (d) (BitVec.ofBool m) st 39 (5#6)).toNat) := rfl
theorem encode_vmulhnVs {d a b : BitVec 5} {m : Bool} {st : BitVec 2} :
    encode (.vmulhnVs d a b m st) = some (leBytes 4 (mk32 (b) (a) (d) (BitVec.ofBool m) st 40 (5#6)).toNat) := rfl
theorem encode_vmulhnVi {d b i : BitVec 5} {m : Bool} {st : BitVec 2} :
    encode (.vmulhnVi d b i m st) = some (leBytes 4 (mk32 (b) (i) (d) (BitVec.ofBool m) st 41 (5#6)).toNat) := rfl
theorem encode_vmacVv {d a b : BitVec 5} {m : Bool} {st : BitVec 2} :
    encode (.vmacVv d a b m st) = some (leBytes 4 (mk32 (b) (a) (d) (BitVec.ofBool m) st 39 (6#6)).toNat) := rfl
theorem encode_vmacVs {d a b : BitVec 5} {m : Bool} {st : BitVec 2} :
    encode (.vmacVs d a b m st) = some (leBytes 4 (mk32 (b) (a) (d) (BitVec.ofBool m) st 40 (6#6)).toNat) := rfl
theorem encode_vmacVi {d b i : BitVec 5} {m : Bool} {st : BitVec 2} :
    encode (.vmacVi d b i m st) = some (leBytes 4 (mk32 (b) (i) (d) (BitVec.ofBool m) st 41 (6#6)).toNat) := rfl
theorem encode_vandVv {d a b : BitVec 5} {m : Bool} {st : BitVec 2} :
    encode (.vandVv d a b m st) = some (leBytes 4 (mk32 (b) (a) (d) (BitVec.ofBool m) st 39 (7#6)).toNat) := rfl
theorem encode_vandVs {d a b : BitVec 5} {m : Bool} {st : BitVec 2} :
    encode (.vandVs d a b m st) = some (leBytes 4 (mk32 (b) (a) (d) (BitVec.ofBool m) st 40 (7#6)).toNat) := rfl
theorem encode_vandVi {d b i : BitVec 5} {m : Bool} {st : BitVec 2} :
    encode (.vandVi d b i m st) = some (leBytes 4 (mk32 (b) (i) (d) (BitVec.ofBool m) st 41 (7#6)).toNat) := rfl
theorem encode_vorVv {d a b : BitVec 5} {m : Bool} {st : BitVec 2} :
    encode (.vorVv d a b m st) = some (leBytes 4 (mk32 (b) (a) (d) (BitVec.ofBool m) st 39 (8#6)).toNat) := rfl
theorem encode_vorVs {d a b : BitVec 5} {m : Bool} {st : BitVec 2} :
    encode (.vorVs d a b m st) = some (leBytes 4 (mk32 (b) (a) (d) (BitVec.ofBool m) st 40 (8#6)).toNat) := rfl
theorem encode_vorVi {d b i : BitVec 5} {m : Bool} {st : BitVec 2} :
    encode (.vorVi d b i m st) = some (leBytes 4 (mk32 (b) (i) (d) (BitVec.ofBool m) st 41 (8#6)).toNat) := rfl
theorem encode_vxorVv {d a b : BitVec 5} {m : Bool} {st : BitVec 2} :
    encode (.vxorVv d a b m st) = some (leBytes 4 (mk32 (b) (a) (d) (BitVec.ofBool m) st 39 (9#6)).toNat) := rfl
theorem encode_vxorVs {d a b : BitVec 5} {m : Bool} {st : BitVec 2} :
    encode (.vxorVs d a b m st) = some (leBytes 4 (mk32 (b) (a) (d) (BitVec.ofBool m) st 40 (9#6)).toNat) := rfl
theorem encode_vxorVi {d b i : BitVec 5} {m : Bool} {st : BitVec 2} :
    encode (.vxorVi d b i m st) = some (leBytes 4 (mk32 (b) (i) (d) (BitVec.ofBool m) st 41 (9#6)).toNat) := rfl
theorem encode_vsllVv {d a b : BitVec 5} {m : Bool} {st : BitVec 2} :
    encode (.vsllVv d a b m st) = some (leBytes 4 (mk32 (b) (a) (d) (BitVec.ofBool m) st 39 (10#6)).toNat) := rfl
theorem encode_vsllVs {d a b : BitVec 5} {m : Bool} {st : BitVec 2} :
    encode (.vsllVs d a b m st) = some (leBytes 4 (mk32 (b) (a) (d) (BitVec.ofBool m) st 40 (10#6)).toNat) := rfl
theorem encode_vsllVi {d b i : BitVec 5} {m : Bool} {st : BitVec 2} :
    encode (.vsllVi d b i m st) = some (leBytes 4 (mk32 (b) (i) (d) (BitVec.ofBool m) st 41 (10#6)).toNat) := rfl
theorem encode_vsrlVv {d a b : BitVec 5} {m : Bool} {st : BitVec 2} :
    encode (.vsrlVv d a b m st) = some (leBytes 4 (mk32 (b) (a) (d) (BitVec.ofBool m) st 39 (11#6)).toNat) := rfl
theorem encode_vsrlVs {d a b : BitVec 5} {m : Bool} {st : BitVec 2} :
    encode (.vsrlVs d a b m st) = some (leBytes 4 (mk32 (b) (a) (d) (BitVec.ofBool m) st 40 (11#6)).toNat) := rfl
theorem encode_vsrlVi {d b i : BitVec 5} {m : Bool} {st : BitVec 2} :
    encode (.vsrlVi d b i m st) = some (leBytes 4 (mk32 (b) (i) (d) (BitVec.ofBool m) st 41 (11#6)).toNat) := rfl
theorem encode_vsraVv {d a b : BitVec 5} {m : Bool} {st : BitVec 2} :
    encode (.vsraVv d a b m st) = some (leBytes 4 (mk32 (b) (a) (d) (BitVec.ofBool m) st 39 (12#6)).toNat) := rfl
theorem encode_vsraVs {d a b : BitVec 5} {m : Bool} {st : BitVec 2} :
    encode (.vsraVs d a b m st) = some (leBytes 4 (mk32 (b) (a) (d) (BitVec.ofBool m) st 40 (12#6)).toNat) := rfl
theorem encode_vsraVi {d b i : BitVec 5} {m : Bool} {st : BitVec 2} :
    encode (.vsraVi d b i m st) = some (leBytes 4 (mk32 (b) (i) (d) (BitVec.ofBool m) st 41 (12#6)).toNat) := rfl
theorem encode_vminVv {d a b : BitVec 5} {m : Bool} {st : BitVec 2} :
    encode (.vminVv d a b m st) = some (leBytes 4 (mk32 (b) (a) (d) (BitVec.ofBool m) st 39 (13#6)).toNat) := rfl
theorem encode_vminVs {d a b : BitVec 5} {m : Bool} {st : BitVec 2} :
    encode (.vminVs d a b m st) = some (leBytes 4 (mk32 (b) (a) (d) (BitVec.ofBool m) st 40 (13#6)).toNat) := rfl
theorem encode_vminVi {d b i : BitVec 5} {m : Bool} {st : BitVec 2} :
    encode (.vminVi d b i m st) = some (leBytes 4 (mk32 (b) (i) (d) (BitVec.ofBool m) st 41 (13#6)).toNat) := rfl
theorem encode_vmaxVv {d a b : BitVec 5} {m : Bool} {st : BitVec 2} :
    encode (.vmaxVv d a b m st) = some (leBytes 4 (mk32 (b) (a) (d) (BitVec.ofBool m) st 39 (14#6)).toNat) := rfl
theorem encode_vmaxVs {d a b : BitVec 5} {m : Bool} {st : BitVec 2} :
    encode (.vmaxVs d a b m st) = some (leBytes 4 (mk32 (b) (a) (d) (BitVec.ofBool m) st 40 (14#6)).toNat) := rfl
theorem encode_vmaxVi {d b i : BitVec 5} {m : Bool} {st : BitVec 2} :
    encode (.vmaxVi d b i m st) = some (leBytes 4 (mk32 (b) (i) (d) (BitVec.ofBool m) st 41 (14#6)).toNat) := rfl
theorem encode_vminnVv {d a b : BitVec 5} {m : Bool} {st : BitVec 2} :
    encode (.vminnVv d a b m st) = some (leBytes 4 (mk32 (b) (a) (d) (BitVec.ofBool m) st 39 (15#6)).toNat) := rfl
theorem encode_vminnVs {d a b : BitVec 5} {m : Bool} {st : BitVec 2} :
    encode (.vminnVs d a b m st) = some (leBytes 4 (mk32 (b) (a) (d) (BitVec.ofBool m) st 40 (15#6)).toNat) := rfl
theorem encode_vminnVi {d b i : BitVec 5} {m : Bool} {st : BitVec 2} :
    encode (.vminnVi d b i m st) = some (leBytes 4 (mk32 (b) (i) (d) (BitVec.ofBool m) st 41 (15#6)).toNat) := rfl
theorem encode_vmaxnVv {d a b : BitVec 5} {m : Bool} {st : BitVec 2} :
    encode (.vmaxnVv d a b m st) = some (leBytes 4 (mk32 (b) (a) (d) (BitVec.ofBool m) st 39 (16#6)).toNat) := rfl
theorem encode_vmaxnVs {d a b : BitVec 5} {m : Bool} {st : BitVec 2} :
    encode (.vmaxnVs d a b m st) = some (leBytes 4 (mk32 (b) (a) (d) (BitVec.ofBool m) st 40 (16#6)).toNat) := rfl
theorem encode_vmaxnVi {d b i : BitVec 5} {m : Bool} {st : BitVec 2} :
    encode (.vmaxnVi d b i m st) = some (leBytes 4 (mk32 (b) (i) (d) (BitVec.ofBool m) st 41 (16#6)).toNat) := rfl
theorem encode_vdivVv {d a b : BitVec 5} {m : Bool} {st : BitVec 2} :
    encode (.vdivVv d a b m st) = some (leBytes 4 (mk32 (b) (a) (d) (BitVec.ofBool m) st 39 (17#6)).toNat) := rfl
theorem encode_vdivVs {d a b : BitVec 5} {m : Bool} {st : BitVec 2} :
    encode (.vdivVs d a b m st) = some (leBytes 4 (mk32 (b) (a) (d) (BitVec.ofBool m) st 40 (17#6)).toNat) := rfl
theorem encode_vdivVi {d b i : BitVec 5} {m : Bool} {st : BitVec 2} :
    encode (.vdivVi d b i m st) = some (leBytes 4 (mk32 (b) (i) (d) (BitVec.ofBool m) st 41 (17#6)).toNat) := rfl
theorem encode_vdivnVv {d a b : BitVec 5} {m : Bool} {st : BitVec 2} :
    encode (.vdivnVv d a b m st) = some (leBytes 4 (mk32 (b) (a) (d) (BitVec.ofBool m) st 39 (18#6)).toNat) := rfl
theorem encode_vdivnVs {d a b : BitVec 5} {m : Bool} {st : BitVec 2} :
    encode (.vdivnVs d a b m st) = some (leBytes 4 (mk32 (b) (a) (d) (BitVec.ofBool m) st 40 (18#6)).toNat) := rfl
theorem encode_vdivnVi {d b i : BitVec 5} {m : Bool} {st : BitVec 2} :
    encode (.vdivnVi d b i m st) = some (leBytes 4 (mk32 (b) (i) (d) (BitVec.ofBool m) st 41 (18#6)).toNat) := rfl
theorem encode_vremVv {d a b : BitVec 5} {m : Bool} {st : BitVec 2} :
    encode (.vremVv d a b m st) = some (leBytes 4 (mk32 (b) (a) (d) (BitVec.ofBool m) st 39 (19#6)).toNat) := rfl
theorem encode_vremVs {d a b : BitVec 5} {m : Bool} {st : BitVec 2} :
    encode (.vremVs d a b m st) = some (leBytes 4 (mk32 (b) (a) (d) (BitVec.ofBool m) st 40 (19#6)).toNat) := rfl
theorem encode_vremVi {d b i : BitVec 5} {m : Bool} {st : BitVec 2} :
    encode (.vremVi d b i m st) = some (leBytes 4 (mk32 (b) (i) (d) (BitVec.ofBool m) st 41 (19#6)).toNat) := rfl
theorem encode_vremnVv {d a b : BitVec 5} {m : Bool} {st : BitVec 2} :
    encode (.vremnVv d a b m st) = some (leBytes 4 (mk32 (b) (a) (d) (BitVec.ofBool m) st 39 (20#6)).toNat) := rfl
theorem encode_vremnVs {d a b : BitVec 5} {m : Bool} {st : BitVec 2} :
    encode (.vremnVs d a b m st) = some (leBytes 4 (mk32 (b) (a) (d) (BitVec.ofBool m) st 40 (20#6)).toNat) := rfl
theorem encode_vremnVi {d b i : BitVec 5} {m : Bool} {st : BitVec 2} :
    encode (.vremnVi d b i m st) = some (leBytes 4 (mk32 (b) (i) (d) (BitVec.ofBool m) st 41 (20#6)).toNat) := rfl
theorem encode_vsaddVv {d a b : BitVec 5} {m : Bool} {st : BitVec 2} :
    encode (.vsaddVv d a b m st) = some (leBytes 4 (mk32 (b) (a) (d) (BitVec.ofBool m) st 39 (21#6)).toNat) := rfl
theorem encode_vsaddVs {d a b : BitVec 5} {m : Bool} {st : BitVec 2} :
    encode (.vsaddVs d a b m st) = some (leBytes 4 (mk32 (b) (a) (d) (BitVec.ofBool m) st 40 (21#6)).toNat) := rfl
theorem encode_vsaddVi {d b i : BitVec 5} {m : Bool} {st : BitVec 2} :
    encode (.vsaddVi d b i m st) = some (leBytes 4 (mk32 (b) (i) (d) (BitVec.ofBool m) st 41 (21#6)).toNat) := rfl
theorem encode_vssubVv {d a b : BitVec 5} {m : Bool} {st : BitVec 2} :
    encode (.vssubVv d a b m st) = some (leBytes 4 (mk32 (b) (a) (d) (BitVec.ofBool m) st 39 (22#6)).toNat) := rfl
theorem encode_vssubVs {d a b : BitVec 5} {m : Bool} {st : BitVec 2} :
    encode (.vssubVs d a b m st) = some (leBytes 4 (mk32 (b) (a) (d) (BitVec.ofBool m) st 40 (22#6)).toNat) := rfl
theorem encode_vssubVi {d b i : BitVec 5} {m : Bool} {st : BitVec 2} :
    encode (.vssubVi d b i m st) = some (leBytes 4 (mk32 (b) (i) (d) (BitVec.ofBool m) st 41 (22#6)).toNat) := rfl
theorem encode_vmergeVv {d : BitVec 5 × Bool} {a b : BitVec 5} {st : BitVec 2} :
    encode (.vmergeVv d a b st) = some (leBytes 4 (mk32 (b) (a) (d.1) (BitVec.ofBool d.2) st 39 (23#6)).toNat) := rfl
theorem encode_vmergeVs {d : BitVec 5 × Bool} {a b : BitVec 5} {st : BitVec 2} :
    encode (.vmergeVs d a b st) = some (leBytes 4 (mk32 (b) (a) (d.1) (BitVec.ofBool d.2) st 40 (23#6)).toNat) := rfl
theorem encode_vmergeVi {d : BitVec 5 × Bool} {b i : BitVec 5} {st : BitVec 2} :
    encode (.vmergeVi d b i st) = some (leBytes 4 (mk32 (b) (i) (d.1) (BitVec.ofBool d.2) st 41 (23#6)).toNat) := rfl
theorem encode_vmvVv {d a : BitVec 5} {m : Bool} {st : BitVec 2} :
    encode (.vmvVv d a m st) = some (leBytes 4 (mk32 (0#5) (a) (d) (BitVec.ofBool m) st 39 (24#6)).toNat) := rfl
theorem encode_vmvVs {d a : BitVec 5} {m : Bool} {st : BitVec 2} :
    encode (.vmvVs d a m st) = some (leBytes 4 (mk32 (0#5) (a) (d) (BitVec.ofBool m) st 40 (24#6)).toNat) := rfl
theorem encode_vmvVi {d i : BitVec 5} {m : Bool} {st : BitVec 2} :
    encode (.vmvVi d i m st) = some (leBytes 4 (mk32 (0#5) (i) (d) (BitVec.ofBool m) st 41 (24#6)).toNat) := rfl
theorem encode_vseqVv {d a b : BitVec 5} {m : Bool} {st : BitVec 2} :
    encode (.vseqVv d a b m st) = some (leBytes 4 (mk32 (b) (a) (d) (BitVec.ofBool m) st 39 (25#6)).toNat) := rfl
theorem encode_vseqVs {d a b : BitVec 5} {m : Bool} {st : BitVec 2} :
    encode (.vseqVs d a b m st) = some (leBytes 4 (mk32 (b) (a) (d) (BitVec.ofBool m) st 40 (25#6)).toNat) := rfl
theorem encode_vseqVi {d b i : BitVec 5} {m : Bool} {st : BitVec 2} :
    encode (.vseqVi d b i m st) = some (leBytes 4 (mk32 (b) (i) (d) (BitVec.ofBool m) st 41 (25#6)).toNat) := rfl
theorem encode_vsneVv {d a b : BitVec 5} {m : Bool} {st : BitVec 2} :
    encode (.vsneVv d a b m st) = some (leBytes 4 (mk32 (b) (a) (d) (BitVec.ofBool m) st 39 (26#6)).toNat) := rfl
theorem encode_vsneVs {d a b : BitVec 5} {m : Bool} {st : BitVec 2} :
    encode (.vsneVs d a b m st) = some (leBytes 4 (mk32 (b) (a) (d) (BitVec.ofBool m) st 40 (26#6)).toNat) := rfl
theorem encode_vsneVi {d b i : BitVec 5} {m : Bool} {st : BitVec 2} :
    encode (.vsneVi d b i m st) = some (leBytes 4 (mk32 (b) (i) (d) (BitVec.ofBool m) st 41 (26#6)).toNat) := rfl
theorem encode_vsltVv {d a b : BitVec 5} {m : Bool} {st : BitVec 2} :
    encode (.vsltVv d a b m st) = some (leBytes 4 (mk32 (b) (a) (d) (BitVec.ofBool m) st 39 (27#6)).toNat) := rfl
theorem encode_vsltVs {d a b : BitVec 5} {m : Bool} {st : BitVec 2} :
    encode (.vsltVs d a b m st) = some (leBytes 4 (mk32 (b) (a) (d) (BitVec.ofBool m) st 40 (27#6)).toNat) := rfl
theorem encode_vsltVi {d b i : BitVec 5} {m : Bool} {st : BitVec 2} :
    encode (.vsltVi d b i m st) = some (leBytes 4 (mk32 (b) (i) (d) (BitVec.ofBool m) st 41 (27#6)).toNat) := rfl
theorem encode_vsltnVv {d a b : BitVec 5} {m : Bool} {st : BitVec 2} :
    encode (.vsltnVv d a b m st) = some (leBytes 4 (mk32 (b) (a) (d) (BitVec.ofBool m) st 39 (28#6)).toNat) := rfl
theorem encode_vsltnVs {d a b : BitVec 5} {m : Bool} {st : BitVec 2} :
    encode (.vsltnVs d a b m st) = some (leBytes 4 (mk32 (b) (a) (d) (BitVec.ofBool m) st 40 (28#6)).toNat) := rfl
theorem encode_vsltnVi {d b i : BitVec 5} {m : Bool} {st : BitVec 2} :
    encode (.vsltnVi d b i m st) = some (leBytes 4 (mk32 (b) (i) (d) (BitVec.ofBool m) st 41 (28#6)).toNat) := rfl
theorem encode_vsleVv {d a b : BitVec 5} {m : Bool} {st : BitVec 2} :
    encode (.vsleVv d a b m st) = some (leBytes 4 (mk32 (b) (a) (d) (BitVec.ofBool m) st 39 (29#6)).toNat) := rfl
theorem encode_vsleVs {d a b : BitVec 5} {m : Bool} {st : BitVec 2} :
    encode (.vsleVs d a b m st) = some (leBytes 4 (mk32 (b) (a) (d) (BitVec.ofBool m) st 40 (29#6)).toNat) := rfl
theorem encode_vsleVi {d b i : BitVec 5} {m : Bool} {st : BitVec 2} :
    encode (.vsleVi d b i m st) = some (leBytes 4 (mk32 (b) (i) (d) (BitVec.ofBool m) st 41 (29#6)).toNat) := rfl
theorem encode_vslenVv {d a b : BitVec 5} {m : Bool} {st : BitVec 2} :
    encode (.vslenVv d a b m st) = some (leBytes 4 (mk32 (b) (a) (d) (BitVec.ofBool m) st 39 (30#6)).toNat) := rfl
theorem encode_vslenVs {d a b : BitVec 5} {m : Bool} {st : BitVec 2} :
    encode (.vslenVs d a b m st) = some (leBytes 4 (mk32 (b) (a) (d) (BitVec.ofBool m) st 40 (30#6)).toNat) := rfl
theorem encode_vslenVi {d b i : BitVec 5} {m : Bool} {st : BitVec 2} :
    encode (.vslenVi d b i m st) = some (leBytes 4 (mk32 (b) (i) (d) (BitVec.ofBool m) st 41 (30#6)).toNat) := rfl
theorem encode_vfaddVv {d a b : BitVec 5} {m : Bool} {st : BitVec 2} :
    encode (.vfaddVv d a b m st) = some (leBytes 4 (mk32 (b) (a) (d) (BitVec.ofBool m) st 42 (0#6)).toNat) := rfl
theorem encode_vfaddVs {d a b : BitVec 5} {m : Bool} {st : BitVec 2} :
    encode (.vfaddVs d a b m st) = some (leBytes 4 (mk32 (b) (a) (d) (BitVec.ofBool m) st 43 (0#6)).toNat) := rfl
theorem encode_vfsubVv {d a b : BitVec 5} {m : Bool} {st : BitVec 2} :
    encode (.vfsubVv d a b m st) = some (leBytes 4 (mk32 (b) (a) (d) (BitVec.ofBool m) st 42 (1#6)).toNat) := rfl
theorem encode_vfsubVs {d a b : BitVec 5} {m : Bool} {st : BitVec 2} :
    encode (.vfsubVs d a b m st) = some (leBytes 4 (mk32 (b) (a) (d) (BitVec.ofBool m) st 43 (1#6)).toNat) := rfl
theorem encode_vfmulVv {d a b : BitVec 5} {m : Bool} {st : BitVec 2} :
    encode (.vfmulVv d a b m st) = some (leBytes 4 (mk32 (b) (a) (d) (BitVec.ofBool m) st 42 (2#6)).toNat) := rfl
theorem encode_vfmulVs {d a b : BitVec 5} {m : Bool} {st : BitVec 2} :
    encode (.vfmulVs d a b m st) = some (leBytes 4 (mk32 (b) (a) (d) (BitVec.ofBool m) st 43 (2#6)).toNat) := rfl
theorem encode_vfdivVv {d a b : BitVec 5} {m : Bool} {st : BitVec 2} :
    encode (.vfdivVv d a b m st) = some (leBytes 4 (mk32 (b) (a) (d) (BitVec.ofBool m) st 42 (3#6)).toNat) := rfl
theorem encode_vfdivVs {d a b : BitVec 5} {m : Bool} {st : BitVec 2} :
    encode (.vfdivVs d a b m st) = some (leBytes 4 (mk32 (b) (a) (d) (BitVec.ofBool m) st 43 (3#6)).toNat) := rfl
theorem encode_vfsqrt {d : BitVec 5} {a : BitVec 5 × Option (BitVec 5)} {m : Bool} {st : BitVec 2} :
    encode (.vfsqrt d a m st) = some (leBytes 4 (mkUnary d a m st (4#6)).toNat) := rfl
theorem encode_vfrsqe {d : BitVec 5} {a : BitVec 5 × Option (BitVec 5)} {m : Bool} {st : BitVec 2} :
    encode (.vfrsqe d a m st) = some (leBytes 4 (mkUnary d a m st (5#6)).toNat) := rfl
theorem encode_vfrece {d : BitVec 5} {a : BitVec 5 × Option (BitVec 5)} {m : Bool} {st : BitVec 2} :
    encode (.vfrece d a m st) = some (leBytes 4 (mkUnary d a m st (6#6)).toNat) := rfl
theorem encode_vfexp {d : BitVec 5} {a : BitVec 5 × Option (BitVec 5)} {m : Bool} {st : BitVec 2} :
    encode (.vfexp d a m st) = some (leBytes 4 (mkUnary d a m st (7#6)).toNat) := rfl
theorem encode_vfexp2 {d : BitVec 5} {a : BitVec 5 × Option (BitVec 5)} {m : Bool} {st : BitVec 2} :
    encode (.vfexp2 d a m st) = some (leBytes 4 (mkUnary d a m st (8#6)).toNat) := rfl
theorem encode_vflog2 {d : BitVec 5} {a : BitVec 5 × Option (BitVec 5)} {m : Bool} {st : BitVec 2} :
    encode (.vflog2 d a m st) = some (leBytes 4 (mkUnary d a m st (9#6)).toNat) := rfl
theorem encode_vfminVv {d a b : BitVec 5} {m : Bool} {st : BitVec 2} :
    encode (.vfminVv d a b m st) = some (leBytes 4 (mk32 (b) (a) (d) (BitVec.ofBool m) st 42 (10#6)).toNat) := rfl
theorem encode_vfminVs {d a b : BitVec 5} {m : Bool} {st : BitVec 2} :
    encode (.vfminVs d a b m st) = some (leBytes 4 (mk32 (b) (a) (d) (BitVec.ofBool m) st 43 (10#6)).toNat) := rfl
theorem encode_vfmaxVv {d a b : BitVec 5} {m : Bool} {st : BitVec 2} :
    encode (.vfmaxVv d a b m st) = some (leBytes 4 (mk32 (b) (a) (d) (BitVec.ofBool m) st 42 (11#6)).toNat) := rfl
theorem encode_vfmaxVs {d a b : BitVec 5} {m : Bool} {st : BitVec 2} :
    encode (.vfmaxVs d a b m st) = some (leBytes 4 (mk32 (b) (a) (d) (BitVec.ofBool m) st 43 (11#6)).toNat) := rfl
theorem encode_vfsgnjVv {d a b : BitVec 5} {m : Bool} {st : BitVec 2} :
    encode (.vfsgnjVv d a b m st) = some (leBytes 4 (mk32 (b) (a) (d) (BitVec.ofBool m) st 42 (12#6)).toNat) := rfl
theorem encode_vfsgnjVs {d a b : BitVec 5} {m : Bool} {st : BitVec 2} :
    encode (.vfsgnjVs d a b m st) = some (leBytes 4 (mk32 (b) (a) (d) (BitVec.ofBool m) st 43 (12#6)).toNat) := rfl
theorem encode_vfsgnjnVv {d a b : BitVec 5} {m : Bool} {st : BitVec 2} :
    encode (.vfsgnjnVv d a b m st) = some (leBytes 4 (mk32 (b) (a) (d) (BitVec.ofBool m) st 42 (13#6)).toNat) := rfl
theorem encode_vfsgnjnVs {d a b : BitVec 5} {m : Bool} {st : BitVec 2} :
    encode (.vfsgnjnVs d a b m st) = some (leBytes 4 (mk32 (b) (a) (d) (BitVec.ofBool m) st 43 (13#6)).toNat) := rfl
theorem encode_vfsgnjxVv {d a b : BitVec 5} {m : Bool} {st : BitVec 2} :
    encode (.vfsgnjxVv d a b m st) = some (leBytes 4 (mk32 (b) (a) (d) (BitVec.ofBool m) st 42 (14#6)).toNat) := rfl
theorem encode_vfsgnjxVs {d a b : BitVec 5} {m : Bool} {st : BitVec 2} :
    encode (.vfsgnjxVs d a b m st) = some (leBytes 4 (mk32 (b) (a) (d) (BitVec.ofBool m) st 43 (14#6)).toNat) := rfl
theorem encode_vfeqVv {d a b : BitVec 5} {m : Bool} {st : BitVec 2} :
    encode (.vfeqVv d a b m st) = some (leBytes 4 (mk32 (b) (a) (d) (BitVec.ofBool m) st 42 (15#6)).toNat) := rfl
theorem encode_vfeqVs {d a b : BitVec 5} {m : Bool} {st : BitVec 2} :
    encode (.vfeqVs d a b m st) = some (leBytes 4 (mk32 (b) (a) (d) (BitVec.ofBool m) st 43 (15#6)).toNat) := rfl
theorem encode_vfneVv {d a b : BitVec 5} {m : Bool} {st : BitVec 2} :
    encode (.vfneVv d a b m st) = some (leBytes 4 (mk32 (b) (a) (d) (BitVec.ofBool m) st 42 (16#6)).toNat) := rfl
theorem encode_vfneVs {d a b : BitVec 5} {m : Bool} {st : BitVec 2} :
    encode (.vfneVs d a b m st) = some (leBytes 4 (mk32 (b) (a) (d) (BitVec.ofBool m) st 43 (16#6)).toNat) := rfl
theorem encode_vfltVv {d a b : BitVec 5} {m : Bool} {st : BitVec 2} :
    encode (.vfltVv d a b m st) = some (leBytes 4 (mk32 (b) (a) (d) (BitVec.ofBool m) st 42 (17#6)).toNat) := rfl
theorem encode_vfltVs {d a b : BitVec 5} {m : Bool} {st : BitVec 2} :
    encode (.vfltVs d a b m st) = some (leBytes 4 (mk32 (b) (a) (d) (BitVec.ofBool m) st 43 (17#6)).toNat) := rfl
theorem encode_vfleVv {d a b : BitVec 5} {m : Bool} {st : BitVec 2} :
    encode (.vfleVv d a b m st) = some (leBytes 4 (mk32 (b) (a) (d) (BitVec.ofBool m) st 42 (18#6)).toNat) := rfl
theorem encode_vfleVs {d a b : BitVec 5} {m : Bool} {st : BitVec 2} :
    encode (.vfleVs d a b m st) = some (leBytes 4 (mk32 (b) (a) (d) (BitVec.ofBool m) st 43 (18#6)).toNat) := rfl
theorem encode_vfclass {d : BitVec 5} {a : BitVec 5 × Option (BitVec 5)} {m : Bool} {st : BitVec 2} :
    encode (.vfclass d a m st) = some (leBytes 4 (mkUnary d a m st (19#6)).toNat) := rfl
theorem encode_vfcvt {d : BitVec 5} {a : BitVec 5 × Option (BitVec 5)} {m : Bool} {st : BitVec 2} :
    encode (.vfcvt d a m st) = some (leBytes 4 (mkUnary d a m st (20#6)).toNat) := rfl
theorem encode_vfround {d : BitVec 5} {a : BitVec 5 × Option (BitVec 5)} {m : Bool} {st : BitVec 2} :
    encode (.vfround d a m st) = some (leBytes 4 (mkUnary d a m st (21#6)).toNat) := rfl
theorem encode_vfmergeVv {d : BitVec 5 × Bool} {a b : BitVec 5} {st : BitVec 2} :
    encode (.vfmergeVv d a b st) = some (leBytes 4 (mk32 (b) (a) (d.1) (BitVec.ofBool d.2) st 42 (22#6)).toNat) := rfl
theorem encode_vfmergeVs {d : BitVec 5 × Bool} {a b : BitVec 5} {st : BitVec 2} :
    encode (.vfmergeVs d a b st) = some (leBytes 4 (mk32 (b) (a) (d.1) (BitVec.ofBool d.2) st 43 (22#6)).toNat) := rfl
theorem encode_vfmaccVv {d a b : BitVec 5} {m : Bool} {st : BitVec 2} :
    encode (.vfmaccVv d a b m st) = some (leBytes 4 (mk32 (b) (a) (d) (BitVec.ofBool m) st 44 (0#6)).toNat) := rfl
theorem encode_vfnmaccVv {d a b : BitVec 5} {m : Bool} {st : BitVec 2} :
    encode (.vfnmaccVv d a b m st) = some (leBytes 4 (mk32 (b) (a) (d) (BitVec.ofBool m) st 44 (1#6)).toNat) := rfl
theorem encode_vfmsacVv {d a b : BitVec 5} {m : Bool} {st : BitVec 2} :
    encode (.vfmsacVv d a b m st) = some (leBytes 4 (mk32 (b) (a) (d) (BitVec.ofBool m) st 44 (2#6)).toNat) := rfl
theorem encode_vfnmsacVv {d a b : BitVec 5} {m : Bool} {st : BitVec 2} :
    encode (.vfnmsacVv d a b m st) = some (leBytes 4 (mk32 (b) (a) (d) (BitVec.ofBool m) st 44 (3#6)).toNat) := rfl
theorem encode_vfmaccVs {d a b : BitVec 5} {m : Bool} {st : BitVec 2} :
    encode (.vfmaccVs d a b m st) = some (leBytes 4 (mk32 (b) (a) (d) (BitVec.ofBool m) st 44 (4#6)).toNat) := rfl
theorem encode_vfnmaccVs {d a b : BitVec 5} {m : Bool} {st : BitVec 2} :
    encode (.vfnmaccVs d a b m st) = some (leBytes 4 (mk32 (b) (a) (d) (BitVec.ofBool m) st 44 (5#6)).toNat) := rfl
theorem encode_vfmsacVs {d a b : BitVec 5} {m : Bool} {st : BitVec 2} :
    encode (.vfmsacVs d a b m st) = some (leBytes 4 (mk32 (b) (a) (d) (BitVec.ofBool m) st 44 (6#6)).toNat) := rfl
theorem encode_vfnmsacVs {d a b : BitVec 5} {m : Bool} {st : BitVec 2} :
    encode (.vfnmsacVs d a b m st) = some (leBytes 4 (mk32 (b) (a) (d) (BitVec.ofBool m) st 44 (7#6)).toNat) := rfl
theorem encode_vredsum {d a b : BitVec 5} {m : Bool} {st : BitVec 2} :
    encode (.vredsum d a b m st) = some (leBytes 4 (mk32 (b) (a) (d) (BitVec.ofBool m) st 45 (0#6)).toNat) := rfl
theorem encode_vredand {d a b : BitVec 5} {m : Bool} {st : BitVec 2} :
    encode (.vredand d a b m st) = some (leBytes 4 (mk32 (b) (a) (d) (BitVec.ofBool m) st 45 (1#6)).toNat) := rfl
theorem encode_vredor {d a b : BitVec 5} {m : Bool} {st : BitVec 2} :
    encode (.vredor d a b m st) = some (leBytes 4 (mk32 (b) (a) (d) (BitVec.ofBool m) st 45 (2#6)).toNat) := rfl
theorem encode_vredxor {d a b : BitVec 5} {m : Bool} {st : BitVec 2} :
    encode (.vredxor d a b m st) = some (leBytes 4 (mk32 (b) (a) (d) (BitVec.ofBool m) st 45 (3#6)).toNat) := rfl
theorem encode_vredmin {d a b : BitVec 5} {m : Bool} {st : BitVec 2} :
    encode (.vredmin d a b m st) = some (leBytes 4 (mk32 (b) (a) (d) (BitVec.ofBool m) st 45 (4#6)).toNat) := rfl
theorem encode_vredmax {d a b : BitVec 5} {m : Bool} {st : BitVec 2} :
    encode (.vredmax d a b m st) = some (leBytes 4 (mk32 (b) (a) (d) (BitVec.ofBool m) st 45 (5#6)).toNat) := rfl
theorem encode_vredminn {d a b : BitVec 5} {m : Bool} {st : BitVec 2} :
    encode (.vredminn d a b m st) = some (leBytes 4 (mk32 (b) (a) (d) (BitVec.ofBool m) st 45 (6#6)).toNat) := rfl
theorem encode_vredmaxn {d a b : BitVec 5} {m : Bool} {st : BitVec 2} :
    encode (.vredmaxn d a b m st) = some (leBytes 4 (mk32 (b) (a) (d) (BitVec.ofBool m) st 45 (7#6)).toNat) := rfl
theorem encode_vfredsum {d a b : BitVec 5} {m : Bool} {st : BitVec 2} :
    encode (.vfredsum d a b m st) = some (leBytes 4 (mk32 (b) (a) (d) (BitVec.ofBool m) st 45 (8#6)).toNat) := rfl
theorem encode_vfredmin {d a b : BitVec 5} {m : Bool} {st : BitVec 2} :
    encode (.vfredmin d a b m st) = some (leBytes 4 (mk32 (b) (a) (d) (BitVec.ofBool m) st 45 (9#6)).toNat) := rfl
theorem encode_vfredmax {d a b : BitVec 5} {m : Bool} {st : BitVec 2} :
    encode (.vfredmax d a b m st) = some (leBytes 4 (mk32 (b) (a) (d) (BitVec.ofBool m) st 45 (10#6)).toNat) := rfl
theorem encode_vscan {d a : BitVec 5} {m : Bool} {st : BitVec 2} :
    encode (.vscan d a m st) = some (leBytes 4 (mk32 (0#5) (a) (d) (BitVec.ofBool m) st 45 (11#6)).toNat) := rfl
theorem encode_vfscan {d a : BitVec 5} {m : Bool} {st : BitVec 2} :
    encode (.vfscan d a m st) = some (leBytes 4 (mk32 (0#5) (a) (d) (BitVec.ofBool m) st 45 (12#6)).toNat) := rfl
theorem encode_vsmx {d a b : BitVec 5} {m : Bool} {st : BitVec 2} :
    encode (.vsmx d a b m st) = some (leBytes 4 (mk32 (b) (a) (d) (BitVec.ofBool m) st 45 (13#6)).toNat) := rfl
theorem encode_vslideup {d a b : BitVec 5} {m : Bool} {st : BitVec 2} :
    encode (.vslideup d a b m st) = some (leBytes 4 (mk32 (b) (a) (d) (BitVec.ofBool m) st 46 (0#6)).toNat) := rfl
theorem encode_vslidedn {d a b : BitVec 5} {m : Bool} {st : BitVec 2} :
    encode (.vslidedn d a b m st) = some (leBytes 4 (mk32 (b) (a) (d) (BitVec.ofBool m) st 46 (1#6)).toNat) := rfl
theorem encode_vslide1up {d a b : BitVec 5} {m : Bool} {st : BitVec 2} :
    encode (.vslide1up d a b m st) = some (leBytes 4 (mk32 (b) (a) (d) (BitVec.ofBool m) st 46 (2#6)).toNat) := rfl
theorem encode_vslide1dn {d a b : BitVec 5} {m : Bool} {st : BitVec 2} :
    encode (.vslide1dn d a b m st) = some (leBytes 4 (mk32 (b) (a) (d) (BitVec.ofBool m) st 46 (3#6)).toNat) := rfl
theorem encode_vrgath {d a b : BitVec 5} {m : Bool} {st : BitVec 2} :
    encode (.vrgath d a b m st) = some (leBytes 4 (mk32 (b) (a) (d) (BitVec.ofBool m) st 46 (4#6)).toNat) := rfl
theorem encode_vcompress {d a : BitVec 5} {m : Bool} {st : BitVec 2} :
    encode (.vcompress d a m st) = some (leBytes 4 (mk32 (0#5) (a) (d) (BitVec.ofBool m) st 46 (5#6)).toNat) := rfl
theorem encode_vexpand {d a : BitVec 5} {m : Bool} {st : BitVec 2} :
    encode (.vexpand d a m st) = some (leBytes 4 (mk32 (0#5) (a) (d) (BitVec.ofBool m) st 46 (6#6)).toNat) := rfl
theorem encode_vzip {d a b : BitVec 5} {m : Bool} {st : BitVec 2} :
    encode (.vzip d a b m st) = some (leBytes 4 (mk32 (b) (a) (d) (BitVec.ofBool m) st 46 (7#6)).toNat) := rfl
theorem encode_vunzipe {d a : BitVec 5} {m : Bool} {st : BitVec 2} :
    encode (.vunzipe d a m st) = some (leBytes 4 (mk32 (0#5) (a) (d) (BitVec.ofBool m) st 46 (8#6)).toNat) := rfl
theorem encode_vunzipo {d a : BitVec 5} {m : Bool} {st : BitVec 2} :
    encode (.vunzipo d a m st) = some (leBytes 4 (mk32 (0#5) (a) (d) (BitVec.ofBool m) st 46 (9#6)).toNat) := rfl
theorem encode_vdrot {d a : BitVec 5} {m : Bool} {st : BitVec 2} :
    encode (.vdrot d a m st) = some (leBytes 4 (mk32 (0#5) (a) (d) (BitVec.ofBool m) st 46 (10#6)).toNat) := rfl
theorem encode_vsplat {d a : BitVec 5} {m : Bool} {st : BitVec 2} :
    encode (.vsplat d a m st) = some (leBytes 4 (mk32 (0#5) (a) (d) (BitVec.ofBool m) st 46 (11#6)).toNat) := rfl
theorem encode_vid {d : BitVec 5} {m : Bool} {st : BitVec 2} :
    encode (.vid d m st) = some (leBytes 4 (mk32 (0#5) (0#5) (d) (BitVec.ofBool m) st 46 (12#6)).toNat) := rfl
theorem encode_vins {d a b : BitVec 5} {m : Bool} {st : BitVec 2} :
    encode (.vins d a b m st) = some (leBytes 4 (mk32 (b) (a) (d) (BitVec.ofBool m) st 46 (13#6)).toNat) := rfl
theorem encode_vext {d a b : BitVec 5} {st : BitVec 2} :
    encode (.vext d a b st) = some (leBytes 4 (mk32 (b) (a) (d) (0#1) st 46 (14#6)).toNat) := rfl
theorem encode_mand {d a b : BitVec 5} {st : BitVec 2} :
    encode (.mand d a b st) = some (leBytes 4 (mk32 (b) (a) (d) (0#1) st 47 (0#6)).toNat) := rfl
theorem encode_mor {d a b : BitVec 5} {st : BitVec 2} :
    encode (.mor d a b st) = some (leBytes 4 (mk32 (b) (a) (d) (0#1) st 47 (1#6)).toNat) := rfl
theorem encode_mxor {d a b : BitVec 5} {st : BitVec 2} :
    encode (.mxor d a b st) = some (leBytes 4 (mk32 (b) (a) (d) (0#1) st 47 (2#6)).toNat) := rfl
theorem encode_mandn {d a b : BitVec 5} {st : BitVec 2} :
    encode (.mandn d a b st) = some (leBytes 4 (mk32 (b) (a) (d) (0#1) st 47 (3#6)).toNat) := rfl
theorem encode_mnot {d a : BitVec 5} {st : BitVec 2} :
    encode (.mnot d a st) = some (leBytes 4 (mk32 (0#5) (a) (d) (0#1) st 47 (4#6)).toNat) := rfl
theorem encode_mset {d : BitVec 5} {st : BitVec 2} :
    encode (.mset d st) = some (leBytes 4 (mk32 (0#5) (0#5) (d) (0#1) st 47 (5#6)).toNat) := rfl
theorem encode_mclr {d : BitVec 5} {st : BitVec 2} :
    encode (.mclr d st) = some (leBytes 4 (mk32 (0#5) (0#5) (d) (0#1) st 47 (6#6)).toNat) := rfl
theorem encode_mmv {d a : BitVec 5} {st : BitVec 2} :
    encode (.mmv d a st) = some (leBytes 4 (mk32 (0#5) (a) (d) (0#1) st 47 (7#6)).toNat) := rfl
theorem encode_mpop {d a : BitVec 5} {st : BitVec 2} :
    encode (.mpop d a st) = some (leBytes 4 (mk32 (0#5) (a) (d) (0#1) st 47 (8#6)).toNat) := rfl
theorem encode_mfirst {d a : BitVec 5} {st : BitVec 2} :
    encode (.mfirst d a st) = some (leBytes 4 (mk32 (0#5) (a) (d) (0#1) st 47 (9#6)).toNat) := rfl
theorem encode_msbf {d a : BitVec 5} {st : BitVec 2} :
    encode (.msbf d a st) = some (leBytes 4 (mk32 (0#5) (a) (d) (0#1) st 47 (10#6)).toNat) := rfl
theorem encode_mfromv {d a : BitVec 5} {st : BitVec 2} :
    encode (.mfromv d a st) = some (leBytes 4 (mk32 (0#5) (a) (d) (0#1) st 47 (11#6)).toNat) := rfl
theorem encode_mtov {d a : BitVec 5} {st : BitVec 2} :
    encode (.mtov d a st) = some (leBytes 4 (mk32 (0#5) (a) (d) (0#1) st 47 (12#6)).toNat) := rfl
theorem encode_vld16 {d a : BitVec 5} {c : BitVec 4} {m : Bool} {st : BitVec 2} :
    encode (.vld16 d a c m st) = some (leBytes 4 (mk32 (0#5) (a) (d) (BitVec.ofBool m) st 48 (c ++ 0#2)).toNat) := rfl
theorem encode_vlds16 {d a b : BitVec 5} {c : BitVec 4} {m : Bool} {st : BitVec 2} :
    encode (.vlds16 d a b c m st) = some (leBytes 4 (mk32 (b) (a) (d) (BitVec.ofBool m) st 48 (c ++ 1#2)).toNat) := rfl
theorem encode_vldx16 {d a b : BitVec 5} {c : BitVec 4} {m : Bool} {st : BitVec 2} :
    encode (.vldx16 d a b c m st) = some (leBytes 4 (mk32 (b) (a) (d) (BitVec.ofBool m) st 48 (c ++ 2#2)).toNat) := rfl
theorem encode_vldff16 {d a : BitVec 5} {c : BitVec 4} {m : Bool} {st : BitVec 2} :
    encode (.vldff16 d a c m st) = some (leBytes 4 (mk32 (0#5) (a) (d) (BitVec.ofBool m) st 48 (c ++ 3#2)).toNat) := rfl
theorem encode_vld32 {d a : BitVec 5} {c : BitVec 4} {m : Bool} {st : BitVec 2} :
    encode (.vld32 d a c m st) = some (leBytes 4 (mk32 (0#5) (a) (d) (BitVec.ofBool m) st 49 (c ++ 0#2)).toNat) := rfl
theorem encode_vlds32 {d a b : BitVec 5} {c : BitVec 4} {m : Bool} {st : BitVec 2} :
    encode (.vlds32 d a b c m st) = some (leBytes 4 (mk32 (b) (a) (d) (BitVec.ofBool m) st 49 (c ++ 1#2)).toNat) := rfl
theorem encode_vldx32 {d a b : BitVec 5} {c : BitVec 4} {m : Bool} {st : BitVec 2} :
    encode (.vldx32 d a b c m st) = some (leBytes 4 (mk32 (b) (a) (d) (BitVec.ofBool m) st 49 (c ++ 2#2)).toNat) := rfl
theorem encode_vldff32 {d a : BitVec 5} {c : BitVec 4} {m : Bool} {st : BitVec 2} :
    encode (.vldff32 d a c m st) = some (leBytes 4 (mk32 (0#5) (a) (d) (BitVec.ofBool m) st 49 (c ++ 3#2)).toNat) := rfl
theorem encode_vld64 {d a : BitVec 5} {c : BitVec 4} {m : Bool} {st : BitVec 2} :
    encode (.vld64 d a c m st) = some (leBytes 4 (mk32 (0#5) (a) (d) (BitVec.ofBool m) st 50 (c ++ 0#2)).toNat) := rfl
theorem encode_vlds64 {d a b : BitVec 5} {c : BitVec 4} {m : Bool} {st : BitVec 2} :
    encode (.vlds64 d a b c m st) = some (leBytes 4 (mk32 (b) (a) (d) (BitVec.ofBool m) st 50 (c ++ 1#2)).toNat) := rfl
theorem encode_vldx64 {d a b : BitVec 5} {c : BitVec 4} {m : Bool} {st : BitVec 2} :
    encode (.vldx64 d a b c m st) = some (leBytes 4 (mk32 (b) (a) (d) (BitVec.ofBool m) st 50 (c ++ 2#2)).toNat) := rfl
theorem encode_vldff64 {d a : BitVec 5} {c : BitVec 4} {m : Bool} {st : BitVec 2} :
    encode (.vldff64 d a c m st) = some (leBytes 4 (mk32 (0#5) (a) (d) (BitVec.ofBool m) st 50 (c ++ 3#2)).toNat) := rfl
theorem encode_vst16 {d a : BitVec 5} {c : BitVec 4} {m : Bool} {st : BitVec 2} :
    encode (.vst16 d a c m st) = some (leBytes 4 (mk32 (0#5) (a) (d) (BitVec.ofBool m) st 51 (c ++ 0#2)).toNat) := rfl
theorem encode_vsts16 {d a b : BitVec 5} {c : BitVec 4} {m : Bool} {st : BitVec 2} :
    encode (.vsts16 d a b c m st) = some (leBytes 4 (mk32 (b) (a) (d) (BitVec.ofBool m) st 51 (c ++ 1#2)).toNat) := rfl
theorem encode_vstxo16 {d a b : BitVec 5} {c : BitVec 4} {m : Bool} {st : BitVec 2} :
    encode (.vstxo16 d a b c m st) = some (leBytes 4 (mk32 (b) (a) (d) (BitVec.ofBool m) st 51 (c ++ 2#2)).toNat) := rfl
theorem encode_vstxa16 {d a b : BitVec 5} {c : BitVec 4} {m : Bool} {st : BitVec 2} :
    encode (.vstxa16 d a b c m st) = some (leBytes 4 (mk32 (b) (a) (d) (BitVec.ofBool m) st 51 (c ++ 3#2)).toNat) := rfl
theorem encode_vst32 {d a : BitVec 5} {c : BitVec 4} {m : Bool} {st : BitVec 2} :
    encode (.vst32 d a c m st) = some (leBytes 4 (mk32 (0#5) (a) (d) (BitVec.ofBool m) st 52 (c ++ 0#2)).toNat) := rfl
theorem encode_vsts32 {d a b : BitVec 5} {c : BitVec 4} {m : Bool} {st : BitVec 2} :
    encode (.vsts32 d a b c m st) = some (leBytes 4 (mk32 (b) (a) (d) (BitVec.ofBool m) st 52 (c ++ 1#2)).toNat) := rfl
theorem encode_vstxo32 {d a b : BitVec 5} {c : BitVec 4} {m : Bool} {st : BitVec 2} :
    encode (.vstxo32 d a b c m st) = some (leBytes 4 (mk32 (b) (a) (d) (BitVec.ofBool m) st 52 (c ++ 2#2)).toNat) := rfl
theorem encode_vstxa32 {d a b : BitVec 5} {c : BitVec 4} {m : Bool} {st : BitVec 2} :
    encode (.vstxa32 d a b c m st) = some (leBytes 4 (mk32 (b) (a) (d) (BitVec.ofBool m) st 52 (c ++ 3#2)).toNat) := rfl
theorem encode_vst64 {d a : BitVec 5} {c : BitVec 4} {m : Bool} {st : BitVec 2} :
    encode (.vst64 d a c m st) = some (leBytes 4 (mk32 (0#5) (a) (d) (BitVec.ofBool m) st 53 (c ++ 0#2)).toNat) := rfl
theorem encode_vsts64 {d a b : BitVec 5} {c : BitVec 4} {m : Bool} {st : BitVec 2} :
    encode (.vsts64 d a b c m st) = some (leBytes 4 (mk32 (b) (a) (d) (BitVec.ofBool m) st 53 (c ++ 1#2)).toNat) := rfl
theorem encode_vstxo64 {d a b : BitVec 5} {c : BitVec 4} {m : Bool} {st : BitVec 2} :
    encode (.vstxo64 d a b c m st) = some (leBytes 4 (mk32 (b) (a) (d) (BitVec.ofBool m) st 53 (c ++ 2#2)).toNat) := rfl
theorem encode_vstxa64 {d a b : BitVec 5} {c : BitVec 4} {m : Bool} {st : BitVec 2} :
    encode (.vstxa64 d a b c m st) = some (leBytes 4 (mk32 (b) (a) (d) (BitVec.ofBool m) st 53 (c ++ 3#2)).toNat) := rfl
theorem encode_ldi {d : BitVec 5} {imm : BitVec 43} {st : BitVec 2} :
    encode (.ldi d imm st) = some (leBytes 8 (imm ++ d ++ 3#2 ++ st ++ 1#6 ++ 0#6).toNat) := rfl
theorem encode_ldih {d : BitVec 5} {imm : BitVec 21} {st : BitVec 2} :
    encode (.ldih d imm st) = some (leBytes 8 (0#22 ++ imm ++ d ++ 3#2 ++ st ++ 1#6 ++ 1#6).toNat) := rfl
theorem encode_lacq {d a : BitVec 5} {imm : BitVec 11} {w scope : BitVec 2} {cls : BitVec 4} {st : BitVec 2} :
    encode (.lacq d a imm w scope cls st) = some (leBytes 8 (mk64 0 (imm) scope cls (0) 0 0 0 a d st 2 (0#4 ++ w)).toNat) := rfl
theorem encode_srel {b a : BitVec 5} {imm : BitVec 11} {w scope : BitVec 2} {cls : BitVec 4} {st : BitVec 2} :
    encode (.srel b a imm w scope cls st) = some (leBytes 8 (mk64 1 (imm) scope cls (0) 0 0 b a 0 st 2 (0#4 ++ w)).toNat) := rfl
theorem encode_aswap {d a b : BitVec 5} {imm : BitVec 11} {ord : BitVec 2} {wide : Bool} {scope : BitVec 2} {cls : BitVec 4} {st : BitVec 2} :
    encode (.aswap d a b imm ord wide scope cls st) = some (leBytes 8 (mk64 0 (imm) scope cls (0) 0 0 b a d st 3 (0#3 ++ BitVec.ofBool wide ++ ord)).toNat) := rfl
theorem encode_aadd {d a b : BitVec 5} {imm : BitVec 11} {ord : BitVec 2} {wide : Bool} {scope : BitVec 2} {cls : BitVec 4} {st : BitVec 2} :
    encode (.aadd d a b imm ord wide scope cls st) = some (leBytes 8 (mk64 1 (imm) scope cls (0) 0 0 b a d st 3 (0#3 ++ BitVec.ofBool wide ++ ord)).toNat) := rfl
theorem encode_aand {d a b : BitVec 5} {imm : BitVec 11} {ord : BitVec 2} {wide : Bool} {scope : BitVec 2} {cls : BitVec 4} {st : BitVec 2} :
    encode (.aand d a b imm ord wide scope cls st) = some (leBytes 8 (mk64 2 (imm) scope cls (0) 0 0 b a d st 3 (0#3 ++ BitVec.ofBool wide ++ ord)).toNat) := rfl
theorem encode_aor {d a b : BitVec 5} {imm : BitVec 11} {ord : BitVec 2} {wide : Bool} {scope : BitVec 2} {cls : BitVec 4} {st : BitVec 2} :
    encode (.aor d a b imm ord wide scope cls st) = some (leBytes 8 (mk64 3 (imm) scope cls (0) 0 0 b a d st 3 (0#3 ++ BitVec.ofBool wide ++ ord)).toNat) := rfl
theorem encode_axor {d a b : BitVec 5} {imm : BitVec 11} {ord : BitVec 2} {wide : Bool} {scope : BitVec 2} {cls : BitVec 4} {st : BitVec 2} :
    encode (.axor d a b imm ord wide scope cls st) = some (leBytes 8 (mk64 4 (imm) scope cls (0) 0 0 b a d st 3 (0#3 ++ BitVec.ofBool wide ++ ord)).toNat) := rfl
theorem encode_amin {d a b : BitVec 5} {imm : BitVec 11} {ord : BitVec 2} {wide : Bool} {scope : BitVec 2} {cls : BitVec 4} {st : BitVec 2} :
    encode (.amin d a b imm ord wide scope cls st) = some (leBytes 8 (mk64 5 (imm) scope cls (0) 0 0 b a d st 3 (0#3 ++ BitVec.ofBool wide ++ ord)).toNat) := rfl
theorem encode_amax {d a b : BitVec 5} {imm : BitVec 11} {ord : BitVec 2} {wide : Bool} {scope : BitVec 2} {cls : BitVec 4} {st : BitVec 2} :
    encode (.amax d a b imm ord wide scope cls st) = some (leBytes 8 (mk64 6 (imm) scope cls (0) 0 0 b a d st 3 (0#3 ++ BitVec.ofBool wide ++ ord)).toNat) := rfl
theorem encode_aminn {d a b : BitVec 5} {imm : BitVec 11} {ord : BitVec 2} {wide : Bool} {scope : BitVec 2} {cls : BitVec 4} {st : BitVec 2} :
    encode (.aminn d a b imm ord wide scope cls st) = some (leBytes 8 (mk64 7 (imm) scope cls (0) 0 0 b a d st 3 (0#3 ++ BitVec.ofBool wide ++ ord)).toNat) := rfl
theorem encode_amaxn {d a b : BitVec 5} {imm : BitVec 11} {ord : BitVec 2} {wide : Bool} {scope : BitVec 2} {cls : BitVec 4} {st : BitVec 2} :
    encode (.amaxn d a b imm ord wide scope cls st) = some (leBytes 8 (mk64 8 (imm) scope cls (0) 0 0 b a d st 3 (0#3 ++ BitVec.ofBool wide ++ ord)).toNat) := rfl
theorem encode_ainc {d a b : BitVec 5} {imm : BitVec 11} {ord : BitVec 2} {wide : Bool} {scope : BitVec 2} {cls : BitVec 4} {st : BitVec 2} :
    encode (.ainc d a b imm ord wide scope cls st) = some (leBytes 8 (mk64 9 (imm) scope cls (0) 0 0 b a d st 3 (0#3 ++ BitVec.ofBool wide ++ ord)).toNat) := rfl
theorem encode_adec {d a b : BitVec 5} {imm : BitVec 11} {ord : BitVec 2} {wide : Bool} {scope : BitVec 2} {cls : BitVec 4} {st : BitVec 2} :
    encode (.adec d a b imm ord wide scope cls st) = some (leBytes 8 (mk64 10 (imm) scope cls (0) 0 0 b a d st 3 (0#3 ++ BitVec.ofBool wide ++ ord)).toNat) := rfl
theorem encode_abadd {d a b e : BitVec 5} {imm : BitVec 11} {ord : BitVec 2} {wide : Bool} {scope : BitVec 2} {cls : BitVec 4} {st : BitVec 2} :
    encode (.abadd d a b e imm ord wide scope cls st) = some (leBytes 8 (mk64 11 (imm) scope cls (0) 0 e b a d st 3 (0#3 ++ BitVec.ofBool wide ++ ord)).toNat) := rfl
theorem encode_acas {d a b e : BitVec 5} {imm : BitVec 11} {ord : BitVec 2} {wide : Bool} {scope : BitVec 2} {cls : BitVec 4} {st : BitVec 2} :
    encode (.acas d a b e imm ord wide scope cls st) = some (leBytes 8 (mk64 12 (imm) scope cls (0) 0 e b a d st 3 (0#3 ++ BitVec.ofBool wide ++ ord)).toNat) := rfl
theorem encode_ll {d a : BitVec 5} {imm : BitVec 11} {ord : BitVec 2} {wide : Bool} {scope : BitVec 2} {cls : BitVec 4} {st : BitVec 2} :
    encode (.ll d a imm ord wide scope cls st) = some (leBytes 8 (mk64 13 (imm) scope cls (0) 0 0 0 a d st 3 (0#3 ++ BitVec.ofBool wide ++ ord)).toNat) := rfl
theorem encode_sc {d a b : BitVec 5} {imm : BitVec 11} {ord : BitVec 2} {wide : Bool} {scope : BitVec 2} {cls : BitVec 4} {st : BitVec 2} :
    encode (.sc d a b imm ord wide scope cls st) = some (leBytes 8 (mk64 14 (imm) scope cls (0) 0 0 b a d st 3 (0#3 ++ BitVec.ofBool wide ++ ord)).toNat) := rfl
theorem encode_vaadd {d a b e : BitVec 5} {ret : Bool} {dm : BitVec 8} {me : Bool} {mi : BitVec 4} {scope : BitVec 2} {cls : BitVec 4} {st : BitVec 2} :
    encode (.vaadd d a b e ret dm me mi scope cls st) = some (leBytes 8 (mk64 0 (0#3 ++ dm) scope cls (BitVec.ofBool me) mi e b a d st 4 (0#5 ++ BitVec.ofBool ret)).toNat) := rfl
theorem encode_vaand {d a b e : BitVec 5} {ret : Bool} {dm : BitVec 8} {me : Bool} {mi : BitVec 4} {scope : BitVec 2} {cls : BitVec 4} {st : BitVec 2} :
    encode (.vaand d a b e ret dm me mi scope cls st) = some (leBytes 8 (mk64 1 (0#3 ++ dm) scope cls (BitVec.ofBool me) mi e b a d st 4 (0#5 ++ BitVec.ofBool ret)).toNat) := rfl
theorem encode_vaor {d a b e : BitVec 5} {ret : Bool} {dm : BitVec 8} {me : Bool} {mi : BitVec 4} {scope : BitVec 2} {cls : BitVec 4} {st : BitVec 2} :
    encode (.vaor d a b e ret dm me mi scope cls st) = some (leBytes 8 (mk64 2 (0#3 ++ dm) scope cls (BitVec.ofBool me) mi e b a d st 4 (0#5 ++ BitVec.ofBool ret)).toNat) := rfl
theorem encode_vaxor {d a b e : BitVec 5} {ret : Bool} {dm : BitVec 8} {me : Bool} {mi : BitVec 4} {scope : BitVec 2} {cls : BitVec 4} {st : BitVec 2} :
    encode (.vaxor d a b e ret dm me mi scope cls st) = some (leBytes 8 (mk64 3 (0#3 ++ dm) scope cls (BitVec.ofBool me) mi e b a d st 4 (0#5 ++ BitVec.ofBool ret)).toNat) := rfl
theorem encode_vamin {d a b e : BitVec 5} {ret : Bool} {dm : BitVec 8} {me : Bool} {mi : BitVec 4} {scope : BitVec 2} {cls : BitVec 4} {st : BitVec 2} :
    encode (.vamin d a b e ret dm me mi scope cls st) = some (leBytes 8 (mk64 4 (0#3 ++ dm) scope cls (BitVec.ofBool me) mi e b a d st 4 (0#5 ++ BitVec.ofBool ret)).toNat) := rfl
theorem encode_vamax {d a b e : BitVec 5} {ret : Bool} {dm : BitVec 8} {me : Bool} {mi : BitVec 4} {scope : BitVec 2} {cls : BitVec 4} {st : BitVec 2} :
    encode (.vamax d a b e ret dm me mi scope cls st) = some (leBytes 8 (mk64 5 (0#3 ++ dm) scope cls (BitVec.ofBool me) mi e b a d st 4 (0#5 ++ BitVec.ofBool ret)).toNat) := rfl
theorem encode_vaswap {d a b e : BitVec 5} {ret : Bool} {dm : BitVec 8} {me : Bool} {mi : BitVec 4} {scope : BitVec 2} {cls : BitVec 4} {st : BitVec 2} :
    encode (.vaswap d a b e ret dm me mi scope cls st) = some (leBytes 8 (mk64 6 (0#3 ++ dm) scope cls (BitVec.ofBool me) mi e b a d st 4 (0#5 ++ BitVec.ofBool ret)).toNat) := rfl
theorem encode_vainc {d a b e : BitVec 5} {ret : Bool} {dm : BitVec 8} {me : Bool} {mi : BitVec 4} {scope : BitVec 2} {cls : BitVec 4} {st : BitVec 2} :
    encode (.vainc d a b e ret dm me mi scope cls st) = some (leBytes 8 (mk64 7 (0#3 ++ dm) scope cls (BitVec.ofBool me) mi e b a d st 4 (0#5 ++ BitVec.ofBool ret)).toNat) := rfl
theorem encode_vabadd {d a b e : BitVec 5} {ret : Bool} {dm : BitVec 8} {me : Bool} {mi : BitVec 4} {scope : BitVec 2} {cls : BitVec 4} {st : BitVec 2} :
    encode (.vabadd d a b e ret dm me mi scope cls st) = some (leBytes 8 (mk64 8 (0#3 ++ dm) scope cls (BitVec.ofBool me) mi e b a d st 4 (0#5 ++ BitVec.ofBool ret)).toNat) := rfl
theorem encode_vfaadd {d a b e : BitVec 5} {ret : Bool} {dm : BitVec 8} {me : Bool} {mi : BitVec 4} {scope : BitVec 2} {cls : BitVec 4} {st : BitVec 2} :
    encode (.vfaadd d a b e ret dm me mi scope cls st) = some (leBytes 8 (mk64 9 (0#3 ++ dm) scope cls (BitVec.ofBool me) mi e b a d st 4 (0#5 ++ BitVec.ofBool ret)).toNat) := rfl
theorem encode_vfamax {d a b e : BitVec 5} {ret : Bool} {dm : BitVec 8} {me : Bool} {mi : BitVec 4} {scope : BitVec 2} {cls : BitVec 4} {st : BitVec 2} :
    encode (.vfamax d a b e ret dm me mi scope cls st) = some (leBytes 8 (mk64 10 (0#3 ++ dm) scope cls (BitVec.ofBool me) mi e b a d st 4 (0#5 ++ BitVec.ofBool ret)).toNat) := rfl
theorem encode_vgl {d a b : BitVec 5} {dm : BitVec 8} {me : Bool} {mi : BitVec 4} {scope : BitVec 2} {cls : BitVec 4} {st : BitVec 2} :
    encode (.vgl d a b dm me mi scope cls st) = some (leBytes 8 (mk64 0 (0#3 ++ dm) scope cls (BitVec.ofBool me) mi 0 b a d st 5 (0)).toNat) := rfl
theorem encode_vsc {d a b e : BitVec 5} {dm : BitVec 8} {me : Bool} {mi : BitVec 4} {scope : BitVec 2} {cls : BitVec 4} {st : BitVec 2} :
    encode (.vsc d a b e dm me mi scope cls st) = some (leBytes 8 (mk64 1 (0#3 ++ dm) scope cls (BitVec.ofBool me) mi e b a d st 5 (0)).toNat) := rfl
theorem encode_vldq {d a : BitVec 5} {q8 : Bool} {grp : BitVec 2} {dm : BitVec 8} {me : Bool} {mi cls : BitVec 4} {st : BitVec 2} :
    encode (.vldq d a q8 grp dm me mi cls st) = some (leBytes 8 (mk64 0 (0#3 ++ dm) 0 cls (BitVec.ofBool me) mi 0 0 a d st 6 (0#3 ++ grp ++ BitVec.ofBool q8)).toNat) := rfl
theorem encode_vstq {e a : BitVec 5} {q8 : Bool} {grp : BitVec 2} {dm : BitVec 8} {me : Bool} {mi cls : BitVec 4} {st : BitVec 2} :
    encode (.vstq e a q8 grp dm me mi cls st) = some (leBytes 8 (mk64 1 (0#3 ++ dm) 0 cls (BitVec.ofBool me) mi e 0 a 0 st 6 (0#3 ++ grp ++ BitVec.ofBool q8)).toNat) := rfl
theorem encode_vldf16 {d a : BitVec 5} {dm : BitVec 8} {me : Bool} {mi cls : BitVec 4} {st : BitVec 2} :
    encode (.vldf16 d a dm me mi cls st) = some (leBytes 8 (mk64 2 (0#3 ++ dm) 0 cls (BitVec.ofBool me) mi 0 0 a d st 6 (0)).toNat) := rfl
theorem encode_vstf16 {e a : BitVec 5} {dm : BitVec 8} {me : Bool} {mi cls : BitVec 4} {st : BitVec 2} :
    encode (.vstf16 e a dm me mi cls st) = some (leBytes 8 (mk64 3 (0#3 ++ dm) 0 cls (BitVec.ofBool me) mi e 0 a 0 st 6 (0)).toNat) := rfl
theorem encode_vlseg {d a : BitVec 5} {f : BitVec 3} {w : BitVec 2} {dm : BitVec 8} {me : Bool} {mi cls : BitVec 4} {st : BitVec 2} :
    encode (.vlseg d a f w dm me mi cls st) = some (leBytes 8 (mk64 4 (0#3 ++ dm) 0 cls (BitVec.ofBool me) mi 0 0 a d st 6 (0#1 ++ w ++ f)).toNat) := rfl
theorem encode_vsseg {e a : BitVec 5} {f : BitVec 3} {w : BitVec 2} {dm : BitVec 8} {me : Bool} {mi cls : BitVec 4} {st : BitVec 2} :
    encode (.vsseg e a f w dm me mi cls st) = some (leBytes 8 (mk64 5 (0#3 ++ dm) 0 cls (BitVec.ofBool me) mi e 0 a 0 st 6 (0#1 ++ w ++ f)).toNat) := rfl
theorem encode_vpush {d b a : BitVec 5} {dm : BitVec 8} {cls : BitVec 4} {st : BitVec 2} :
    encode (.vpush d b a dm cls st) = some (leBytes 8 (mk64 0 (0#3 ++ dm) 0 cls (0) 0 0 b a d st 7 (0)).toNat) := rfl
theorem encode_vtake {d a : BitVec 5} {dm : BitVec 8} {st : BitVec 2} :
    encode (.vtake d a dm st) = some (leBytes 8 (mk64 1 (0#3 ++ dm) 0 0 (0) 0 0 0 a d st 7 (0)).toNat) := rfl
theorem encode_vempty {d : BitVec 5} {dm : BitVec 8} {st : BitVec 2} :
    encode (.vempty d dm st) = some (leBytes 8 (mk64 2 (0#3 ++ dm) 0 0 (0) 0 0 0 0 d st 7 (0)).toNat) := rfl
theorem encode_vfill {d : BitVec 5} {dm : BitVec 8} {st : BitVec 2} :
    encode (.vfill d dm st) = some (leBytes 8 (mk64 3 (0#3 ++ dm) 0 0 (0) 0 0 0 0 d st 7 (0)).toNat) := rfl
theorem encode_fget {d a : BitVec 5} {imm : BitVec 11} {scope : BitVec 2} {cls : BitVec 4} {st : BitVec 2} :
    encode (.fget d a imm scope cls st) = some (leBytes 8 (mk64 0 (imm) scope cls (0) 0 0 0 a d st 8 (0)).toNat) := rfl
theorem encode_ftake {d a : BitVec 5} {imm : BitVec 11} {scope : BitVec 2} {cls : BitVec 4} {st : BitVec 2} :
    encode (.ftake d a imm scope cls st) = some (leBytes 8 (mk64 1 (imm) scope cls (0) 0 0 0 a d st 8 (0)).toNat) := rfl
theorem encode_fgive {b a : BitVec 5} {imm : BitVec 11} {scope : BitVec 2} {cls : BitVec 4} {st : BitVec 2} :
    encode (.fgive b a imm scope cls st) = some (leBytes 8 (mk64 2 (imm) scope cls (0) 0 0 b a 0 st 8 (0)).toNat) := rfl
theorem encode_fempty {a : BitVec 5} {imm : BitVec 11} {scope : BitVec 2} {cls : BitVec 4} {st : BitVec 2} :
    encode (.fempty a imm scope cls st) = some (leBytes 8 (mk64 3 (imm) scope cls (0) 0 0 0 a 0 st 8 (0)).toNat) := rfl
theorem encode_fpeek {d a : BitVec 5} {imm : BitVec 11} {scope : BitVec 2} {cls : BitVec 4} {st : BitVec 2} :
    encode (.fpeek d a imm scope cls st) = some (leBytes 8 (mk64 4 (imm) scope cls (0) 0 0 0 a d st 8 (0)).toNat) := rfl
theorem encode_sbind {d a : BitVec 5} {imm : BitVec 11} {st : BitVec 2} :
    encode (.sbind d a imm st) = some (leBytes 8 (mk64 0 (imm) 0 0 (0) 0 0 0 a d st 9 (0)).toNat) := rfl
theorem encode_sunbind {d : BitVec 5} {st : BitVec 2} :
    encode (.sunbind d st) = some (leBytes 8 (mk64 1 (0) 0 0 (0) 0 0 0 0 d st 9 (0)).toNat) := rfl
theorem encode_sstat {d b : BitVec 5} {st : BitVec 2} :
    encode (.sstat d b st) = some (leBytes 8 (mk64 2 (0) 0 0 (0) 0 0 b 0 d st 9 (0)).toNat) := rfl
theorem encode_sflush {d : BitVec 5} {st : BitVec 2} :
    encode (.sflush d st) = some (leBytes 8 (mk64 3 (0) 0 0 (0) 0 0 0 0 d st 9 (0)).toNat) := rfl
theorem encode_tplanar {d a b e : BitVec 5} {keep : Bool} {cls : BitVec 4} {st : BitVec 2} :
    encode (.tplanar d a b e keep cls st) = some (leBytes 8 (mk64 0 (0#10 ++ BitVec.ofBool keep) 0 cls (0) 0 e b a d st 10 (0)).toNat) := rfl
theorem encode_tpost {d a : BitVec 5} {scope : BitVec 2} {cls : BitVec 4} {st : BitVec 2} :
    encode (.tpost d a scope cls st) = some (leBytes 8 (mk64 1 (0) scope cls (0) 0 0 0 a d st 10 (0)).toNat) := rfl
theorem encode_tzero {a : BitVec 5} {cls : BitVec 4} {st : BitVec 2} :
    encode (.tzero a cls st) = some (leBytes 8 (mk64 2 (0) 0 cls (0) 0 0 0 a 0 st 10 (0)).toNat) := rfl
theorem encode_trenorm {a b : BitVec 5} {cls : BitVec 4} {st : BitVec 2} :
    encode (.trenorm a b cls st) = some (leBytes 8 (mk64 3 (0) 0 cls (0) 0 0 b a 0 st 10 (0)).toNat) := rfl
theorem encode_tload {d a b : BitVec 5} {me : Bool} {mi cls : BitVec 4} {st : BitVec 2} :
    encode (.tload d a b me mi cls st) = some (leBytes 8 (mk64 4 (0) 0 cls (BitVec.ofBool me) mi 0 b a d st 10 (0)).toNat) := rfl
theorem encode_tinit {a b p : BitVec 5} {role : Bool} {cls : BitVec 4} {st : BitVec 2} :
    encode (.tinit a b p role cls st) = some (leBytes 8 (mk64 5 (0#5 ++ BitVec.ofBool role ++ p) 0 cls (0) 0 0 b a 0 st 10 (0)).toNat) := rfl
theorem encode_tstat {d a : BitVec 5} {cls : BitVec 4} {st : BitVec 2} :
    encode (.tstat d a cls st) = some (leBytes 8 (mk64 6 (0) 0 cls (0) 0 0 0 a d st 10 (0)).toNat) := rfl
theorem encode_tflags {d a b : BitVec 5} {cls : BitVec 4} {st : BitVec 2} :
    encode (.tflags d a b cls st) = some (leBytes 8 (mk64 7 (0) 0 cls (0) 0 0 b a d st 10 (0)).toNat) := rfl
theorem encode_epost {d a : BitVec 5} {st : BitVec 2} :
    encode (.epost d a st) = some (leBytes 8 (mk64 0 (0) 0 0 (0) 0 0 0 a d st 11 (0)).toNat) := rfl
theorem encode_esusp {d a : BitVec 5} {all : Bool} {st : BitVec 2} :
    encode (.esusp d a all st) = some (leBytes 8 (mk64 1 (0#10 ++ BitVec.ofBool all) 0 0 (0) 0 0 0 a d st 11 (0)).toNat) := rfl
theorem encode_eresm {d a : BitVec 5} {all : Bool} {st : BitVec 2} :
    encode (.eresm d a all st) = some (leBytes 8 (mk64 2 (0#10 ++ BitVec.ofBool all) 0 0 (0) 0 0 0 a d st 11 (0)).toNat) := rfl
theorem encode_estat {d a : BitVec 5} {sel st : BitVec 2} :
    encode (.estat d a sel st) = some (leBytes 8 (mk64 3 (0#9 ++ sel) 0 0 (0) 0 0 0 a d st 11 (0)).toNat) := rfl
theorem encode_ewait {d a b : BitVec 5} {imm : BitVec 11} {scope : BitVec 2} {cls : BitVec 4} {st : BitVec 2} :
    encode (.ewait d a b imm scope cls st) = some (leBytes 8 (mk64 4 (imm) scope cls (0) 0 0 b a d st 11 (0)).toNat) := rfl
theorem encode_lkacq {d a : BitVec 5} {mode : BitVec 3} {scope st : BitVec 2} :
    encode (.lkacq d a mode scope st) = some (leBytes 8 (mk64 0 (0) scope 0 (0) 0 0 0 a d st 12 (0#3 ++ mode)).toNat) := rfl
theorem encode_lktry {d a : BitVec 5} {mode : BitVec 3} {scope st : BitVec 2} :
    encode (.lktry d a mode scope st) = some (leBytes 8 (mk64 1 (0) scope 0 (0) 0 0 0 a d st 12 (0#3 ++ mode)).toNat) := rfl
theorem encode_lkrel {d a : BitVec 5} {scope st : BitVec 2} :
    encode (.lkrel d a scope st) = some (leBytes 8 (mk64 2 (0) scope 0 (0) 0 0 0 a d st 12 (0)).toNat) := rfl
theorem encode_lkup {d a : BitVec 5} {mode : BitVec 3} {scope st : BitVec 2} :
    encode (.lkup d a mode scope st) = some (leBytes 8 (mk64 3 (0) scope 0 (0) 0 0 0 a d st 12 (0#3 ++ mode)).toNat) := rfl
theorem encode_lkdown {d a : BitVec 5} {mode : BitVec 3} {scope st : BitVec 2} :
    encode (.lkdown d a mode scope st) = some (leBytes 8 (mk64 4 (0) scope 0 (0) 0 0 0 a d st 12 (0#3 ++ mode)).toNat) := rfl
theorem encode_lkrelall {d : BitVec 5} {scope st : BitVec 2} :
    encode (.lkrelall d scope st) = some (leBytes 8 (mk64 5 (0) scope 0 (0) 0 0 0 0 d st 12 (0)).toNat) := rfl
theorem encode_lkstat {d a : BitVec 5} {scope st : BitVec 2} :
    encode (.lkstat d a scope st) = some (leBytes 8 (mk64 6 (0) scope 0 (0) 0 0 0 a d st 12 (0)).toNat) := rfl
theorem encode_nlaunch {d a : BitVec 5} {sup : Bool} {st : BitVec 2} :
    encode (.nlaunch d a sup st) = some (leBytes 8 (mk64 0 (0#10 ++ BitVec.ofBool sup) 0 0 (0) 0 0 0 a d st 13 (0)).toNat) := rfl
theorem encode_llease {a b : BitVec 5} {st : BitVec 2} :
    encode (.llease a b st) = some (leBytes 8 (mk64 1 (0) 0 0 (0) 0 0 b a 0 st 13 (0)).toNat) := rfl
theorem encode_bset {n : BitVec 3} {a : BitVec 5} {st : BitVec 2} :
    encode (.bset n a st) = some (leBytes 8 (mk64 2 (0#8 ++ n) 0 0 (0) 0 0 0 a 0 st 13 (0)).toNat) := rfl
theorem encode_barr {d : BitVec 5} {n : BitVec 3} {scope st : BitVec 2} :
    encode (.barr d n scope st) = some (leBytes 8 (mk64 3 (0#8 ++ n) scope 0 (0) 0 0 0 0 d st 13 (0)).toNat) := rfl
theorem encode_bwait {n : BitVec 3} {a : BitVec 5} {scope st : BitVec 2} :
    encode (.bwait n a scope st) = some (leBytes 8 (mk64 4 (0#8 ++ n) scope 0 (0) 0 0 0 a 0 st 13 (0)).toNat) := rfl
theorem encode_bsync {n : BitVec 3} {scope st : BitVec 2} :
    encode (.bsync n scope st) = some (leBytes 8 (mk64 5 (0#8 ++ n) scope 0 (0) 0 0 0 0 0 st 13 (0)).toNat) := rfl
theorem encode_tsread {d : BitVec 5} {k : BitVec 6} {st : BitVec 2} :
    encode (.tsread d k st) = some (leBytes 8 (mk64 6 (0#5 ++ k) 0 0 (0) 0 0 0 0 d st 13 (0)).toNat) := rfl
theorem encode_xv {f6 op : BitVec 6} {ds : BitVec 3} {vm : BitVec 2} {dm : BitVec 8} {cls : BitVec 4} {me : Bool} {mi : BitVec 4} {b a d : BitVec 5} {st : BitVec 2} :
    encode (.xv f6 op ds vm dm cls me mi b a d st) = some (leBytes 8 (mk64 f6 (op ++ ds ++ vm) (dm.extractLsb' 6 2) cls (BitVec.ofBool me) mi 0 b a d st 14 (dm.extractLsb' 0 6)).toNat) := rfl
theorem encode_xvi {op : BitVec 6} {d a : BitVec 5} {f6 : BitVec 6} {imm : BitVec 32} {st : BitVec 2} :
    encode (.xvi op d a f6 imm st) = some (leBytes 8 (imm ++ f6 ++ a ++ d ++ 3#2 ++ st ++ 15#6 ++ op).toNat) := rfl
theorem encode_cIllegal {a b : BitVec 5} :
    encode (.cIllegal a b) = some (leBytes 2 (mk16 0 a b).toNat) := rfl
theorem encode_cAdd {a b : BitVec 5} :
    encode (.cAdd a b) = some (leBytes 2 (mk16 1 a b).toNat) := rfl
theorem encode_cSub {a b : BitVec 5} :
    encode (.cSub a b) = some (leBytes 2 (mk16 2 a b).toNat) := rfl
theorem encode_cMv {a b : BitVec 5} :
    encode (.cMv a b) = some (leBytes 2 (mk16 3 a b).toNat) := rfl
theorem encode_cAddi {a i : BitVec 5} :
    encode (.cAddi a i) = some (leBytes 2 (mk16 4 a i).toNat) := rfl
theorem encode_cLi {a i : BitVec 5} :
    encode (.cLi a i) = some (leBytes 2 (mk16 5 a i).toNat) := rfl
theorem encode_cSlli {a h : BitVec 5} :
    encode (.cSlli a h) = some (leBytes 2 (mk16 6 a h).toNat) := rfl
theorem encode_cSrli {a h : BitVec 5} :
    encode (.cSrli a h) = some (leBytes 2 (mk16 7 a h).toNat) := rfl
theorem encode_cAnd {a b : BitVec 5} :
    encode (.cAnd a b) = some (leBytes 2 (mk16 8 a b).toNat) := rfl
theorem encode_cOr {a b : BitVec 5} :
    encode (.cOr a b) = some (leBytes 2 (mk16 9 a b).toNat) := rfl
theorem encode_cXor {a b : BitVec 5} :
    encode (.cXor a b) = some (leBytes 2 (mk16 10 a b).toNat) := rfl
theorem encode_cLd64 {a b : BitVec 5} :
    encode (.cLd64 a b) = some (leBytes 2 (mk16 11 a b).toNat) := rfl
theorem encode_cSt64 {a b : BitVec 5} :
    encode (.cSt64 a b) = some (leBytes 2 (mk16 12 a b).toNat) := rfl
theorem encode_cBeqz {a i : BitVec 5} :
    encode (.cBeqz a i) = some (leBytes 2 (mk16 13 a i).toNat) := rfl
theorem encode_cBnez {a i : BitVec 5} :
    encode (.cBnez a i) = some (leBytes 2 (mk16 14 a i).toNat) := rfl
theorem encode_cJ {i : BitVec 10} :
    encode (.cJ i) = some (leBytes 2 (mk16 15 (i.extractLsb' 5 5) (i.extractLsb' 0 5)).toNat) := rfl
theorem encode_cJr {a : BitVec 5} :
    encode (.cJr a) = some (leBytes 2 (mk16 16 a 0).toNat) := rfl
theorem encode_cVsetl {a b : BitVec 5} :
    encode (.cVsetl a b) = some (leBytes 2 (mk16 17 a b).toNat) := rfl
theorem encode_cVadd {a b : BitVec 5} :
    encode (.cVadd a b) = some (leBytes 2 (mk16 18 a b).toNat) := rfl
theorem encode_cVfadd {a b : BitVec 5} :
    encode (.cVfadd a b) = some (leBytes 2 (mk16 19 a b).toNat) := rfl
theorem encode_cVmv {a b : BitVec 5} :
    encode (.cVmv a b) = some (leBytes 2 (mk16 20 a b).toNat) := rfl
theorem encode_cKend :
    encode (.cKend) = some (leBytes 2 (mk16 21 0 0).toNat) := rfl
theorem encode_cNop :
    encode (.cNop) = some (leBytes 2 (mk16 22 0 0).toNat) := rfl

end Sys2Proof
end

