-- ==== Sys2Proof/Laws/Exec.lean ====
section
/-! SUPPORT. What `exec` calls for each constructor. -/

namespace Sys2Proof.Machine

theorem exec_add (s : State) d a b st : exec (.add d a b st) s = execAdd d a b st s := rfl
theorem exec_sub (s : State) d a b st : exec (.sub d a b st) s = execSub d a b st s := rfl
theorem exec_and (s : State) d a b st : exec (.and d a b st) s = execAnd d a b st s := rfl
theorem exec_or (s : State) d a b st : exec (.or d a b st) s = execOr d a b st s := rfl
theorem exec_xor (s : State) d a b st : exec (.xor d a b st) s = execXor d a b st s := rfl
theorem exec_andn (s : State) d a b st : exec (.andn d a b st) s = execAndn d a b st s := rfl
theorem exec_sll (s : State) d a b st : exec (.sll d a b st) s = execSll d a b st s := rfl
theorem exec_srl (s : State) d a b st : exec (.srl d a b st) s = execSrl d a b st s := rfl
theorem exec_sra (s : State) d a b st : exec (.sra d a b st) s = execSra d a b st s := rfl
theorem exec_ror (s : State) d a b st : exec (.ror d a b st) s = execRor d a b st s := rfl
theorem exec_slt (s : State) d a b st : exec (.slt d a b st) s = execSlt d a b st s := rfl
theorem exec_sltn (s : State) d a b st : exec (.sltn d a b st) s = execSltn d a b st s := rfl
theorem exec_min (s : State) d a b st : exec (.min d a b st) s = execMin d a b st s := rfl
theorem exec_max (s : State) d a b st : exec (.max d a b st) s = execMax d a b st s := rfl
theorem exec_minn (s : State) d a b st : exec (.minn d a b st) s = execMinn d a b st s := rfl
theorem exec_maxn (s : State) d a b st : exec (.maxn d a b st) s = execMaxn d a b st s := rfl
theorem exec_mul (s : State) d a b st : exec (.mul d a b st) s = execMul d a b st s := rfl
theorem exec_mulh (s : State) d a b st : exec (.mulh d a b st) s = execMulh d a b st s := rfl
theorem exec_mulhn (s : State) d a b st : exec (.mulhn d a b st) s = execMulhn d a b st s := rfl
theorem exec_div (s : State) d a b st : exec (.div d a b st) s = execDiv d a b st s := rfl
theorem exec_divn (s : State) d a b st : exec (.divn d a b st) s = execDivn d a b st s := rfl
theorem exec_rem (s : State) d a b st : exec (.rem d a b st) s = execRem d a b st s := rfl
theorem exec_remn (s : State) d a b st : exec (.remn d a b st) s = execRemn d a b st s := rfl
theorem exec_clz (s : State) d a st : exec (.clz d a st) s = execClz d a st s := rfl
theorem exec_ctz (s : State) d a st : exec (.ctz d a st) s = execCtz d a st s := rfl
theorem exec_cpop (s : State) d a st : exec (.cpop d a st) s = execCpop d a st s := rfl
theorem exec_sextb (s : State) d a st : exec (.sextb d a st) s = execSextb d a st s := rfl
theorem exec_sexth (s : State) d a st : exec (.sexth d a st) s = execSexth d a st s := rfl
theorem exec_sextw (s : State) d a st : exec (.sextw d a st) s = execSextw d a st s := rfl
theorem exec_bswap (s : State) d a st : exec (.bswap d a st) s = execBswap d a st s := rfl
theorem exec_csel (s : State) d a b st : exec (.csel d a b st) s = execCsel d a b st s := rfl
theorem exec_slli (s : State) d a h st : exec (.slli d a h st) s = execSlli d a h st s := rfl
theorem exec_srli (s : State) d a h st : exec (.srli d a h st) s = execSrli d a h st s := rfl
theorem exec_srai (s : State) d a h st : exec (.srai d a h st) s = execSrai d a h st s := rfl
theorem exec_rori (s : State) d a h st : exec (.rori d a h st) s = execRori d a h st s := rfl
theorem exec_addi (s : State) d a im st : exec (.addi d a im st) s = execAddi d a im st s := rfl
theorem exec_andi (s : State) d a im st : exec (.andi d a im st) s = execAndi d a im st s := rfl
theorem exec_ori (s : State) d a im st : exec (.ori d a im st) s = execOri d a im st s := rfl
theorem exec_xori (s : State) d a im st : exec (.xori d a im st) s = execXori d a im st s := rfl
theorem exec_slti (s : State) d a im st : exec (.slti d a im st) s = execSlti d a im st s := rfl
theorem exec_sltin (s : State) d a im st : exec (.sltin d a im st) s = execSltin d a im st s := rfl
theorem exec_movhi (s : State) d im st : exec (.movhi d im st) s = execMovhi d im st s := rfl
theorem exec_pgrel (s : State) d im st : exec (.pgrel d im st) s = execPgrel d im st s := rfl
theorem exec_jal (s : State) d im st : exec (.jal d im st) s = execJal d im st s := rfl
theorem exec_jalr (s : State) d a im st : exec (.jalr d a im st) s = execJalr d a im st s := rfl
theorem exec_beq (s : State) a b im st : exec (.beq a b im st) s = execBeq a b im st s := rfl
theorem exec_bne (s : State) a b im st : exec (.bne a b im st) s = execBne a b im st s := rfl
theorem exec_blt (s : State) a b im st : exec (.blt a b im st) s = execBlt a b im st s := rfl
theorem exec_bge (s : State) a b im st : exec (.bge a b im st) s = execBge a b im st s := rfl
theorem exec_bltn (s : State) a b im st : exec (.bltn a b im st) s = execBltn a b im st s := rfl
theorem exec_bgen (s : State) a b im st : exec (.bgen a b im st) s = execBgen a b im st s := rfl
theorem exec_sbnz (s : State) a b im st : exec (.sbnz a b im st) s = execSbnz a b im st s := rfl
theorem exec_ld8 (s : State) d a o c st : exec (.ld8 d a o c st) s = execLd8 d a o c st s := rfl
theorem exec_ld8s (s : State) d a o c st : exec (.ld8s d a o c st) s = execLd8s d a o c st s := rfl
theorem exec_ld16 (s : State) d a o c st : exec (.ld16 d a o c st) s = execLd16 d a o c st s := rfl
theorem exec_ld16s (s : State) d a o c st : exec (.ld16s d a o c st) s = execLd16s d a o c st s := rfl
theorem exec_ld32 (s : State) d a o c st : exec (.ld32 d a o c st) s = execLd32 d a o c st s := rfl
theorem exec_ld32s (s : State) d a o c st : exec (.ld32s d a o c st) s = execLd32s d a o c st s := rfl
theorem exec_ld64 (s : State) d a o c st : exec (.ld64 d a o c st) s = execLd64 d a o c st s := rfl
theorem exec_st8 (s : State) d a o c st : exec (.st8 d a o c st) s = execSt8 d a o c st s := rfl
theorem exec_st16 (s : State) d a o c st : exec (.st16 d a o c st) s = execSt16 d a o c st s := rfl
theorem exec_st32 (s : State) d a o c st : exec (.st32 d a o c st) s = execSt32 d a o c st s := rfl
theorem exec_st64 (s : State) d a o c st : exec (.st64 d a o c st) s = execSt64 d a o c st s := rfl
theorem exec_fadd (s : State) d a b p st : exec (.fadd d a b p st) s = execFadd d a b p st s := rfl
theorem exec_fsub (s : State) d a b p st : exec (.fsub d a b p st) s = execFsub d a b p st s := rfl
theorem exec_fmul (s : State) d a b p st : exec (.fmul d a b p st) s = execFmul d a b p st s := rfl
theorem exec_fdiv (s : State) d a b p st : exec (.fdiv d a b p st) s = execFdiv d a b p st s := rfl
theorem exec_fsqrt (s : State) d a p st : exec (.fsqrt d a p st) s = execFsqrt d a p st s := rfl
theorem exec_fmin (s : State) d a b p st : exec (.fmin d a b p st) s = execFmin d a b p st s := rfl
theorem exec_fmax (s : State) d a b p st : exec (.fmax d a b p st) s = execFmax d a b p st s := rfl
theorem exec_feq (s : State) d a b p st : exec (.feq d a b p st) s = execFeq d a b p st s := rfl
theorem exec_flt (s : State) d a b p st : exec (.flt d a b p st) s = execFlt d a b p st s := rfl
theorem exec_fle (s : State) d a b p st : exec (.fle d a b p st) s = execFle d a b p st s := rfl
theorem exec_fclass (s : State) d a p st : exec (.fclass d a p st) s = execFclass d a p st s := rfl
theorem exec_fsgnj (s : State) d a b p st : exec (.fsgnj d a b p st) s = execFsgnj d a b p st s := rfl
theorem exec_fsgnjn (s : State) d a b p st : exec (.fsgnjn d a b p st) s = execFsgnjn d a b p st s := rfl
theorem exec_fsgnjx (s : State) d a b p st : exec (.fsgnjx d a b p st) s = execFsgnjx d a b p st s := rfl
theorem exec_fcvtfi (s : State) d a p st : exec (.fcvtfi d a p st) s = execFcvtfi d a p st s := rfl
theorem exec_fcvtfn (s : State) d a p st : exec (.fcvtfn d a p st) s = execFcvtfn d a p st s := rfl
theorem exec_fcvtif (s : State) d a p st : exec (.fcvtif d a p st) s = execFcvtif d a p st s := rfl
theorem exec_fcvtnf (s : State) d a p st : exec (.fcvtnf d a p st) s = execFcvtnf d a p st s := rfl
theorem exec_fcvtff (s : State) d a p st : exec (.fcvtff d a p st) s = execFcvtff d a p st s := rfl
theorem exec_fcvtbf (s : State) d a p st : exec (.fcvtbf d a p st) s = execFcvtbf d a p st s := rfl
theorem exec_fcvtfb (s : State) d a p st : exec (.fcvtfb d a p st) s = execFcvtfb d a p st s := rfl
theorem exec_ffma32 (s : State) d a b e v st : exec (.ffma32 d a b e v st) s = execFfma32 d a b e v st s := rfl
theorem exec_ffma64 (s : State) d a b e v st : exec (.ffma64 d a b e v st) s = execFfma64 d a b e v st s := rfl
theorem exec_svc (s : State) st : exec (.svc st) s = execSvc st s := rfl
theorem exec_tret (s : State) st : exec (.tret st) s = execTret st s := rfl
theorem exec_brk (s : State) st : exec (.brk st) s = execBrk st s := rfl
theorem exec_nap (s : State) st : exec (.nap st) s = execNap st s := rfl
theorem exec_kend (s : State) st : exec (.kend st) s = execKend st s := rfl
theorem exec_iflush (s : State) st : exec (.iflush st) s = execIflush st s := rfl
theorem exec_uret (s : State) st : exec (.uret st) s = execUret st s := rfl
theorem exec_yield (s : State) st : exec (.yield st) s = execYield st s := rfl
theorem exec_iprf (s : State) a o st : exec (.iprf a o st) s = execIprf a o st s := rfl
theorem exec_dprf (s : State) a o c st : exec (.dprf a o c st) s = execDprf a o c st s := rfl
theorem exec_fence (s : State) k e st : exec (.fence k e st) s = execFence k e st s := rfl
theorem exec_fenceacq (s : State) k e st : exec (.fenceacq k e st) s = execFenceacq k e st s := rfl
theorem exec_fencerel (s : State) k e st : exec (.fencerel k e st) s = execFencerel k e st s := rfl
theorem exec_vdrain (s : State) k e st : exec (.vdrain k e st) s = execVdrain k e st s := rfl
theorem exec_csrrw (s : State) d a c st : exec (.csrrw d a c st) s = execCsrrw d a c st s := rfl
theorem exec_csrrs (s : State) d a c st : exec (.csrrs d a c st) s = execCsrrs d a c st s := rfl
theorem exec_csrrc (s : State) d a c st : exec (.csrrc d a c st) s = execCsrrc d a c st s := rfl
theorem exec_vsetl (s : State) d a st : exec (.vsetl d a st) s = execVsetl d a st s := rfl
theorem exec_vsetvt (s : State) d a st : exec (.vsetvt d a st) s = execVsetvt d a st s := rfl
theorem exec_vsetty (s : State) d t st : exec (.vsetty d t st) s = execVsetty d t st s := rfl
theorem exec_vsetdie (s : State) a b st : exec (.vsetdie a b st) s = execVsetdie a b st s := rfl
theorem exec_vaddVv (s : State) d a b m st : exec (.vaddVv d a b m st) s = execVaddVv d a b m st s := rfl
theorem exec_vaddVs (s : State) d a b m st : exec (.vaddVs d a b m st) s = execVaddVs d a b m st s := rfl
theorem exec_vaddVi (s : State) d b im m st : exec (.vaddVi d b im m st) s = execVaddVi d b im m st s := rfl
theorem exec_vsubVv (s : State) d a b m st : exec (.vsubVv d a b m st) s = execVsubVv d a b m st s := rfl
theorem exec_vsubVs (s : State) d a b m st : exec (.vsubVs d a b m st) s = execVsubVs d a b m st s := rfl
theorem exec_vsubVi (s : State) d b im m st : exec (.vsubVi d b im m st) s = execVsubVi d b im m st s := rfl
theorem exec_vrsubVv (s : State) d a b m st : exec (.vrsubVv d a b m st) s = execVrsubVv d a b m st s := rfl
theorem exec_vrsubVs (s : State) d a b m st : exec (.vrsubVs d a b m st) s = execVrsubVs d a b m st s := rfl
theorem exec_vrsubVi (s : State) d b im m st : exec (.vrsubVi d b im m st) s = execVrsubVi d b im m st s := rfl
theorem exec_vmulVv (s : State) d a b m st : exec (.vmulVv d a b m st) s = execVmulVv d a b m st s := rfl
theorem exec_vmulVs (s : State) d a b m st : exec (.vmulVs d a b m st) s = execVmulVs d a b m st s := rfl
theorem exec_vmulVi (s : State) d b im m st : exec (.vmulVi d b im m st) s = execVmulVi d b im m st s := rfl
theorem exec_vmulhVv (s : State) d a b m st : exec (.vmulhVv d a b m st) s = execVmulhVv d a b m st s := rfl
theorem exec_vmulhVs (s : State) d a b m st : exec (.vmulhVs d a b m st) s = execVmulhVs d a b m st s := rfl
theorem exec_vmulhVi (s : State) d b im m st : exec (.vmulhVi d b im m st) s = execVmulhVi d b im m st s := rfl
theorem exec_vmulhnVv (s : State) d a b m st : exec (.vmulhnVv d a b m st) s = execVmulhnVv d a b m st s := rfl
theorem exec_vmulhnVs (s : State) d a b m st : exec (.vmulhnVs d a b m st) s = execVmulhnVs d a b m st s := rfl
theorem exec_vmulhnVi (s : State) d b im m st : exec (.vmulhnVi d b im m st) s = execVmulhnVi d b im m st s := rfl
theorem exec_vmacVv (s : State) d a b m st : exec (.vmacVv d a b m st) s = execVmacVv d a b m st s := rfl
theorem exec_vmacVs (s : State) d a b m st : exec (.vmacVs d a b m st) s = execVmacVs d a b m st s := rfl
theorem exec_vmacVi (s : State) d b im m st : exec (.vmacVi d b im m st) s = execVmacVi d b im m st s := rfl
theorem exec_vandVv (s : State) d a b m st : exec (.vandVv d a b m st) s = execVandVv d a b m st s := rfl
theorem exec_vandVs (s : State) d a b m st : exec (.vandVs d a b m st) s = execVandVs d a b m st s := rfl
theorem exec_vandVi (s : State) d b im m st : exec (.vandVi d b im m st) s = execVandVi d b im m st s := rfl
theorem exec_vorVv (s : State) d a b m st : exec (.vorVv d a b m st) s = execVorVv d a b m st s := rfl
theorem exec_vorVs (s : State) d a b m st : exec (.vorVs d a b m st) s = execVorVs d a b m st s := rfl
theorem exec_vorVi (s : State) d b im m st : exec (.vorVi d b im m st) s = execVorVi d b im m st s := rfl
theorem exec_vxorVv (s : State) d a b m st : exec (.vxorVv d a b m st) s = execVxorVv d a b m st s := rfl
theorem exec_vxorVs (s : State) d a b m st : exec (.vxorVs d a b m st) s = execVxorVs d a b m st s := rfl
theorem exec_vxorVi (s : State) d b im m st : exec (.vxorVi d b im m st) s = execVxorVi d b im m st s := rfl
theorem exec_vsllVv (s : State) d a b m st : exec (.vsllVv d a b m st) s = execVsllVv d a b m st s := rfl
theorem exec_vsllVs (s : State) d a b m st : exec (.vsllVs d a b m st) s = execVsllVs d a b m st s := rfl
theorem exec_vsllVi (s : State) d b im m st : exec (.vsllVi d b im m st) s = execVsllVi d b im m st s := rfl
theorem exec_vsrlVv (s : State) d a b m st : exec (.vsrlVv d a b m st) s = execVsrlVv d a b m st s := rfl
theorem exec_vsrlVs (s : State) d a b m st : exec (.vsrlVs d a b m st) s = execVsrlVs d a b m st s := rfl
theorem exec_vsrlVi (s : State) d b im m st : exec (.vsrlVi d b im m st) s = execVsrlVi d b im m st s := rfl
theorem exec_vsraVv (s : State) d a b m st : exec (.vsraVv d a b m st) s = execVsraVv d a b m st s := rfl
theorem exec_vsraVs (s : State) d a b m st : exec (.vsraVs d a b m st) s = execVsraVs d a b m st s := rfl
theorem exec_vsraVi (s : State) d b im m st : exec (.vsraVi d b im m st) s = execVsraVi d b im m st s := rfl
theorem exec_vminVv (s : State) d a b m st : exec (.vminVv d a b m st) s = execVminVv d a b m st s := rfl
theorem exec_vminVs (s : State) d a b m st : exec (.vminVs d a b m st) s = execVminVs d a b m st s := rfl
theorem exec_vminVi (s : State) d b im m st : exec (.vminVi d b im m st) s = execVminVi d b im m st s := rfl
theorem exec_vmaxVv (s : State) d a b m st : exec (.vmaxVv d a b m st) s = execVmaxVv d a b m st s := rfl
theorem exec_vmaxVs (s : State) d a b m st : exec (.vmaxVs d a b m st) s = execVmaxVs d a b m st s := rfl
theorem exec_vmaxVi (s : State) d b im m st : exec (.vmaxVi d b im m st) s = execVmaxVi d b im m st s := rfl
theorem exec_vminnVv (s : State) d a b m st : exec (.vminnVv d a b m st) s = execVminnVv d a b m st s := rfl
theorem exec_vminnVs (s : State) d a b m st : exec (.vminnVs d a b m st) s = execVminnVs d a b m st s := rfl
theorem exec_vminnVi (s : State) d b im m st : exec (.vminnVi d b im m st) s = execVminnVi d b im m st s := rfl
theorem exec_vmaxnVv (s : State) d a b m st : exec (.vmaxnVv d a b m st) s = execVmaxnVv d a b m st s := rfl
theorem exec_vmaxnVs (s : State) d a b m st : exec (.vmaxnVs d a b m st) s = execVmaxnVs d a b m st s := rfl
theorem exec_vmaxnVi (s : State) d b im m st : exec (.vmaxnVi d b im m st) s = execVmaxnVi d b im m st s := rfl
theorem exec_vdivVv (s : State) d a b m st : exec (.vdivVv d a b m st) s = execVdivVv d a b m st s := rfl
theorem exec_vdivVs (s : State) d a b m st : exec (.vdivVs d a b m st) s = execVdivVs d a b m st s := rfl
theorem exec_vdivVi (s : State) d b im m st : exec (.vdivVi d b im m st) s = execVdivVi d b im m st s := rfl
theorem exec_vdivnVv (s : State) d a b m st : exec (.vdivnVv d a b m st) s = execVdivnVv d a b m st s := rfl
theorem exec_vdivnVs (s : State) d a b m st : exec (.vdivnVs d a b m st) s = execVdivnVs d a b m st s := rfl
theorem exec_vdivnVi (s : State) d b im m st : exec (.vdivnVi d b im m st) s = execVdivnVi d b im m st s := rfl
theorem exec_vremVv (s : State) d a b m st : exec (.vremVv d a b m st) s = execVremVv d a b m st s := rfl
theorem exec_vremVs (s : State) d a b m st : exec (.vremVs d a b m st) s = execVremVs d a b m st s := rfl
theorem exec_vremVi (s : State) d b im m st : exec (.vremVi d b im m st) s = execVremVi d b im m st s := rfl
theorem exec_vremnVv (s : State) d a b m st : exec (.vremnVv d a b m st) s = execVremnVv d a b m st s := rfl
theorem exec_vremnVs (s : State) d a b m st : exec (.vremnVs d a b m st) s = execVremnVs d a b m st s := rfl
theorem exec_vremnVi (s : State) d b im m st : exec (.vremnVi d b im m st) s = execVremnVi d b im m st s := rfl
theorem exec_vsaddVv (s : State) d a b m st : exec (.vsaddVv d a b m st) s = execVsaddVv d a b m st s := rfl
theorem exec_vsaddVs (s : State) d a b m st : exec (.vsaddVs d a b m st) s = execVsaddVs d a b m st s := rfl
theorem exec_vsaddVi (s : State) d b im m st : exec (.vsaddVi d b im m st) s = execVsaddVi d b im m st s := rfl
theorem exec_vssubVv (s : State) d a b m st : exec (.vssubVv d a b m st) s = execVssubVv d a b m st s := rfl
theorem exec_vssubVs (s : State) d a b m st : exec (.vssubVs d a b m st) s = execVssubVs d a b m st s := rfl
theorem exec_vssubVi (s : State) d b im m st : exec (.vssubVi d b im m st) s = execVssubVi d b im m st s := rfl
theorem exec_vmergeVv (s : State) d a b st : exec (.vmergeVv d a b st) s = execVmergeVv d a b st s := rfl
theorem exec_vmergeVs (s : State) d a b st : exec (.vmergeVs d a b st) s = execVmergeVs d a b st s := rfl
theorem exec_vmergeVi (s : State) d b im st : exec (.vmergeVi d b im st) s = execVmergeVi d b im st s := rfl
theorem exec_vmvVv (s : State) d a m st : exec (.vmvVv d a m st) s = execVmvVv d a m st s := rfl
theorem exec_vmvVs (s : State) d a m st : exec (.vmvVs d a m st) s = execVmvVs d a m st s := rfl
theorem exec_vmvVi (s : State) d im m st : exec (.vmvVi d im m st) s = execVmvVi d im m st s := rfl
theorem exec_vseqVv (s : State) d a b m st : exec (.vseqVv d a b m st) s = execVseqVv d a b m st s := rfl
theorem exec_vseqVs (s : State) d a b m st : exec (.vseqVs d a b m st) s = execVseqVs d a b m st s := rfl
theorem exec_vseqVi (s : State) d b im m st : exec (.vseqVi d b im m st) s = execVseqVi d b im m st s := rfl
theorem exec_vsneVv (s : State) d a b m st : exec (.vsneVv d a b m st) s = execVsneVv d a b m st s := rfl
theorem exec_vsneVs (s : State) d a b m st : exec (.vsneVs d a b m st) s = execVsneVs d a b m st s := rfl
theorem exec_vsneVi (s : State) d b im m st : exec (.vsneVi d b im m st) s = execVsneVi d b im m st s := rfl
theorem exec_vsltVv (s : State) d a b m st : exec (.vsltVv d a b m st) s = execVsltVv d a b m st s := rfl
theorem exec_vsltVs (s : State) d a b m st : exec (.vsltVs d a b m st) s = execVsltVs d a b m st s := rfl
theorem exec_vsltVi (s : State) d b im m st : exec (.vsltVi d b im m st) s = execVsltVi d b im m st s := rfl
theorem exec_vsltnVv (s : State) d a b m st : exec (.vsltnVv d a b m st) s = execVsltnVv d a b m st s := rfl
theorem exec_vsltnVs (s : State) d a b m st : exec (.vsltnVs d a b m st) s = execVsltnVs d a b m st s := rfl
theorem exec_vsltnVi (s : State) d b im m st : exec (.vsltnVi d b im m st) s = execVsltnVi d b im m st s := rfl
theorem exec_vsleVv (s : State) d a b m st : exec (.vsleVv d a b m st) s = execVsleVv d a b m st s := rfl
theorem exec_vsleVs (s : State) d a b m st : exec (.vsleVs d a b m st) s = execVsleVs d a b m st s := rfl
theorem exec_vsleVi (s : State) d b im m st : exec (.vsleVi d b im m st) s = execVsleVi d b im m st s := rfl
theorem exec_vslenVv (s : State) d a b m st : exec (.vslenVv d a b m st) s = execVslenVv d a b m st s := rfl
theorem exec_vslenVs (s : State) d a b m st : exec (.vslenVs d a b m st) s = execVslenVs d a b m st s := rfl
theorem exec_vslenVi (s : State) d b im m st : exec (.vslenVi d b im m st) s = execVslenVi d b im m st s := rfl
theorem exec_vfaddVv (s : State) d a b m st : exec (.vfaddVv d a b m st) s = execVfaddVv d a b m st s := rfl
theorem exec_vfaddVs (s : State) d a b m st : exec (.vfaddVs d a b m st) s = execVfaddVs d a b m st s := rfl
theorem exec_vfsubVv (s : State) d a b m st : exec (.vfsubVv d a b m st) s = execVfsubVv d a b m st s := rfl
theorem exec_vfsubVs (s : State) d a b m st : exec (.vfsubVs d a b m st) s = execVfsubVs d a b m st s := rfl
theorem exec_vfmulVv (s : State) d a b m st : exec (.vfmulVv d a b m st) s = execVfmulVv d a b m st s := rfl
theorem exec_vfmulVs (s : State) d a b m st : exec (.vfmulVs d a b m st) s = execVfmulVs d a b m st s := rfl
theorem exec_vfdivVv (s : State) d a b m st : exec (.vfdivVv d a b m st) s = execVfdivVv d a b m st s := rfl
theorem exec_vfdivVs (s : State) d a b m st : exec (.vfdivVs d a b m st) s = execVfdivVs d a b m st s := rfl
theorem exec_vfsqrt (s : State) d a m st : exec (.vfsqrt d a m st) s = execVfsqrt d a m st s := rfl
theorem exec_vfrsqe (s : State) d a m st : exec (.vfrsqe d a m st) s = execVfrsqe d a m st s := rfl
theorem exec_vfrece (s : State) d a m st : exec (.vfrece d a m st) s = execVfrece d a m st s := rfl
theorem exec_vfexp (s : State) d a m st : exec (.vfexp d a m st) s = execVfexp d a m st s := rfl
theorem exec_vfexp2 (s : State) d a m st : exec (.vfexp2 d a m st) s = execVfexp2 d a m st s := rfl
theorem exec_vflog2 (s : State) d a m st : exec (.vflog2 d a m st) s = execVflog2 d a m st s := rfl
theorem exec_vfminVv (s : State) d a b m st : exec (.vfminVv d a b m st) s = execVfminVv d a b m st s := rfl
theorem exec_vfminVs (s : State) d a b m st : exec (.vfminVs d a b m st) s = execVfminVs d a b m st s := rfl
theorem exec_vfmaxVv (s : State) d a b m st : exec (.vfmaxVv d a b m st) s = execVfmaxVv d a b m st s := rfl
theorem exec_vfmaxVs (s : State) d a b m st : exec (.vfmaxVs d a b m st) s = execVfmaxVs d a b m st s := rfl
theorem exec_vfsgnjVv (s : State) d a b m st : exec (.vfsgnjVv d a b m st) s = execVfsgnjVv d a b m st s := rfl
theorem exec_vfsgnjVs (s : State) d a b m st : exec (.vfsgnjVs d a b m st) s = execVfsgnjVs d a b m st s := rfl
theorem exec_vfsgnjnVv (s : State) d a b m st : exec (.vfsgnjnVv d a b m st) s = execVfsgnjnVv d a b m st s := rfl
theorem exec_vfsgnjnVs (s : State) d a b m st : exec (.vfsgnjnVs d a b m st) s = execVfsgnjnVs d a b m st s := rfl
theorem exec_vfsgnjxVv (s : State) d a b m st : exec (.vfsgnjxVv d a b m st) s = execVfsgnjxVv d a b m st s := rfl
theorem exec_vfsgnjxVs (s : State) d a b m st : exec (.vfsgnjxVs d a b m st) s = execVfsgnjxVs d a b m st s := rfl
theorem exec_vfeqVv (s : State) d a b m st : exec (.vfeqVv d a b m st) s = execVfeqVv d a b m st s := rfl
theorem exec_vfeqVs (s : State) d a b m st : exec (.vfeqVs d a b m st) s = execVfeqVs d a b m st s := rfl
theorem exec_vfneVv (s : State) d a b m st : exec (.vfneVv d a b m st) s = execVfneVv d a b m st s := rfl
theorem exec_vfneVs (s : State) d a b m st : exec (.vfneVs d a b m st) s = execVfneVs d a b m st s := rfl
theorem exec_vfltVv (s : State) d a b m st : exec (.vfltVv d a b m st) s = execVfltVv d a b m st s := rfl
theorem exec_vfltVs (s : State) d a b m st : exec (.vfltVs d a b m st) s = execVfltVs d a b m st s := rfl
theorem exec_vfleVv (s : State) d a b m st : exec (.vfleVv d a b m st) s = execVfleVv d a b m st s := rfl
theorem exec_vfleVs (s : State) d a b m st : exec (.vfleVs d a b m st) s = execVfleVs d a b m st s := rfl
theorem exec_vfclass (s : State) d a m st : exec (.vfclass d a m st) s = execVfclass d a m st s := rfl
theorem exec_vfcvt (s : State) d a m st : exec (.vfcvt d a m st) s = execVfcvt d a m st s := rfl
theorem exec_vfround (s : State) d a m st : exec (.vfround d a m st) s = execVfround d a m st s := rfl
theorem exec_vfmergeVv (s : State) d a b st : exec (.vfmergeVv d a b st) s = execVfmergeVv d a b st s := rfl
theorem exec_vfmergeVs (s : State) d a b st : exec (.vfmergeVs d a b st) s = execVfmergeVs d a b st s := rfl
theorem exec_vfmaccVv (s : State) d a b m st : exec (.vfmaccVv d a b m st) s = execVfmaccVv d a b m st s := rfl
theorem exec_vfnmaccVv (s : State) d a b m st : exec (.vfnmaccVv d a b m st) s = execVfnmaccVv d a b m st s := rfl
theorem exec_vfmsacVv (s : State) d a b m st : exec (.vfmsacVv d a b m st) s = execVfmsacVv d a b m st s := rfl
theorem exec_vfnmsacVv (s : State) d a b m st : exec (.vfnmsacVv d a b m st) s = execVfnmsacVv d a b m st s := rfl
theorem exec_vfmaccVs (s : State) d a b m st : exec (.vfmaccVs d a b m st) s = execVfmaccVs d a b m st s := rfl
theorem exec_vfnmaccVs (s : State) d a b m st : exec (.vfnmaccVs d a b m st) s = execVfnmaccVs d a b m st s := rfl
theorem exec_vfmsacVs (s : State) d a b m st : exec (.vfmsacVs d a b m st) s = execVfmsacVs d a b m st s := rfl
theorem exec_vfnmsacVs (s : State) d a b m st : exec (.vfnmsacVs d a b m st) s = execVfnmsacVs d a b m st s := rfl
theorem exec_vredsum (s : State) d a b m st : exec (.vredsum d a b m st) s = execVredsum d a b m st s := rfl
theorem exec_vredand (s : State) d a b m st : exec (.vredand d a b m st) s = execVredand d a b m st s := rfl
theorem exec_vredor (s : State) d a b m st : exec (.vredor d a b m st) s = execVredor d a b m st s := rfl
theorem exec_vredxor (s : State) d a b m st : exec (.vredxor d a b m st) s = execVredxor d a b m st s := rfl
theorem exec_vredmin (s : State) d a b m st : exec (.vredmin d a b m st) s = execVredmin d a b m st s := rfl
theorem exec_vredmax (s : State) d a b m st : exec (.vredmax d a b m st) s = execVredmax d a b m st s := rfl
theorem exec_vredminn (s : State) d a b m st : exec (.vredminn d a b m st) s = execVredminn d a b m st s := rfl
theorem exec_vredmaxn (s : State) d a b m st : exec (.vredmaxn d a b m st) s = execVredmaxn d a b m st s := rfl
theorem exec_vfredsum (s : State) d a b m st : exec (.vfredsum d a b m st) s = execVfredsum d a b m st s := rfl
theorem exec_vfredmin (s : State) d a b m st : exec (.vfredmin d a b m st) s = execVfredmin d a b m st s := rfl
theorem exec_vfredmax (s : State) d a b m st : exec (.vfredmax d a b m st) s = execVfredmax d a b m st s := rfl
theorem exec_vscan (s : State) d a m st : exec (.vscan d a m st) s = execVscan d a m st s := rfl
theorem exec_vfscan (s : State) d a m st : exec (.vfscan d a m st) s = execVfscan d a m st s := rfl
theorem exec_vsmx (s : State) d a b m st : exec (.vsmx d a b m st) s = execVsmx d a b m st s := rfl
theorem exec_vslideup (s : State) d a b m st : exec (.vslideup d a b m st) s = execVslideup d a b m st s := rfl
theorem exec_vslidedn (s : State) d a b m st : exec (.vslidedn d a b m st) s = execVslidedn d a b m st s := rfl
theorem exec_vslide1up (s : State) d a b m st : exec (.vslide1up d a b m st) s = execVslide1up d a b m st s := rfl
theorem exec_vslide1dn (s : State) d a b m st : exec (.vslide1dn d a b m st) s = execVslide1dn d a b m st s := rfl
theorem exec_vrgath (s : State) d a b m st : exec (.vrgath d a b m st) s = execVrgath d a b m st s := rfl
theorem exec_vcompress (s : State) d a m st : exec (.vcompress d a m st) s = execVcompress d a m st s := rfl
theorem exec_vexpand (s : State) d a m st : exec (.vexpand d a m st) s = execVexpand d a m st s := rfl
theorem exec_vzip (s : State) d a b m st : exec (.vzip d a b m st) s = execVzip d a b m st s := rfl
theorem exec_vunzipe (s : State) d a m st : exec (.vunzipe d a m st) s = execVunzipe d a m st s := rfl
theorem exec_vunzipo (s : State) d a m st : exec (.vunzipo d a m st) s = execVunzipo d a m st s := rfl
theorem exec_vdrot (s : State) d a m st : exec (.vdrot d a m st) s = execVdrot d a m st s := rfl
theorem exec_vsplat (s : State) d a m st : exec (.vsplat d a m st) s = execVsplat d a m st s := rfl
theorem exec_vid (s : State) d m st : exec (.vid d m st) s = execVid d m st s := rfl
theorem exec_vins (s : State) d a b m st : exec (.vins d a b m st) s = execVins d a b m st s := rfl
theorem exec_vext (s : State) d a b st : exec (.vext d a b st) s = execVext d a b st s := rfl
theorem exec_mand (s : State) d a b st : exec (.mand d a b st) s = execMand d a b st s := rfl
theorem exec_mor (s : State) d a b st : exec (.mor d a b st) s = execMor d a b st s := rfl
theorem exec_mxor (s : State) d a b st : exec (.mxor d a b st) s = execMxor d a b st s := rfl
theorem exec_mandn (s : State) d a b st : exec (.mandn d a b st) s = execMandn d a b st s := rfl
theorem exec_mnot (s : State) d a st : exec (.mnot d a st) s = execMnot d a st s := rfl
theorem exec_mset (s : State) d st : exec (.mset d st) s = execMset d st s := rfl
theorem exec_mclr (s : State) d st : exec (.mclr d st) s = execMclr d st s := rfl
theorem exec_mmv (s : State) d a st : exec (.mmv d a st) s = execMmv d a st s := rfl
theorem exec_mpop (s : State) d a st : exec (.mpop d a st) s = execMpop d a st s := rfl
theorem exec_mfirst (s : State) d a st : exec (.mfirst d a st) s = execMfirst d a st s := rfl
theorem exec_msbf (s : State) d a st : exec (.msbf d a st) s = execMsbf d a st s := rfl
theorem exec_mfromv (s : State) d a st : exec (.mfromv d a st) s = execMfromv d a st s := rfl
theorem exec_mtov (s : State) d a st : exec (.mtov d a st) s = execMtov d a st s := rfl
theorem exec_vld16 (s : State) d a c m st : exec (.vld16 d a c m st) s = execVld16 d a c m st s := rfl
theorem exec_vlds16 (s : State) d a b c m st : exec (.vlds16 d a b c m st) s = execVlds16 d a b c m st s := rfl
theorem exec_vldx16 (s : State) d a b c m st : exec (.vldx16 d a b c m st) s = execVldx16 d a b c m st s := rfl
theorem exec_vldff16 (s : State) d a c m st : exec (.vldff16 d a c m st) s = execVldff16 d a c m st s := rfl
theorem exec_vld32 (s : State) d a c m st : exec (.vld32 d a c m st) s = execVld32 d a c m st s := rfl
theorem exec_vlds32 (s : State) d a b c m st : exec (.vlds32 d a b c m st) s = execVlds32 d a b c m st s := rfl
theorem exec_vldx32 (s : State) d a b c m st : exec (.vldx32 d a b c m st) s = execVldx32 d a b c m st s := rfl
theorem exec_vldff32 (s : State) d a c m st : exec (.vldff32 d a c m st) s = execVldff32 d a c m st s := rfl
theorem exec_vld64 (s : State) d a c m st : exec (.vld64 d a c m st) s = execVld64 d a c m st s := rfl
theorem exec_vlds64 (s : State) d a b c m st : exec (.vlds64 d a b c m st) s = execVlds64 d a b c m st s := rfl
theorem exec_vldx64 (s : State) d a b c m st : exec (.vldx64 d a b c m st) s = execVldx64 d a b c m st s := rfl
theorem exec_vldff64 (s : State) d a c m st : exec (.vldff64 d a c m st) s = execVldff64 d a c m st s := rfl
theorem exec_vst16 (s : State) d a c m st : exec (.vst16 d a c m st) s = execVst16 d a c m st s := rfl
theorem exec_vsts16 (s : State) d a b c m st : exec (.vsts16 d a b c m st) s = execVsts16 d a b c m st s := rfl
theorem exec_vstxo16 (s : State) d a b c m st : exec (.vstxo16 d a b c m st) s = execVstxo16 d a b c m st s := rfl
theorem exec_vstxa16 (s : State) d a b c m st : exec (.vstxa16 d a b c m st) s = execVstxa16 d a b c m st s := rfl
theorem exec_vst32 (s : State) d a c m st : exec (.vst32 d a c m st) s = execVst32 d a c m st s := rfl
theorem exec_vsts32 (s : State) d a b c m st : exec (.vsts32 d a b c m st) s = execVsts32 d a b c m st s := rfl
theorem exec_vstxo32 (s : State) d a b c m st : exec (.vstxo32 d a b c m st) s = execVstxo32 d a b c m st s := rfl
theorem exec_vstxa32 (s : State) d a b c m st : exec (.vstxa32 d a b c m st) s = execVstxa32 d a b c m st s := rfl
theorem exec_vst64 (s : State) d a c m st : exec (.vst64 d a c m st) s = execVst64 d a c m st s := rfl
theorem exec_vsts64 (s : State) d a b c m st : exec (.vsts64 d a b c m st) s = execVsts64 d a b c m st s := rfl
theorem exec_vstxo64 (s : State) d a b c m st : exec (.vstxo64 d a b c m st) s = execVstxo64 d a b c m st s := rfl
theorem exec_vstxa64 (s : State) d a b c m st : exec (.vstxa64 d a b c m st) s = execVstxa64 d a b c m st s := rfl
theorem exec_ldi (s : State) d imm st : exec (.ldi d imm st) s = execLdi d imm st s := rfl
theorem exec_ldih (s : State) d imm st : exec (.ldih d imm st) s = execLdih d imm st s := rfl
theorem exec_lacq (s : State) d a imm w scope cls st : exec (.lacq d a imm w scope cls st) s = execLacq d a imm w scope cls st s := rfl
theorem exec_srel (s : State) b a imm w scope cls st : exec (.srel b a imm w scope cls st) s = execSrel b a imm w scope cls st s := rfl
theorem exec_aswap (s : State) d a b imm ord wide scope cls st : exec (.aswap d a b imm ord wide scope cls st) s = execAswap d a b imm ord wide scope cls st s := rfl
theorem exec_aadd (s : State) d a b imm ord wide scope cls st : exec (.aadd d a b imm ord wide scope cls st) s = execAadd d a b imm ord wide scope cls st s := rfl
theorem exec_aand (s : State) d a b imm ord wide scope cls st : exec (.aand d a b imm ord wide scope cls st) s = execAand d a b imm ord wide scope cls st s := rfl
theorem exec_aor (s : State) d a b imm ord wide scope cls st : exec (.aor d a b imm ord wide scope cls st) s = execAor d a b imm ord wide scope cls st s := rfl
theorem exec_axor (s : State) d a b imm ord wide scope cls st : exec (.axor d a b imm ord wide scope cls st) s = execAxor d a b imm ord wide scope cls st s := rfl
theorem exec_amin (s : State) d a b imm ord wide scope cls st : exec (.amin d a b imm ord wide scope cls st) s = execAmin d a b imm ord wide scope cls st s := rfl
theorem exec_amax (s : State) d a b imm ord wide scope cls st : exec (.amax d a b imm ord wide scope cls st) s = execAmax d a b imm ord wide scope cls st s := rfl
theorem exec_aminn (s : State) d a b imm ord wide scope cls st : exec (.aminn d a b imm ord wide scope cls st) s = execAminn d a b imm ord wide scope cls st s := rfl
theorem exec_amaxn (s : State) d a b imm ord wide scope cls st : exec (.amaxn d a b imm ord wide scope cls st) s = execAmaxn d a b imm ord wide scope cls st s := rfl
theorem exec_ainc (s : State) d a b imm ord wide scope cls st : exec (.ainc d a b imm ord wide scope cls st) s = execAinc d a b imm ord wide scope cls st s := rfl
theorem exec_adec (s : State) d a b imm ord wide scope cls st : exec (.adec d a b imm ord wide scope cls st) s = execAdec d a b imm ord wide scope cls st s := rfl
theorem exec_abadd (s : State) d a b e imm ord wide scope cls st : exec (.abadd d a b e imm ord wide scope cls st) s = execAbadd d a b e imm ord wide scope cls st s := rfl
theorem exec_acas (s : State) d a b e imm ord wide scope cls st : exec (.acas d a b e imm ord wide scope cls st) s = execAcas d a b e imm ord wide scope cls st s := rfl
theorem exec_ll (s : State) d a imm ord wide scope cls st : exec (.ll d a imm ord wide scope cls st) s = execLl d a imm ord wide scope cls st s := rfl
theorem exec_sc (s : State) d a b imm ord wide scope cls st : exec (.sc d a b imm ord wide scope cls st) s = execSc d a b imm ord wide scope cls st s := rfl
theorem exec_vaadd (s : State) d a b e ret dm me mi scope cls st : exec (.vaadd d a b e ret dm me mi scope cls st) s = execVaadd d a b e ret dm me mi scope cls st s := rfl
theorem exec_vaand (s : State) d a b e ret dm me mi scope cls st : exec (.vaand d a b e ret dm me mi scope cls st) s = execVaand d a b e ret dm me mi scope cls st s := rfl
theorem exec_vaor (s : State) d a b e ret dm me mi scope cls st : exec (.vaor d a b e ret dm me mi scope cls st) s = execVaor d a b e ret dm me mi scope cls st s := rfl
theorem exec_vaxor (s : State) d a b e ret dm me mi scope cls st : exec (.vaxor d a b e ret dm me mi scope cls st) s = execVaxor d a b e ret dm me mi scope cls st s := rfl
theorem exec_vamin (s : State) d a b e ret dm me mi scope cls st : exec (.vamin d a b e ret dm me mi scope cls st) s = execVamin d a b e ret dm me mi scope cls st s := rfl
theorem exec_vamax (s : State) d a b e ret dm me mi scope cls st : exec (.vamax d a b e ret dm me mi scope cls st) s = execVamax d a b e ret dm me mi scope cls st s := rfl
theorem exec_vaswap (s : State) d a b e ret dm me mi scope cls st : exec (.vaswap d a b e ret dm me mi scope cls st) s = execVaswap d a b e ret dm me mi scope cls st s := rfl
theorem exec_vainc (s : State) d a b e ret dm me mi scope cls st : exec (.vainc d a b e ret dm me mi scope cls st) s = execVainc d a b e ret dm me mi scope cls st s := rfl
theorem exec_vabadd (s : State) d a b e ret dm me mi scope cls st : exec (.vabadd d a b e ret dm me mi scope cls st) s = execVabadd d a b e ret dm me mi scope cls st s := rfl
theorem exec_vfaadd (s : State) d a b e ret dm me mi scope cls st : exec (.vfaadd d a b e ret dm me mi scope cls st) s = execVfaadd d a b e ret dm me mi scope cls st s := rfl
theorem exec_vfamax (s : State) d a b e ret dm me mi scope cls st : exec (.vfamax d a b e ret dm me mi scope cls st) s = execVfamax d a b e ret dm me mi scope cls st s := rfl
theorem exec_vgl (s : State) d a b dm me mi scope cls st : exec (.vgl d a b dm me mi scope cls st) s = execVgl d a b dm me mi scope cls st s := rfl
theorem exec_vsc (s : State) d a b e dm me mi scope cls st : exec (.vsc d a b e dm me mi scope cls st) s = execVsc d a b e dm me mi scope cls st s := rfl
theorem exec_vldq (s : State) d a q8 grp dm me mi cls st : exec (.vldq d a q8 grp dm me mi cls st) s = execVldq d a q8 grp dm me mi cls st s := rfl
theorem exec_vstq (s : State) e a q8 grp dm me mi cls st : exec (.vstq e a q8 grp dm me mi cls st) s = execVstq e a q8 grp dm me mi cls st s := rfl
theorem exec_vldf16 (s : State) d a dm me mi cls st : exec (.vldf16 d a dm me mi cls st) s = execVldf16 d a dm me mi cls st s := rfl
theorem exec_vstf16 (s : State) e a dm me mi cls st : exec (.vstf16 e a dm me mi cls st) s = execVstf16 e a dm me mi cls st s := rfl
theorem exec_vlseg (s : State) d a f w dm me mi cls st : exec (.vlseg d a f w dm me mi cls st) s = execVlseg d a f w dm me mi cls st s := rfl
theorem exec_vsseg (s : State) e a f w dm me mi cls st : exec (.vsseg e a f w dm me mi cls st) s = execVsseg e a f w dm me mi cls st s := rfl
theorem exec_vpush (s : State) d b a dm cls st : exec (.vpush d b a dm cls st) s = execVpush d b a dm cls st s := rfl
theorem exec_vtake (s : State) d a dm st : exec (.vtake d a dm st) s = execVtake d a dm st s := rfl
theorem exec_vempty (s : State) d dm st : exec (.vempty d dm st) s = execVempty d dm st s := rfl
theorem exec_vfill (s : State) d dm st : exec (.vfill d dm st) s = execVfill d dm st s := rfl
theorem exec_fget (s : State) d a imm scope cls st : exec (.fget d a imm scope cls st) s = execFget d a imm scope cls st s := rfl
theorem exec_ftake (s : State) d a imm scope cls st : exec (.ftake d a imm scope cls st) s = execFtake d a imm scope cls st s := rfl
theorem exec_fgive (s : State) b a imm scope cls st : exec (.fgive b a imm scope cls st) s = execFgive b a imm scope cls st s := rfl
theorem exec_fempty (s : State) a imm scope cls st : exec (.fempty a imm scope cls st) s = execFempty a imm scope cls st s := rfl
theorem exec_fpeek (s : State) d a imm scope cls st : exec (.fpeek d a imm scope cls st) s = execFpeek d a imm scope cls st s := rfl
theorem exec_sbind (s : State) d a imm st : exec (.sbind d a imm st) s = execSbind d a imm st s := rfl
theorem exec_sunbind (s : State) d st : exec (.sunbind d st) s = execSunbind d st s := rfl
theorem exec_sstat (s : State) d b st : exec (.sstat d b st) s = execSstat d b st s := rfl
theorem exec_sflush (s : State) d st : exec (.sflush d st) s = execSflush d st s := rfl
theorem exec_tplanar (s : State) d a b e keep cls st : exec (.tplanar d a b e keep cls st) s = execTplanar d a b e keep cls st s := rfl
theorem exec_tpost (s : State) d a scope cls st : exec (.tpost d a scope cls st) s = execTpost d a scope cls st s := rfl
theorem exec_tzero (s : State) a cls st : exec (.tzero a cls st) s = execTzero a cls st s := rfl
theorem exec_trenorm (s : State) a b cls st : exec (.trenorm a b cls st) s = execTrenorm a b cls st s := rfl
theorem exec_tload (s : State) d a b me mi cls st : exec (.tload d a b me mi cls st) s = execTload d a b me mi cls st s := rfl
theorem exec_tinit (s : State) a b p role cls st : exec (.tinit a b p role cls st) s = execTinit a b p role cls st s := rfl
theorem exec_tstat (s : State) d a cls st : exec (.tstat d a cls st) s = execTstat d a cls st s := rfl
theorem exec_tflags (s : State) d a b cls st : exec (.tflags d a b cls st) s = execTflags d a b cls st s := rfl
theorem exec_epost (s : State) d a st : exec (.epost d a st) s = execEpost d a st s := rfl
theorem exec_esusp (s : State) d a all st : exec (.esusp d a all st) s = execEsusp d a all st s := rfl
theorem exec_eresm (s : State) d a all st : exec (.eresm d a all st) s = execEresm d a all st s := rfl
theorem exec_estat (s : State) d a sel st : exec (.estat d a sel st) s = execEstat d a sel st s := rfl
theorem exec_ewait (s : State) d a b imm scope cls st : exec (.ewait d a b imm scope cls st) s = execEwait d a b imm scope cls st s := rfl
theorem exec_lkacq (s : State) d a mode scope st : exec (.lkacq d a mode scope st) s = execLkacq d a mode scope st s := rfl
theorem exec_lktry (s : State) d a mode scope st : exec (.lktry d a mode scope st) s = execLktry d a mode scope st s := rfl
theorem exec_lkrel (s : State) d a scope st : exec (.lkrel d a scope st) s = execLkrel d a scope st s := rfl
theorem exec_lkup (s : State) d a mode scope st : exec (.lkup d a mode scope st) s = execLkup d a mode scope st s := rfl
theorem exec_lkdown (s : State) d a mode scope st : exec (.lkdown d a mode scope st) s = execLkdown d a mode scope st s := rfl
theorem exec_lkrelall (s : State) d scope st : exec (.lkrelall d scope st) s = execLkrelall d scope st s := rfl
theorem exec_lkstat (s : State) d a scope st : exec (.lkstat d a scope st) s = execLkstat d a scope st s := rfl
theorem exec_nlaunch (s : State) d a sup st : exec (.nlaunch d a sup st) s = execNlaunch d a sup st s := rfl
theorem exec_llease (s : State) a b st : exec (.llease a b st) s = execLlease a b st s := rfl
theorem exec_bset (s : State) n a st : exec (.bset n a st) s = execBset n a st s := rfl
theorem exec_barr (s : State) d n scope st : exec (.barr d n scope st) s = execBarr d n scope st s := rfl
theorem exec_bwait (s : State) n a scope st : exec (.bwait n a scope st) s = execBwait n a scope st s := rfl
theorem exec_bsync (s : State) n scope st : exec (.bsync n scope st) s = execBsync n scope st s := rfl
theorem exec_tsread (s : State) d k st : exec (.tsread d k st) s = execTsread d k st s := rfl
theorem exec_xv (s : State) f6 op ds vm dm cls me mi b a d st : exec (.xv f6 op ds vm dm cls me mi b a d st) s = execXv f6 op ds vm dm cls me mi b a d st s := rfl
theorem exec_xvi (s : State) op d a f6 imm st : exec (.xvi op d a f6 imm st) s = execXvi op d a f6 imm st s := rfl
theorem exec_cIllegal (s : State) a b : exec (.cIllegal a b) s = execCIllegal a b s := rfl
theorem exec_cAdd (s : State) a b : exec (.cAdd a b) s = execCAdd a b s := rfl
theorem exec_cSub (s : State) a b : exec (.cSub a b) s = execCSub a b s := rfl
theorem exec_cMv (s : State) a b : exec (.cMv a b) s = execCMv a b s := rfl
theorem exec_cAddi (s : State) a im : exec (.cAddi a im) s = execCAddi a im s := rfl
theorem exec_cLi (s : State) a im : exec (.cLi a im) s = execCLi a im s := rfl
theorem exec_cSlli (s : State) a h : exec (.cSlli a h) s = execCSlli a h s := rfl
theorem exec_cSrli (s : State) a h : exec (.cSrli a h) s = execCSrli a h s := rfl
theorem exec_cAnd (s : State) a b : exec (.cAnd a b) s = execCAnd a b s := rfl
theorem exec_cOr (s : State) a b : exec (.cOr a b) s = execCOr a b s := rfl
theorem exec_cXor (s : State) a b : exec (.cXor a b) s = execCXor a b s := rfl
theorem exec_cLd64 (s : State) a b : exec (.cLd64 a b) s = execCLd64 a b s := rfl
theorem exec_cSt64 (s : State) a b : exec (.cSt64 a b) s = execCSt64 a b s := rfl
theorem exec_cBeqz (s : State) a im : exec (.cBeqz a im) s = execCBeqz a im s := rfl
theorem exec_cBnez (s : State) a im : exec (.cBnez a im) s = execCBnez a im s := rfl
theorem exec_cJ (s : State) im : exec (.cJ im) s = execCJ im s := rfl
theorem exec_cJr (s : State) a : exec (.cJr a) s = execCJr a s := rfl
theorem exec_cVsetl (s : State) a b : exec (.cVsetl a b) s = execCVsetl a b s := rfl
theorem exec_cVadd (s : State) a b : exec (.cVadd a b) s = execCVadd a b s := rfl
theorem exec_cVfadd (s : State) a b : exec (.cVfadd a b) s = execCVfadd a b s := rfl
theorem exec_cVmv (s : State) a b : exec (.cVmv a b) s = execCVmv a b s := rfl
theorem exec_cKend (s : State) : exec (.cKend) s = execCKend s := rfl
theorem exec_cNop (s : State) : exec (.cNop) s = execCNop s := rfl
theorem exec_vtypeWrite (s : State) v : exec (.vtypeWrite v) s = execVtypeWrite v s := rfl
theorem exec_vlWrite (s : State) v : exec (.vlWrite v) s = execVlWrite v s := rfl
theorem exec_vstartWrite (s : State) v : exec (.vstartWrite v) s = execVstartWrite v s := rfl
theorem exec_vtagsWrite (s : State) hi v : exec (.vtagsWrite hi v) s = execVtagsWrite hi v s := rfl
theorem exec_pairctlModeSolo (s : State) v : exec (.pairctlModeSolo v) s = execPairctlModeSolo v s := rfl
theorem exec_pairctlModePair (s : State) v : exec (.pairctlModePair v) s = execPairctlModePair v s := rfl
theorem exec_ksliceWrite (s : State) v : exec (.ksliceWrite v) s = execKsliceWrite v s := rfl
theorem exec_catctlWrite (s : State) v : exec (.catctlWrite v) s = execCatctlWrite v s := rfl
theorem exec_curcmpWrite (s : State) v : exec (.curcmpWrite v) s = execCurcmpWrite v s := rfl
theorem exec_ptbaseWrite (s : State) v : exec (.ptbaseWrite v) s = execPtbaseWrite v s := rfl
theorem exec_sctxWrite (s : State) v : exec (.sctxWrite v) s = execSctxWrite v s := rfl
theorem exec_tbcfgWrite (s : State) v : exec (.tbcfgWrite v) s = execTbcfgWrite v s := rfl
theorem exec_dspsupWrite (s : State) v : exec (.dspsupWrite v) s = execDspsupWrite v s := rfl
theorem exec_csrWrite (s : State) csr v : exec (.csrWrite csr v) s = execCsrWrite csr v s := rfl
theorem exec_preemptRequestWrite (s : State) n v : exec (.preemptRequestWrite n v) s = execPreemptRequestWrite n v s := rfl
theorem exec_hostDoorbellWrite (s : State) n v : exec (.hostDoorbellWrite n v) s = execHostDoorbellWrite n v s := rfl
theorem exec_hostMailboxWrite (s : State) w size v : exec (.hostMailboxWrite w size v) s = execHostMailboxWrite w size v s := rfl
theorem exec_hostMemoryRead (s : State) off size : exec (.hostMemoryRead off size) s = execHostMemoryRead off size s := rfl
theorem exec_hostMemoryWrite (s : State) off size v : exec (.hostMemoryWrite off size v) s = execHostMemoryWrite off size v s := rfl
theorem exec_attestationRequest (s : State) nonce asid : exec (.attestationRequest nonce asid) s = execAttestationRequest nonce asid s := rfl
theorem exec_registrarServe (s : State) : exec (.registrarServe) s = execRegistrarServe s := rfl
theorem exec_waitWordRead (s : State) seq : exec (.waitWordRead seq) s = execWaitWordRead seq s := rfl
theorem exec_walkerDispatch (s : State) : exec (.walkerDispatch) s = execWalkerDispatch s := rfl
theorem exec_threadResume (s : State) : exec (.threadResume) s = execThreadResume s := rfl
theorem exec_kendRetire (s : State) n : exec (.kendRetire n) s = execKendRetire n s := rfl
theorem exec_iterationFaultEnd (s : State) n : exec (.iterationFaultEnd n) s = execIterationFaultEnd n s := rfl
theorem exec_nestDone (s : State) seq : exec (.nestDone seq) s = execNestDone seq s := rfl
theorem exec_nestAbort (s : State) seq : exec (.nestAbort seq) s = execNestAbort seq s := rfl
theorem exec_featureRequeue (s : State) seq : exec (.featureRequeue seq) s = execFeatureRequeue seq s := rfl
theorem exec_gangAck (s : State) gid fabric : exec (.gangAck gid fabric) s = execGangAck gid fabric s := rfl
theorem exec_gangTimeout (s : State) seq : exec (.gangTimeout seq) s = execGangTimeout seq s := rfl
theorem exec_tileTaskWtokReady (s : State) id : exec (.tileTaskWtokReady id) s = execTileTaskWtokReady id s := rfl
theorem exec_curatorGrant (s : State) : exec (.curatorGrant) s = execCuratorGrant s := rfl
theorem exec_lockRevoke (s : State) name tid : exec (.lockRevoke name tid) s = execLockRevoke name tid s := rfl
theorem exec_tileTaskIssue (s : State) c : exec (.tileTaskIssue c) s = execTileTaskIssue c s := rfl
theorem exec_tileSliceStep (s : State) id : exec (.tileSliceStep id) s = execTileSliceStep id s := rfl
theorem exec_tileMergeTurn (s : State) id : exec (.tileMergeTurn id) s = execTileMergeTurn id s := rfl
theorem exec_tileTaskFinish (s : State) id : exec (.tileTaskFinish id) s = execTileTaskFinish id s := rfl
theorem exec_copyStart (s : State) c : exec (.copyStart c) s = execCopyStart c s := rfl
theorem exec_copyChunk (s : State) id : exec (.copyChunk id) s = execCopyChunk id s := rfl
theorem exec_copyFinish (s : State) id : exec (.copyFinish id) s = execCopyFinish id s := rfl
theorem exec_futureWaitComplete (s : State) n : exec (.futureWaitComplete n) s = execFutureWaitComplete n s := rfl
theorem exec_bwaitReturn (s : State) n : exec (.bwaitReturn n) s = execBwaitReturn n s := rfl
theorem exec_ewaitReturn (s : State) n : exec (.ewaitReturn n) s = execEwaitReturn n s := rfl
theorem exec_gatedReadProceed (s : State) n : exec (.gatedReadProceed n) s = execGatedReadProceed n s := rfl
theorem exec_vpushProceed (s : State) n : exec (.vpushProceed n) s = execVpushProceed n s := rfl
theorem exec_napWake (s : State) n : exec (.napWake n) s = execNapWake n s := rfl
theorem exec_emptyTimeout (s : State) n : exec (.emptyTimeout n) s = execEmptyTimeout n s := rfl
theorem exec_reservationExpire (s : State) n : exec (.reservationExpire n) s = execReservationExpire n s := rfl
theorem exec_viqIssue (s : State) n : exec (.viqIssue n) s = execViqIssue n s := rfl
theorem exec_viqComplete (s : State) n : exec (.viqComplete n) s = execViqComplete n s := rfl
theorem exec_viqRetire (s : State) n : exec (.viqRetire n) s = execViqRetire n s := rfl
theorem exec_catalogueDedup (s : State) n : exec (.catalogueDedup n) s = execCatalogueDedup n s := rfl
theorem exec_streamFetch (s : State) n r : exec (.streamFetch n r) s = execStreamFetch n r s := rfl
theorem exec_leadIssue (s : State) n : exec (.leadIssue n) s = execLeadIssue n s := rfl
theorem exec_leadForkCopyDone (s : State) n : exec (.leadForkCopyDone n) s = execLeadForkCopyDone n s := rfl
theorem exec_asyncTrapTake (s : State) n : exec (.asyncTrapTake n) s = execAsyncTrapTake n s := rfl
theorem exec_timerCompare (s : State) n : exec (.timerCompare n) s = execTimerCompare n s := rfl
theorem exec_userTrapDeliver (s : State) n : exec (.userTrapDeliver n) s = execUserTrapDeliver n s := rfl
theorem exec_scratchWayRestore (s : State) n w : exec (.scratchWayRestore n w) s = execScratchWayRestore n w s := rfl
theorem exec_icacheFill (s : State) n addr : exec (.icacheFill n addr) s = execIcacheFill n addr s := rfl
theorem exec_pageWalk (s : State) n addr kind : exec (.pageWalk n addr kind) s = execPageWalk n addr kind s := rfl
theorem exec_l2Fill (s : State) pa : exec (.l2Fill pa) s = execL2Fill pa s := rfl
theorem exec_coalesceDrainTimeout (s : State) n : exec (.coalesceDrainTimeout n) s = execCoalesceDrainTimeout n s := rfl
theorem exec_loanRecallDone (s : State) pa : exec (.loanRecallDone pa) s = execLoanRecallDone pa s := rfl
theorem exec_slotWheelFrame (s : State) : exec (.slotWheelFrame) s = execSlotWheelFrame s := rfl
theorem exec_goldenEpoch (s : State) : exec (.goldenEpoch) s = execGoldenEpoch s := rfl
theorem exec_linkFlitReceive (s : State) link flit : exec (.linkFlitReceive link flit) s = execLinkFlitReceive link flit s := rfl
theorem exec_axolotlReplan (s : State) die group short : exec (.axolotlReplan die group short) s = execAxolotlReplan die group short s := rfl
theorem exec_dieDomainDown (s : State) die : exec (.dieDomainDown die) s = execDieDomainDown die s := rfl
theorem exec_deviceReset (s : State) : exec (.deviceReset) s = execDeviceReset s := rfl
theorem exec_uncorrectableErrorAfterAck (s : State) seq loc : exec (.uncorrectableErrorAfterAck seq loc) s = execUncorrectableErrorAfterAck seq loc s := rfl

end Sys2Proof.Machine
end

