-- ==== Sys2Proof/Laws/Mem.lean ====
section
/-! SUPPORT. Memory: the canonical form is kept by every operation on cells, sets, keys and bytes, and a byte reads as what
was written to it, every other one as before (17 R381; 20 R440, R445). -/

namespace Sys2Proof.Machine

/-! ### Cells -/

theorem cellsWf_mono {lo lo' : Nat} (h : lo ≤ lo') : ∀ {cs : List Host.Cell}, cellsWf lo' cs = true → cellsWf lo cs = true
  | [], _ => rfl
  | (x, b) :: t, hw => by
    simp only [cellsWf, Bool.and_eq_true, decide_eq_true_eq] at hw ⊢
    exact ⟨⟨by omega, hw.1.2⟩, hw.2⟩

theorem cellsWf_set : ∀ (cs : List Host.Cell) (lo a : Nat) (v : Byte), lo ≤ a → cellsWf lo cs = true →
    cellsWf lo (cellSet cs a v) = true
  | [], lo, a, v, ha, _ => by
    unfold cellSet; split
    · rfl
    · simp_all [cellsWf]
  | (x, b) :: t, lo, a, v, ha, hw => by
    simp only [cellsWf, Bool.and_eq_true, decide_eq_true_eq] at hw
    obtain ⟨⟨hlo, hb⟩, ht⟩ := hw
    have hw' : ∀ k, k ≤ x → cellsWf k ((x, b) :: t) = true := fun k hk => by simp [cellsWf, hk, hb, ht]
    unfold cellSet
    split
    · split
      · exact hw' _ hlo
      · rename_i hv; simp_all [cellsWf] <;> omega
    · split
      · split
        · exact cellsWf_mono (by omega) ht
        · rename_i hv; simp_all [cellsWf]
      · have := cellsWf_set t (x + 1) a v (by omega) ht
        simp_all [cellsWf]

/-- A byte below every entry reads as an unlisted one. -/
theorem cellGet_of_lt : ∀ (cs : List Host.Cell) (lo a : Nat), cellsWf lo cs = true → a < lo → cellGet cs a = unlistedByte
  | [], _, _, _, _ => rfl
  | (x, b) :: t, lo, a, hw, ha => by
    simp only [cellsWf, Bool.and_eq_true, decide_eq_true_eq] at hw
    have : x ≠ a := by omega
    have : a < x := by omega
    simp_all [cellGet]

/-- A byte reads as what was written to it, every other one as before. -/
theorem cellGet_cellSet : ∀ (cs : List Host.Cell) (lo a x : Nat) (v : Byte), cellsWf lo cs = true →
    cellGet (cellSet cs a v) x = if x = a then v else cellGet cs x
  | [], lo, a, x, v, _ => by
    unfold cellSet
    split
    · rename_i hv; split <;> simp_all [cellGet]
    · by_cases h : x = a
      · simp [cellGet, h]
      · simp [cellGet, h, Ne.symm h]
  | (y, b) :: t, lo, a, x, v, hw => by
    simp only [cellsWf, Bool.and_eq_true, decide_eq_true_eq] at hw
    obtain ⟨⟨hlo, hb⟩, ht⟩ := hw
    have ih := cellGet_cellSet t (y + 1) a x v ht
    have low : ∀ z, z < y + 1 → cellGet t z = unlistedByte := fun z hz => cellGet_of_lt t (y + 1) z ht hz
    unfold cellSet
    by_cases h1 : a < y
    · rw [if_pos h1]
      by_cases hv : v = unlistedByte
      · rw [if_pos hv]
        by_cases hx : x = a
        · subst hx; simp [cellGet, hv, h1, show ¬y = x by omega]
        · simp [hx]
      · rw [if_neg hv]
        by_cases hx : x = a
        · subst hx; simp [cellGet]
        · rw [if_neg hx, cellGet, if_neg (Ne.symm hx)]
          by_cases hxa : x < a
          · simp [cellGet, hxa, show ¬y = x by omega, show x < y by omega]
          · rw [if_neg hxa]
    · rw [if_neg h1]
      by_cases h2 : a = y
      · rw [if_pos h2]; subst h2
        by_cases hv : v = unlistedByte
        · rw [if_pos hv]
          by_cases hx : x = a
          · rw [hx, low a (by omega), hv]; simp
          · rw [if_neg hx, cellGet, if_neg (Ne.symm hx)]
            by_cases hl : x < a
            · rw [if_pos hl]; exact low x (by omega)
            · rw [if_neg hl]
        · rw [if_neg hv]
          by_cases hx : x = a
          · simp [cellGet, hx]
          · simp [cellGet, hx, Ne.symm hx]
      · rw [if_neg h2]
        by_cases hx : x = a
        · subst hx
          simp only [cellGet, if_neg (Ne.symm h2), if_neg h1] at ih ⊢
          exact ih
        · rw [if_neg hx] at ih ⊢
          simp only [cellGet]
          by_cases e1 : y = x
          · simp [e1]
          · simp only [if_neg e1]
            by_cases e2 : x < y
            · simp [e2]
            · simp only [if_neg e2]; exact ih

theorem cellsWf_filter (p : Host.Cell → Bool) : ∀ (cs : List Host.Cell) (lo : Nat), cellsWf lo cs = true →
    cellsWf lo (cs.filter p) = true
  | [], _, _ => rfl
  | (x, b) :: t, lo, hw => by
    simp only [cellsWf, Bool.and_eq_true, decide_eq_true_eq] at hw
    have ih := cellsWf_filter p t (x + 1) hw.2
    rw [List.filter_cons]
    split
    · simp [cellsWf, hw.1.1, hw.1.2, ih]
    · exact cellsWf_mono (by omega) ih

theorem cellsWf_foldl_set (a : Nat → Nat) (f : List Host.Cell → Nat → Byte) : ∀ (l : List Nat) (cs : List Host.Cell),
    cellsWf 0 cs = true → cellsWf 0 (l.foldl (fun cs i => cellSet cs (a i) (f cs i)) cs) = true
  | [], _, h => h
  | i :: l, cs, h => cellsWf_foldl_set a f l _ (cellsWf_set cs 0 (a i) (f cs i) (Nat.zero_le _) h)

/-! ### Rising lists of numbers and of keys -/

theorem setWf_mono {lo lo' : Nat} (h : lo ≤ lo') : ∀ {l : List Nat}, setWf lo' l = true → setWf lo l = true
  | [], _ => rfl
  | x :: t, hw => by
    simp only [setWf, Bool.and_eq_true, decide_eq_true_eq] at hw ⊢
    exact ⟨by omega, hw.2⟩

theorem setWf_add : ∀ (l : List Nat) (lo a : Nat), lo ≤ a → setWf lo l = true → setWf lo (setAdd l a) = true
  | [], lo, a, ha, _ => by simp [setAdd, setWf, ha]
  | x :: t, lo, a, ha, hw => by
    simp only [setWf, Bool.and_eq_true, decide_eq_true_eq] at hw
    unfold setAdd
    split
    · simp [setWf, ha, hw.2]; omega
    · split
      · simp [setWf, hw.1, hw.2]
      · simp [setWf, hw.1, setWf_add t (x + 1) a (by omega) hw.2]

theorem setWf_del : ∀ (l : List Nat) (lo a : Nat), setWf lo l = true → setWf lo (setDel l a) = true
  | [], _, _, _ => rfl
  | x :: t, lo, a, hw => by
    simp only [setWf, Bool.and_eq_true, decide_eq_true_eq] at hw
    unfold setDel
    split
    · exact setWf_mono (by omega) hw.2
    · simp [setWf, hw.1, setWf_del t (x + 1) a hw.2]

theorem setWf_filter (p : Nat → Bool) : ∀ (l : List Nat) (lo : Nat), setWf lo l = true → setWf lo (l.filter p) = true
  | [], _, _ => rfl
  | x :: t, lo, hw => by
    simp only [setWf, Bool.and_eq_true, decide_eq_true_eq] at hw
    have ih := setWf_filter p t (x + 1) hw.2
    rw [List.filter_cons]
    split
    · simp [setWf, hw.1, ih]
    · exact setWf_mono (by omega) ih

theorem setHas_of_lt : ∀ (l : List Nat) (lo a : Nat), setWf lo l = true → a < lo → setHas l a = false
  | [], _, _, _, _ => rfl
  | x :: t, lo, a, hw, ha => by
    simp only [setWf, Bool.and_eq_true, decide_eq_true_eq] at hw
    simp [setHas, show ¬x = a by omega, show a < x by omega]

/-- A number is in the list it was added to, and every other one as before. -/
theorem setHas_add : ∀ (l : List Nat) (lo a x : Nat), setWf lo l = true →
    setHas (setAdd l a) x = (decide (x = a) || setHas l x)
  | [], lo, a, x, _ => by
    by_cases h : x = a
    · simp [setAdd, setHas, h]
    · simp [setAdd, setHas, h, Ne.symm h]
  | y :: t, lo, a, x, hw => by
    simp only [setWf, Bool.and_eq_true, decide_eq_true_eq] at hw
    have ih := setHas_add t (y + 1) a x hw.2
    unfold setAdd
    by_cases h1 : a < y
    · rw [if_pos h1]
      by_cases hx : x = a
      · simp [setHas, hx]
      · simp only [setHas, if_neg (Ne.symm hx), hx, decide_false, Bool.false_or]
        by_cases hl : x < a
        · simp [hl, show ¬y = x by omega, show x < y by omega]
        · rw [if_neg hl]
    · rw [if_neg h1]
      by_cases h2 : a = y
      · rw [if_pos h2]; subst h2
        by_cases hx : x = a
        · simp [setHas, hx]
        · simp [setHas, hx, Ne.symm hx]
      · rw [if_neg h2]
        simp only [setHas]
        by_cases hx : y = x
        · simp [hx]
        · simp only [if_neg hx]
          by_cases hl : x < y
          · simp [hl, show ¬x = a by omega]
          · simp only [if_neg hl]; exact ih

/-- A number taken out is gone, and every other one as before. -/
theorem setHas_del : ∀ (l : List Nat) (lo a x : Nat), setWf lo l = true →
    setHas (setDel l a) x = (!decide (x = a) && setHas l x)
  | [], _, _, _, _ => by simp [setDel, setHas]
  | y :: t, lo, a, x, hw => by
    simp only [setWf, Bool.and_eq_true, decide_eq_true_eq] at hw
    have ih := setHas_del t (y + 1) a x hw.2
    unfold setDel
    by_cases h2 : a = y
    · rw [if_pos h2]; subst h2
      by_cases hx : x = a
      · rw [hx, setHas_of_lt t (a + 1) a hw.2 (by omega)]; simp
      · simp only [setHas, if_neg (Ne.symm hx), hx, decide_false, Bool.not_false, Bool.true_and]
        by_cases hl : x < a
        · rw [if_pos hl]; exact setHas_of_lt t (a + 1) x hw.2 (by omega)
        · rw [if_neg hl]
    · rw [if_neg h2]
      simp only [setHas]
      by_cases hx : y = x
      · subst hx; simp [Ne.symm h2]
      · simp only [if_neg hx]
        by_cases hl : x < y
        · simp [hl]
        · simp only [if_neg hl]; exact ih

theorem assocWf_set {α : Type} : ∀ (l : List (Nat × α)) (lo a : Nat) (v : α), lo ≤ a → assocWf lo l = true →
    assocWf lo (assocSet l a v) = true
  | [], lo, a, v, ha, _ => by simp [assocSet, assocWf, ha]
  | (x, b) :: t, lo, a, v, ha, hw => by
    simp only [assocWf, Bool.and_eq_true, decide_eq_true_eq] at hw
    unfold assocSet
    split
    · simp [assocWf, ha, hw.2]; omega
    · split
      · rename_i h; subst h; simp [assocWf, ha, hw.2]
      · simp [assocWf, hw.1, assocWf_set t (x + 1) a v (by omega) hw.2]

theorem assocGet_of_lt {α : Type} : ∀ (l : List (Nat × α)) (lo a : Nat), assocWf lo l = true → a < lo → assocGet l a = none
  | [], _, _, _, _ => rfl
  | (x, b) :: t, lo, a, hw, ha => by
    simp only [assocWf, Bool.and_eq_true, decide_eq_true_eq] at hw
    simp [assocGet, show ¬x = a by omega, show a < x by omega]

/-- A key has the value put at it, every other one as before. -/
theorem assocGet_assocSet {α : Type} : ∀ (l : List (Nat × α)) (lo a x : Nat) (v : α), assocWf lo l = true →
    assocGet (assocSet l a v) x = if x = a then some v else assocGet l x
  | [], lo, a, x, v, _ => by
    by_cases h : x = a
    · simp [assocSet, assocGet, h]
    · simp [assocSet, assocGet, h, Ne.symm h]
  | (y, b) :: t, lo, a, x, v, hw => by
    simp only [assocWf, Bool.and_eq_true, decide_eq_true_eq] at hw
    have ih := assocGet_assocSet t (y + 1) a x v hw.2
    unfold assocSet
    by_cases h1 : a < y
    · rw [if_pos h1]
      by_cases hx : x = a
      · simp [assocGet, hx]
      · simp only [assocGet, if_neg (Ne.symm hx), if_neg hx]
        by_cases hl : x < a
        · simp [hl, show ¬y = x by omega, show x < y by omega]
        · rw [if_neg hl]
    · rw [if_neg h1]
      by_cases h2 : a = y
      · rw [if_pos h2]; subst h2
        by_cases hx : x = a
        · simp [assocGet, hx]
        · simp [assocGet, hx, Ne.symm hx]
      · rw [if_neg h2]
        simp only [assocGet]
        by_cases hx : y = x
        · subst hx; simp [Ne.symm h2]
        · simp only [if_neg hx]
          by_cases hl : x < y
          · simp [hl, show ¬x = a by omega]
          · simp only [if_neg hl]; exact ih

/-! ### The device's memory -/

/-- The four parts of the canonical form. -/
theorem Mem.wf_iff (m : Mem) : m.wf = true ↔
    cellsWf 0 m.cells = true ∧ setWf 0 m.full = true ∧ setWf 0 m.poison = true ∧ assocWf 0 m.keys = true := by
  simp [Mem.wf, and_assoc]

theorem rekey_wf {m : Mem} (h : m.wf = true) (key loc : Nat) : (rekey m key loc).wf = true := by
  obtain ⟨h1, h2, h3, h4⟩ := (Mem.wf_iff m).mp h
  unfold rekey
  split
  · exact h
  · split
    · split
      · exact h
      · refine (Mem.wf_iff _).mpr ⟨?_, h2, h3, assocWf_set _ _ _ _ (Nat.zero_le _) h4⟩
        dsimp only
        generalize List.range 64 = l
        exact cellsWf_foldl_set (fun i => sectorOf loc * 64 + i)
          (fun cs i => Config.wrongKeyByte (sectorOf loc * 64 + i) key (cellGet cs (sectorOf loc * 64 + i))) l _ h1
    · exact (Mem.wf_iff _).mpr ⟨h1, h2, h3, assocWf_set _ _ _ _ (Nat.zero_le _) h4⟩

theorem writeByte_wf {d : Dev} (h : d.mem.wf = true) (key loc : Nat) (b : Byte) : (writeByte d key loc b).mem.wf = true := by
  unfold writeByte
  split
  · obtain ⟨h1, h2, h3, h4⟩ := (Mem.wf_iff _).mp (rekey_wf h key loc)
    exact (Mem.wf_iff _).mpr ⟨cellsWf_set _ _ _ _ (Nat.zero_le _) h1, h2, h3, h4⟩
  · exact h

theorem writeNat_wf (key : Nat) : ∀ (n : Nat) {d : Dev}, d.mem.wf = true → ∀ loc v, (writeNat key n d loc v).mem.wf = true
  | 0, _, h, _, _ => h
  | n + 1, _, h, loc, _ => writeNat_wf key n (writeByte_wf h key loc _) _ _

theorem clearCovered_wf {m : Mem} (h : m.wf = true) (loc n : Nat) : (clearCovered m loc n).wf = true := by
  obtain ⟨h1, h2, h3, h4⟩ := (Mem.wf_iff m).mp h
  exact (Mem.wf_iff _).mpr ⟨h1, h2, setWf_filter _ _ _ h3, h4⟩

theorem markPoison_wf : ∀ (n : Nat) {m : Mem}, m.wf = true → ∀ loc, (markPoison m n loc).wf = true
  | 0, _, h, _ => h
  | n + 1, m, h, loc => by
    obtain ⟨h1, h2, h3, h4⟩ := (Mem.wf_iff m).mp h
    exact markPoison_wf n (m := { m with poison := setAdd m.poison (unitOf loc) })
      ((Mem.wf_iff _).mpr ⟨h1, h2, setWf_add _ _ _ (Nat.zero_le _) h3, h4⟩) _

theorem setFull_wf {m : Mem} (h : m.wf = true) (loc : Nat) (f : Bool) : (setFull m loc f).wf = true := by
  obtain ⟨h1, h2, h3, h4⟩ := (Mem.wf_iff m).mp h
  refine (Mem.wf_iff _).mpr ⟨h1, ?_, h3, h4⟩
  unfold setFull; dsimp only
  split
  · exact setWf_add _ _ _ (Nat.zero_le _) h2
  · exact setWf_del _ _ _ h2

theorem placeBytes_wf : ∀ (bs : List Byte) (cs : List Host.Cell) (a : Nat), cellsWf 0 cs = true → cellsWf 0 (placeBytes cs a bs) = true
  | [], _, _, h => h
  | b :: l, cs, a, h => placeBytes_wf l _ _ (cellsWf_set cs 0 a b (Nat.zero_le _) h)

/-- A byte written where memory works reads back under its key. -/
theorem readByte_writeByte_same {d : Dev} (h : d.mem.wf = true) (key loc : Nat) (b : Byte) (hp : locPresent d loc = true) :
    readByte (writeByte d key loc b).mem key loc = b := by
  have hw := (Mem.wf_iff _).mp (rekey_wf h key loc)
  have hk : isSram loc = false → assocGet (rekey d.mem key loc).keys (sectorOf loc) = some key := fun hs => by
    unfold rekey; rw [if_neg (by simp [hs])]
    split
    · split
      · rename_i k hk e; rw [hk, e]
      · simp [assocGet_assocSet _ 0 _ _ _ ((Mem.wf_iff _).mp h).2.2.2]
    · simp [assocGet_assocSet _ 0 _ _ _ ((Mem.wf_iff _).mp h).2.2.2]
  unfold writeByte; rw [if_pos hp]
  unfold readByte
  simp only [cellGet_cellSet _ 0 _ _ _ hw.1, if_true]
  cases hs : isSram loc with
  | true => rfl
  | false => simp [hk hs]

end Sys2Proof.Machine
end

