-- ==== Sys2Proof/Laws/PerInstr.lean ====
section
/-! SUPPORT. What holds of every constructor: an instruction is two, four or eight bytes long, and a device event has no bytes
(02 R43). -/

namespace Sys2Proof.Laws.Len

/-- The bytes of an instruction, where it has any, are two, four or eight (02 R43). -/
def Statement (i : Instr) : Prop := ∀ bs, encode i = some bs → bs.length ∈ [2, 4, 8]

theorem of_bytes {i : Instr} {n v : Nat} (h : encode i = some (leBytes n v)) (hn : n ∈ [2, 4, 8]) : Statement i :=
  fun bs hb => by rw [h] at hb; cases hb; rwa [length_leBytes]

theorem of_none {i : Instr} (h : encode i = none) : Statement i := fun bs hb => by rw [h] at hb; cases hb

theorem add (d a b : BitVec 5) (st : BitVec 2) : Statement (.add d a b st) := of_bytes encode_add (by decide)
theorem sub (d a b : BitVec 5) (st : BitVec 2) : Statement (.sub d a b st) := of_bytes encode_sub (by decide)
theorem and (d a b : BitVec 5) (st : BitVec 2) : Statement (.and d a b st) := of_bytes encode_and (by decide)
theorem or (d a b : BitVec 5) (st : BitVec 2) : Statement (.or d a b st) := of_bytes encode_or (by decide)
theorem xor (d a b : BitVec 5) (st : BitVec 2) : Statement (.xor d a b st) := of_bytes encode_xor (by decide)
theorem andn (d a b : BitVec 5) (st : BitVec 2) : Statement (.andn d a b st) := of_bytes encode_andn (by decide)
theorem sll (d a b : BitVec 5) (st : BitVec 2) : Statement (.sll d a b st) := of_bytes encode_sll (by decide)
theorem srl (d a b : BitVec 5) (st : BitVec 2) : Statement (.srl d a b st) := of_bytes encode_srl (by decide)
theorem sra (d a b : BitVec 5) (st : BitVec 2) : Statement (.sra d a b st) := of_bytes encode_sra (by decide)
theorem ror (d a b : BitVec 5) (st : BitVec 2) : Statement (.ror d a b st) := of_bytes encode_ror (by decide)
theorem slt (d a b : BitVec 5) (st : BitVec 2) : Statement (.slt d a b st) := of_bytes encode_slt (by decide)
theorem sltn (d a b : BitVec 5) (st : BitVec 2) : Statement (.sltn d a b st) := of_bytes encode_sltn (by decide)
theorem min (d a b : BitVec 5) (st : BitVec 2) : Statement (.min d a b st) := of_bytes encode_min (by decide)
theorem max (d a b : BitVec 5) (st : BitVec 2) : Statement (.max d a b st) := of_bytes encode_max (by decide)
theorem minn (d a b : BitVec 5) (st : BitVec 2) : Statement (.minn d a b st) := of_bytes encode_minn (by decide)
theorem maxn (d a b : BitVec 5) (st : BitVec 2) : Statement (.maxn d a b st) := of_bytes encode_maxn (by decide)
theorem mul (d a b : BitVec 5) (st : BitVec 2) : Statement (.mul d a b st) := of_bytes encode_mul (by decide)
theorem mulh (d a b : BitVec 5) (st : BitVec 2) : Statement (.mulh d a b st) := of_bytes encode_mulh (by decide)
theorem mulhn (d a b : BitVec 5) (st : BitVec 2) : Statement (.mulhn d a b st) := of_bytes encode_mulhn (by decide)
theorem div (d a b : BitVec 5) (st : BitVec 2) : Statement (.div d a b st) := of_bytes encode_div (by decide)
theorem divn (d a b : BitVec 5) (st : BitVec 2) : Statement (.divn d a b st) := of_bytes encode_divn (by decide)
theorem rem (d a b : BitVec 5) (st : BitVec 2) : Statement (.rem d a b st) := of_bytes encode_rem (by decide)
theorem remn (d a b : BitVec 5) (st : BitVec 2) : Statement (.remn d a b st) := of_bytes encode_remn (by decide)
theorem clz (d a : BitVec 5) (st : BitVec 2) : Statement (.clz d a st) := of_bytes encode_clz (by decide)
theorem ctz (d a : BitVec 5) (st : BitVec 2) : Statement (.ctz d a st) := of_bytes encode_ctz (by decide)
theorem cpop (d a : BitVec 5) (st : BitVec 2) : Statement (.cpop d a st) := of_bytes encode_cpop (by decide)
theorem sextb (d a : BitVec 5) (st : BitVec 2) : Statement (.sextb d a st) := of_bytes encode_sextb (by decide)
theorem sexth (d a : BitVec 5) (st : BitVec 2) : Statement (.sexth d a st) := of_bytes encode_sexth (by decide)
theorem sextw (d a : BitVec 5) (st : BitVec 2) : Statement (.sextw d a st) := of_bytes encode_sextw (by decide)
theorem bswap (d a : BitVec 5) (st : BitVec 2) : Statement (.bswap d a st) := of_bytes encode_bswap (by decide)
theorem csel (d a b : BitVec 5) (st : BitVec 2) : Statement (.csel d a b st) := of_bytes encode_csel (by decide)
theorem slli (d a : BitVec 5) (h : BitVec 6) (st : BitVec 2) : Statement (.slli d a h st) := of_bytes encode_slli (by decide)
theorem srli (d a : BitVec 5) (h : BitVec 6) (st : BitVec 2) : Statement (.srli d a h st) := of_bytes encode_srli (by decide)
theorem srai (d a : BitVec 5) (h : BitVec 6) (st : BitVec 2) : Statement (.srai d a h st) := of_bytes encode_srai (by decide)
theorem rori (d a : BitVec 5) (h : BitVec 6) (st : BitVec 2) : Statement (.rori d a h st) := of_bytes encode_rori (by decide)
theorem addi (d a : BitVec 5) (i : BitVec 12) (st : BitVec 2) : Statement (.addi d a i st) := of_bytes encode_addi (by decide)
theorem andi (d a : BitVec 5) (i : BitVec 12) (st : BitVec 2) : Statement (.andi d a i st) := of_bytes encode_andi (by decide)
theorem ori (d a : BitVec 5) (i : BitVec 12) (st : BitVec 2) : Statement (.ori d a i st) := of_bytes encode_ori (by decide)
theorem xori (d a : BitVec 5) (i : BitVec 12) (st : BitVec 2) : Statement (.xori d a i st) := of_bytes encode_xori (by decide)
theorem slti (d a : BitVec 5) (i : BitVec 12) (st : BitVec 2) : Statement (.slti d a i st) := of_bytes encode_slti (by decide)
theorem sltin (d a : BitVec 5) (i : BitVec 12) (st : BitVec 2) : Statement (.sltin d a i st) := of_bytes encode_sltin (by decide)
theorem movhi (d : BitVec 5) (i : BitVec 17) (st : BitVec 2) : Statement (.movhi d i st) := of_bytes encode_movhi (by decide)
theorem pgrel (d : BitVec 5) (i : BitVec 17) (st : BitVec 2) : Statement (.pgrel d i st) := of_bytes encode_pgrel (by decide)
theorem jal (d : BitVec 5) (i : BitVec 17) (st : BitVec 2) : Statement (.jal d i st) := of_bytes encode_jal (by decide)
theorem jalr (d a : BitVec 5) (i : BitVec 12) (st : BitVec 2) : Statement (.jalr d a i st) := of_bytes encode_jalr (by decide)
theorem beq (a b : BitVec 5) (i : BitVec 12) (st : BitVec 2) : Statement (.beq a b i st) := of_bytes encode_beq (by decide)
theorem bne (a b : BitVec 5) (i : BitVec 12) (st : BitVec 2) : Statement (.bne a b i st) := of_bytes encode_bne (by decide)
theorem blt (a b : BitVec 5) (i : BitVec 12) (st : BitVec 2) : Statement (.blt a b i st) := of_bytes encode_blt (by decide)
theorem bge (a b : BitVec 5) (i : BitVec 12) (st : BitVec 2) : Statement (.bge a b i st) := of_bytes encode_bge (by decide)
theorem bltn (a b : BitVec 5) (i : BitVec 12) (st : BitVec 2) : Statement (.bltn a b i st) := of_bytes encode_bltn (by decide)
theorem bgen (a b : BitVec 5) (i : BitVec 12) (st : BitVec 2) : Statement (.bgen a b i st) := of_bytes encode_bgen (by decide)
theorem sbnz (a b : BitVec 5) (i : BitVec 12) (st : BitVec 2) : Statement (.sbnz a b i st) := of_bytes encode_sbnz (by decide)
theorem ld8 (d a : BitVec 5) (o : BitVec 7) (c : BitVec 4) (st : BitVec 2) : Statement (.ld8 d a o c st) := of_bytes encode_ld8 (by decide)
theorem ld8s (d a : BitVec 5) (o : BitVec 7) (c : BitVec 4) (st : BitVec 2) : Statement (.ld8s d a o c st) := of_bytes encode_ld8s (by decide)
theorem ld16 (d a : BitVec 5) (o : BitVec 7) (c : BitVec 4) (st : BitVec 2) : Statement (.ld16 d a o c st) := of_bytes encode_ld16 (by decide)
theorem ld16s (d a : BitVec 5) (o : BitVec 7) (c : BitVec 4) (st : BitVec 2) : Statement (.ld16s d a o c st) := of_bytes encode_ld16s (by decide)
theorem ld32 (d a : BitVec 5) (o : BitVec 7) (c : BitVec 4) (st : BitVec 2) : Statement (.ld32 d a o c st) := of_bytes encode_ld32 (by decide)
theorem ld32s (d a : BitVec 5) (o : BitVec 7) (c : BitVec 4) (st : BitVec 2) : Statement (.ld32s d a o c st) := of_bytes encode_ld32s (by decide)
theorem ld64 (d a : BitVec 5) (o : BitVec 7) (c : BitVec 4) (st : BitVec 2) : Statement (.ld64 d a o c st) := of_bytes encode_ld64 (by decide)
theorem st8 (d a : BitVec 5) (o : BitVec 7) (c : BitVec 4) (st : BitVec 2) : Statement (.st8 d a o c st) := of_bytes encode_st8 (by decide)
theorem st16 (d a : BitVec 5) (o : BitVec 7) (c : BitVec 4) (st : BitVec 2) : Statement (.st16 d a o c st) := of_bytes encode_st16 (by decide)
theorem st32 (d a : BitVec 5) (o : BitVec 7) (c : BitVec 4) (st : BitVec 2) : Statement (.st32 d a o c st) := of_bytes encode_st32 (by decide)
theorem st64 (d a : BitVec 5) (o : BitVec 7) (c : BitVec 4) (st : BitVec 2) : Statement (.st64 d a o c st) := of_bytes encode_st64 (by decide)
theorem fadd (d a b : BitVec 5) (p : Bool) (st : BitVec 2) : Statement (.fadd d a b p st) := of_bytes encode_fadd (by decide)
theorem fsub (d a b : BitVec 5) (p : Bool) (st : BitVec 2) : Statement (.fsub d a b p st) := of_bytes encode_fsub (by decide)
theorem fmul (d a b : BitVec 5) (p : Bool) (st : BitVec 2) : Statement (.fmul d a b p st) := of_bytes encode_fmul (by decide)
theorem fdiv (d a b : BitVec 5) (p : Bool) (st : BitVec 2) : Statement (.fdiv d a b p st) := of_bytes encode_fdiv (by decide)
theorem fsqrt (d a : BitVec 5) (p : Bool) (st : BitVec 2) : Statement (.fsqrt d a p st) := of_bytes encode_fsqrt (by decide)
theorem fmin (d a b : BitVec 5) (p : Bool) (st : BitVec 2) : Statement (.fmin d a b p st) := of_bytes encode_fmin (by decide)
theorem fmax (d a b : BitVec 5) (p : Bool) (st : BitVec 2) : Statement (.fmax d a b p st) := of_bytes encode_fmax (by decide)
theorem feq (d a b : BitVec 5) (p : Bool) (st : BitVec 2) : Statement (.feq d a b p st) := of_bytes encode_feq (by decide)
theorem flt (d a b : BitVec 5) (p : Bool) (st : BitVec 2) : Statement (.flt d a b p st) := of_bytes encode_flt (by decide)
theorem fle (d a b : BitVec 5) (p : Bool) (st : BitVec 2) : Statement (.fle d a b p st) := of_bytes encode_fle (by decide)
theorem fclass (d a : BitVec 5) (p : Bool) (st : BitVec 2) : Statement (.fclass d a p st) := of_bytes encode_fclass (by decide)
theorem fsgnj (d a b : BitVec 5) (p : Bool) (st : BitVec 2) : Statement (.fsgnj d a b p st) := of_bytes encode_fsgnj (by decide)
theorem fsgnjn (d a b : BitVec 5) (p : Bool) (st : BitVec 2) : Statement (.fsgnjn d a b p st) := of_bytes encode_fsgnjn (by decide)
theorem fsgnjx (d a b : BitVec 5) (p : Bool) (st : BitVec 2) : Statement (.fsgnjx d a b p st) := of_bytes encode_fsgnjx (by decide)
theorem fcvtfi (d a : BitVec 5) (p : Bool) (st : BitVec 2) : Statement (.fcvtfi d a p st) := of_bytes encode_fcvtfi (by decide)
theorem fcvtfn (d a : BitVec 5) (p : Bool) (st : BitVec 2) : Statement (.fcvtfn d a p st) := of_bytes encode_fcvtfn (by decide)
theorem fcvtif (d a : BitVec 5) (p : Bool) (st : BitVec 2) : Statement (.fcvtif d a p st) := of_bytes encode_fcvtif (by decide)
theorem fcvtnf (d a : BitVec 5) (p : Bool) (st : BitVec 2) : Statement (.fcvtnf d a p st) := of_bytes encode_fcvtnf (by decide)
theorem fcvtff (d a : BitVec 5) (p : Bool) (st : BitVec 2) : Statement (.fcvtff d a p st) := of_bytes encode_fcvtff (by decide)
theorem fcvtbf (d a : BitVec 5) (p : Bool) (st : BitVec 2) : Statement (.fcvtbf d a p st) := of_bytes encode_fcvtbf (by decide)
theorem fcvtfb (d a : BitVec 5) (p : Bool) (st : BitVec 2) : Statement (.fcvtfb d a p st) := of_bytes encode_fcvtfb (by decide)
theorem ffma32 (d a b e : BitVec 5) (v st : BitVec 2) : Statement (.ffma32 d a b e v st) := of_bytes encode_ffma32 (by decide)
theorem ffma64 (d a b e : BitVec 5) (v st : BitVec 2) : Statement (.ffma64 d a b e v st) := of_bytes encode_ffma64 (by decide)
theorem svc (st : BitVec 2) : Statement (.svc st) := of_bytes encode_svc (by decide)
theorem tret (st : BitVec 2) : Statement (.tret st) := of_bytes encode_tret (by decide)
theorem brk (st : BitVec 2) : Statement (.brk st) := of_bytes encode_brk (by decide)
theorem nap (st : BitVec 2) : Statement (.nap st) := of_bytes encode_nap (by decide)
theorem kend (st : BitVec 2) : Statement (.kend st) := of_bytes encode_kend (by decide)
theorem iflush (st : BitVec 2) : Statement (.iflush st) := of_bytes encode_iflush (by decide)
theorem uret (st : BitVec 2) : Statement (.uret st) := of_bytes encode_uret (by decide)
theorem yield (st : BitVec 2) : Statement (.yield st) := of_bytes encode_yield (by decide)
theorem iprf (a : BitVec 5) (o : BitVec 7) (st : BitVec 2) : Statement (.iprf a o st) := of_bytes encode_iprf (by decide)
theorem dprf (a : BitVec 5) (o : BitVec 7) (c : BitVec 4) (st : BitVec 2) : Statement (.dprf a o c st) := of_bytes encode_dprf (by decide)
theorem fence (k : BitVec 16) (e st : BitVec 2) : Statement (.fence k e st) := of_bytes encode_fence (by decide)
theorem fenceacq (k : BitVec 16) (e st : BitVec 2) : Statement (.fenceacq k e st) := of_bytes encode_fenceacq (by decide)
theorem fencerel (k : BitVec 16) (e st : BitVec 2) : Statement (.fencerel k e st) := of_bytes encode_fencerel (by decide)
theorem vdrain (k : BitVec 16) (e st : BitVec 2) : Statement (.vdrain k e st) := of_bytes encode_vdrain (by decide)
theorem csrrw (d a : BitVec 5) (c : BitVec 12) (st : BitVec 2) : Statement (.csrrw d a c st) := of_bytes encode_csrrw (by decide)
theorem csrrs (d a : BitVec 5) (c : BitVec 12) (st : BitVec 2) : Statement (.csrrs d a c st) := of_bytes encode_csrrs (by decide)
theorem csrrc (d a : BitVec 5) (c : BitVec 12) (st : BitVec 2) : Statement (.csrrc d a c st) := of_bytes encode_csrrc (by decide)
theorem vsetl (d a : BitVec 5) (st : BitVec 2) : Statement (.vsetl d a st) := of_bytes encode_vsetl (by decide)
theorem vsetvt (d a : BitVec 5) (st : BitVec 2) : Statement (.vsetvt d a st) := of_bytes encode_vsetvt (by decide)
theorem vsetty (d t : BitVec 5) (st : BitVec 2) : Statement (.vsetty d t st) := of_bytes encode_vsetty (by decide)
theorem vsetdie (a b : BitVec 5) (st : BitVec 2) : Statement (.vsetdie a b st) := of_bytes encode_vsetdie (by decide)
theorem vaddVv (d a b : BitVec 5) (m : Bool) (st : BitVec 2) : Statement (.vaddVv d a b m st) := of_bytes encode_vaddVv (by decide)
theorem vaddVs (d a b : BitVec 5) (m : Bool) (st : BitVec 2) : Statement (.vaddVs d a b m st) := of_bytes encode_vaddVs (by decide)
theorem vaddVi (d b i : BitVec 5) (m : Bool) (st : BitVec 2) : Statement (.vaddVi d b i m st) := of_bytes encode_vaddVi (by decide)
theorem vsubVv (d a b : BitVec 5) (m : Bool) (st : BitVec 2) : Statement (.vsubVv d a b m st) := of_bytes encode_vsubVv (by decide)
theorem vsubVs (d a b : BitVec 5) (m : Bool) (st : BitVec 2) : Statement (.vsubVs d a b m st) := of_bytes encode_vsubVs (by decide)
theorem vsubVi (d b i : BitVec 5) (m : Bool) (st : BitVec 2) : Statement (.vsubVi d b i m st) := of_bytes encode_vsubVi (by decide)
theorem vrsubVv (d a b : BitVec 5) (m : Bool) (st : BitVec 2) : Statement (.vrsubVv d a b m st) := of_bytes encode_vrsubVv (by decide)
theorem vrsubVs (d a b : BitVec 5) (m : Bool) (st : BitVec 2) : Statement (.vrsubVs d a b m st) := of_bytes encode_vrsubVs (by decide)
theorem vrsubVi (d b i : BitVec 5) (m : Bool) (st : BitVec 2) : Statement (.vrsubVi d b i m st) := of_bytes encode_vrsubVi (by decide)
theorem vmulVv (d a b : BitVec 5) (m : Bool) (st : BitVec 2) : Statement (.vmulVv d a b m st) := of_bytes encode_vmulVv (by decide)
theorem vmulVs (d a b : BitVec 5) (m : Bool) (st : BitVec 2) : Statement (.vmulVs d a b m st) := of_bytes encode_vmulVs (by decide)
theorem vmulVi (d b i : BitVec 5) (m : Bool) (st : BitVec 2) : Statement (.vmulVi d b i m st) := of_bytes encode_vmulVi (by decide)
theorem vmulhVv (d a b : BitVec 5) (m : Bool) (st : BitVec 2) : Statement (.vmulhVv d a b m st) := of_bytes encode_vmulhVv (by decide)
theorem vmulhVs (d a b : BitVec 5) (m : Bool) (st : BitVec 2) : Statement (.vmulhVs d a b m st) := of_bytes encode_vmulhVs (by decide)
theorem vmulhVi (d b i : BitVec 5) (m : Bool) (st : BitVec 2) : Statement (.vmulhVi d b i m st) := of_bytes encode_vmulhVi (by decide)
theorem vmulhnVv (d a b : BitVec 5) (m : Bool) (st : BitVec 2) : Statement (.vmulhnVv d a b m st) := of_bytes encode_vmulhnVv (by decide)
theorem vmulhnVs (d a b : BitVec 5) (m : Bool) (st : BitVec 2) : Statement (.vmulhnVs d a b m st) := of_bytes encode_vmulhnVs (by decide)
theorem vmulhnVi (d b i : BitVec 5) (m : Bool) (st : BitVec 2) : Statement (.vmulhnVi d b i m st) := of_bytes encode_vmulhnVi (by decide)
theorem vmacVv (d a b : BitVec 5) (m : Bool) (st : BitVec 2) : Statement (.vmacVv d a b m st) := of_bytes encode_vmacVv (by decide)
theorem vmacVs (d a b : BitVec 5) (m : Bool) (st : BitVec 2) : Statement (.vmacVs d a b m st) := of_bytes encode_vmacVs (by decide)
theorem vmacVi (d b i : BitVec 5) (m : Bool) (st : BitVec 2) : Statement (.vmacVi d b i m st) := of_bytes encode_vmacVi (by decide)
theorem vandVv (d a b : BitVec 5) (m : Bool) (st : BitVec 2) : Statement (.vandVv d a b m st) := of_bytes encode_vandVv (by decide)
theorem vandVs (d a b : BitVec 5) (m : Bool) (st : BitVec 2) : Statement (.vandVs d a b m st) := of_bytes encode_vandVs (by decide)
theorem vandVi (d b i : BitVec 5) (m : Bool) (st : BitVec 2) : Statement (.vandVi d b i m st) := of_bytes encode_vandVi (by decide)
theorem vorVv (d a b : BitVec 5) (m : Bool) (st : BitVec 2) : Statement (.vorVv d a b m st) := of_bytes encode_vorVv (by decide)
theorem vorVs (d a b : BitVec 5) (m : Bool) (st : BitVec 2) : Statement (.vorVs d a b m st) := of_bytes encode_vorVs (by decide)
theorem vorVi (d b i : BitVec 5) (m : Bool) (st : BitVec 2) : Statement (.vorVi d b i m st) := of_bytes encode_vorVi (by decide)
theorem vxorVv (d a b : BitVec 5) (m : Bool) (st : BitVec 2) : Statement (.vxorVv d a b m st) := of_bytes encode_vxorVv (by decide)
theorem vxorVs (d a b : BitVec 5) (m : Bool) (st : BitVec 2) : Statement (.vxorVs d a b m st) := of_bytes encode_vxorVs (by decide)
theorem vxorVi (d b i : BitVec 5) (m : Bool) (st : BitVec 2) : Statement (.vxorVi d b i m st) := of_bytes encode_vxorVi (by decide)
theorem vsllVv (d a b : BitVec 5) (m : Bool) (st : BitVec 2) : Statement (.vsllVv d a b m st) := of_bytes encode_vsllVv (by decide)
theorem vsllVs (d a b : BitVec 5) (m : Bool) (st : BitVec 2) : Statement (.vsllVs d a b m st) := of_bytes encode_vsllVs (by decide)
theorem vsllVi (d b i : BitVec 5) (m : Bool) (st : BitVec 2) : Statement (.vsllVi d b i m st) := of_bytes encode_vsllVi (by decide)
theorem vsrlVv (d a b : BitVec 5) (m : Bool) (st : BitVec 2) : Statement (.vsrlVv d a b m st) := of_bytes encode_vsrlVv (by decide)
theorem vsrlVs (d a b : BitVec 5) (m : Bool) (st : BitVec 2) : Statement (.vsrlVs d a b m st) := of_bytes encode_vsrlVs (by decide)
theorem vsrlVi (d b i : BitVec 5) (m : Bool) (st : BitVec 2) : Statement (.vsrlVi d b i m st) := of_bytes encode_vsrlVi (by decide)
theorem vsraVv (d a b : BitVec 5) (m : Bool) (st : BitVec 2) : Statement (.vsraVv d a b m st) := of_bytes encode_vsraVv (by decide)
theorem vsraVs (d a b : BitVec 5) (m : Bool) (st : BitVec 2) : Statement (.vsraVs d a b m st) := of_bytes encode_vsraVs (by decide)
theorem vsraVi (d b i : BitVec 5) (m : Bool) (st : BitVec 2) : Statement (.vsraVi d b i m st) := of_bytes encode_vsraVi (by decide)
theorem vminVv (d a b : BitVec 5) (m : Bool) (st : BitVec 2) : Statement (.vminVv d a b m st) := of_bytes encode_vminVv (by decide)
theorem vminVs (d a b : BitVec 5) (m : Bool) (st : BitVec 2) : Statement (.vminVs d a b m st) := of_bytes encode_vminVs (by decide)
theorem vminVi (d b i : BitVec 5) (m : Bool) (st : BitVec 2) : Statement (.vminVi d b i m st) := of_bytes encode_vminVi (by decide)
theorem vmaxVv (d a b : BitVec 5) (m : Bool) (st : BitVec 2) : Statement (.vmaxVv d a b m st) := of_bytes encode_vmaxVv (by decide)
theorem vmaxVs (d a b : BitVec 5) (m : Bool) (st : BitVec 2) : Statement (.vmaxVs d a b m st) := of_bytes encode_vmaxVs (by decide)
theorem vmaxVi (d b i : BitVec 5) (m : Bool) (st : BitVec 2) : Statement (.vmaxVi d b i m st) := of_bytes encode_vmaxVi (by decide)
theorem vminnVv (d a b : BitVec 5) (m : Bool) (st : BitVec 2) : Statement (.vminnVv d a b m st) := of_bytes encode_vminnVv (by decide)
theorem vminnVs (d a b : BitVec 5) (m : Bool) (st : BitVec 2) : Statement (.vminnVs d a b m st) := of_bytes encode_vminnVs (by decide)
theorem vminnVi (d b i : BitVec 5) (m : Bool) (st : BitVec 2) : Statement (.vminnVi d b i m st) := of_bytes encode_vminnVi (by decide)
theorem vmaxnVv (d a b : BitVec 5) (m : Bool) (st : BitVec 2) : Statement (.vmaxnVv d a b m st) := of_bytes encode_vmaxnVv (by decide)
theorem vmaxnVs (d a b : BitVec 5) (m : Bool) (st : BitVec 2) : Statement (.vmaxnVs d a b m st) := of_bytes encode_vmaxnVs (by decide)
theorem vmaxnVi (d b i : BitVec 5) (m : Bool) (st : BitVec 2) : Statement (.vmaxnVi d b i m st) := of_bytes encode_vmaxnVi (by decide)
theorem vdivVv (d a b : BitVec 5) (m : Bool) (st : BitVec 2) : Statement (.vdivVv d a b m st) := of_bytes encode_vdivVv (by decide)
theorem vdivVs (d a b : BitVec 5) (m : Bool) (st : BitVec 2) : Statement (.vdivVs d a b m st) := of_bytes encode_vdivVs (by decide)
theorem vdivVi (d b i : BitVec 5) (m : Bool) (st : BitVec 2) : Statement (.vdivVi d b i m st) := of_bytes encode_vdivVi (by decide)
theorem vdivnVv (d a b : BitVec 5) (m : Bool) (st : BitVec 2) : Statement (.vdivnVv d a b m st) := of_bytes encode_vdivnVv (by decide)
theorem vdivnVs (d a b : BitVec 5) (m : Bool) (st : BitVec 2) : Statement (.vdivnVs d a b m st) := of_bytes encode_vdivnVs (by decide)
theorem vdivnVi (d b i : BitVec 5) (m : Bool) (st : BitVec 2) : Statement (.vdivnVi d b i m st) := of_bytes encode_vdivnVi (by decide)
theorem vremVv (d a b : BitVec 5) (m : Bool) (st : BitVec 2) : Statement (.vremVv d a b m st) := of_bytes encode_vremVv (by decide)
theorem vremVs (d a b : BitVec 5) (m : Bool) (st : BitVec 2) : Statement (.vremVs d a b m st) := of_bytes encode_vremVs (by decide)
theorem vremVi (d b i : BitVec 5) (m : Bool) (st : BitVec 2) : Statement (.vremVi d b i m st) := of_bytes encode_vremVi (by decide)
theorem vremnVv (d a b : BitVec 5) (m : Bool) (st : BitVec 2) : Statement (.vremnVv d a b m st) := of_bytes encode_vremnVv (by decide)
theorem vremnVs (d a b : BitVec 5) (m : Bool) (st : BitVec 2) : Statement (.vremnVs d a b m st) := of_bytes encode_vremnVs (by decide)
theorem vremnVi (d b i : BitVec 5) (m : Bool) (st : BitVec 2) : Statement (.vremnVi d b i m st) := of_bytes encode_vremnVi (by decide)
theorem vsaddVv (d a b : BitVec 5) (m : Bool) (st : BitVec 2) : Statement (.vsaddVv d a b m st) := of_bytes encode_vsaddVv (by decide)
theorem vsaddVs (d a b : BitVec 5) (m : Bool) (st : BitVec 2) : Statement (.vsaddVs d a b m st) := of_bytes encode_vsaddVs (by decide)
theorem vsaddVi (d b i : BitVec 5) (m : Bool) (st : BitVec 2) : Statement (.vsaddVi d b i m st) := of_bytes encode_vsaddVi (by decide)
theorem vssubVv (d a b : BitVec 5) (m : Bool) (st : BitVec 2) : Statement (.vssubVv d a b m st) := of_bytes encode_vssubVv (by decide)
theorem vssubVs (d a b : BitVec 5) (m : Bool) (st : BitVec 2) : Statement (.vssubVs d a b m st) := of_bytes encode_vssubVs (by decide)
theorem vssubVi (d b i : BitVec 5) (m : Bool) (st : BitVec 2) : Statement (.vssubVi d b i m st) := of_bytes encode_vssubVi (by decide)
theorem vmergeVv (d : BitVec 5 × Bool) (a b : BitVec 5) (st : BitVec 2) : Statement (.vmergeVv d a b st) := of_bytes encode_vmergeVv (by decide)
theorem vmergeVs (d : BitVec 5 × Bool) (a b : BitVec 5) (st : BitVec 2) : Statement (.vmergeVs d a b st) := of_bytes encode_vmergeVs (by decide)
theorem vmergeVi (d : BitVec 5 × Bool) (b i : BitVec 5) (st : BitVec 2) : Statement (.vmergeVi d b i st) := of_bytes encode_vmergeVi (by decide)
theorem vmvVv (d a : BitVec 5) (m : Bool) (st : BitVec 2) : Statement (.vmvVv d a m st) := of_bytes encode_vmvVv (by decide)
theorem vmvVs (d a : BitVec 5) (m : Bool) (st : BitVec 2) : Statement (.vmvVs d a m st) := of_bytes encode_vmvVs (by decide)
theorem vmvVi (d i : BitVec 5) (m : Bool) (st : BitVec 2) : Statement (.vmvVi d i m st) := of_bytes encode_vmvVi (by decide)
theorem vseqVv (d a b : BitVec 5) (m : Bool) (st : BitVec 2) : Statement (.vseqVv d a b m st) := of_bytes encode_vseqVv (by decide)
theorem vseqVs (d a b : BitVec 5) (m : Bool) (st : BitVec 2) : Statement (.vseqVs d a b m st) := of_bytes encode_vseqVs (by decide)
theorem vseqVi (d b i : BitVec 5) (m : Bool) (st : BitVec 2) : Statement (.vseqVi d b i m st) := of_bytes encode_vseqVi (by decide)
theorem vsneVv (d a b : BitVec 5) (m : Bool) (st : BitVec 2) : Statement (.vsneVv d a b m st) := of_bytes encode_vsneVv (by decide)
theorem vsneVs (d a b : BitVec 5) (m : Bool) (st : BitVec 2) : Statement (.vsneVs d a b m st) := of_bytes encode_vsneVs (by decide)
theorem vsneVi (d b i : BitVec 5) (m : Bool) (st : BitVec 2) : Statement (.vsneVi d b i m st) := of_bytes encode_vsneVi (by decide)
theorem vsltVv (d a b : BitVec 5) (m : Bool) (st : BitVec 2) : Statement (.vsltVv d a b m st) := of_bytes encode_vsltVv (by decide)
theorem vsltVs (d a b : BitVec 5) (m : Bool) (st : BitVec 2) : Statement (.vsltVs d a b m st) := of_bytes encode_vsltVs (by decide)
theorem vsltVi (d b i : BitVec 5) (m : Bool) (st : BitVec 2) : Statement (.vsltVi d b i m st) := of_bytes encode_vsltVi (by decide)
theorem vsltnVv (d a b : BitVec 5) (m : Bool) (st : BitVec 2) : Statement (.vsltnVv d a b m st) := of_bytes encode_vsltnVv (by decide)
theorem vsltnVs (d a b : BitVec 5) (m : Bool) (st : BitVec 2) : Statement (.vsltnVs d a b m st) := of_bytes encode_vsltnVs (by decide)
theorem vsltnVi (d b i : BitVec 5) (m : Bool) (st : BitVec 2) : Statement (.vsltnVi d b i m st) := of_bytes encode_vsltnVi (by decide)
theorem vsleVv (d a b : BitVec 5) (m : Bool) (st : BitVec 2) : Statement (.vsleVv d a b m st) := of_bytes encode_vsleVv (by decide)
theorem vsleVs (d a b : BitVec 5) (m : Bool) (st : BitVec 2) : Statement (.vsleVs d a b m st) := of_bytes encode_vsleVs (by decide)
theorem vsleVi (d b i : BitVec 5) (m : Bool) (st : BitVec 2) : Statement (.vsleVi d b i m st) := of_bytes encode_vsleVi (by decide)
theorem vslenVv (d a b : BitVec 5) (m : Bool) (st : BitVec 2) : Statement (.vslenVv d a b m st) := of_bytes encode_vslenVv (by decide)
theorem vslenVs (d a b : BitVec 5) (m : Bool) (st : BitVec 2) : Statement (.vslenVs d a b m st) := of_bytes encode_vslenVs (by decide)
theorem vslenVi (d b i : BitVec 5) (m : Bool) (st : BitVec 2) : Statement (.vslenVi d b i m st) := of_bytes encode_vslenVi (by decide)
theorem vfaddVv (d a b : BitVec 5) (m : Bool) (st : BitVec 2) : Statement (.vfaddVv d a b m st) := of_bytes encode_vfaddVv (by decide)
theorem vfaddVs (d a b : BitVec 5) (m : Bool) (st : BitVec 2) : Statement (.vfaddVs d a b m st) := of_bytes encode_vfaddVs (by decide)
theorem vfsubVv (d a b : BitVec 5) (m : Bool) (st : BitVec 2) : Statement (.vfsubVv d a b m st) := of_bytes encode_vfsubVv (by decide)
theorem vfsubVs (d a b : BitVec 5) (m : Bool) (st : BitVec 2) : Statement (.vfsubVs d a b m st) := of_bytes encode_vfsubVs (by decide)
theorem vfmulVv (d a b : BitVec 5) (m : Bool) (st : BitVec 2) : Statement (.vfmulVv d a b m st) := of_bytes encode_vfmulVv (by decide)
theorem vfmulVs (d a b : BitVec 5) (m : Bool) (st : BitVec 2) : Statement (.vfmulVs d a b m st) := of_bytes encode_vfmulVs (by decide)
theorem vfdivVv (d a b : BitVec 5) (m : Bool) (st : BitVec 2) : Statement (.vfdivVv d a b m st) := of_bytes encode_vfdivVv (by decide)
theorem vfdivVs (d a b : BitVec 5) (m : Bool) (st : BitVec 2) : Statement (.vfdivVs d a b m st) := of_bytes encode_vfdivVs (by decide)
theorem vfsqrt (d : BitVec 5) (a : BitVec 5 × Option (BitVec 5)) (m : Bool) (st : BitVec 2) : Statement (.vfsqrt d a m st) := of_bytes encode_vfsqrt (by decide)
theorem vfrsqe (d : BitVec 5) (a : BitVec 5 × Option (BitVec 5)) (m : Bool) (st : BitVec 2) : Statement (.vfrsqe d a m st) := of_bytes encode_vfrsqe (by decide)
theorem vfrece (d : BitVec 5) (a : BitVec 5 × Option (BitVec 5)) (m : Bool) (st : BitVec 2) : Statement (.vfrece d a m st) := of_bytes encode_vfrece (by decide)
theorem vfexp (d : BitVec 5) (a : BitVec 5 × Option (BitVec 5)) (m : Bool) (st : BitVec 2) : Statement (.vfexp d a m st) := of_bytes encode_vfexp (by decide)
theorem vfexp2 (d : BitVec 5) (a : BitVec 5 × Option (BitVec 5)) (m : Bool) (st : BitVec 2) : Statement (.vfexp2 d a m st) := of_bytes encode_vfexp2 (by decide)
theorem vflog2 (d : BitVec 5) (a : BitVec 5 × Option (BitVec 5)) (m : Bool) (st : BitVec 2) : Statement (.vflog2 d a m st) := of_bytes encode_vflog2 (by decide)
theorem vfminVv (d a b : BitVec 5) (m : Bool) (st : BitVec 2) : Statement (.vfminVv d a b m st) := of_bytes encode_vfminVv (by decide)
theorem vfminVs (d a b : BitVec 5) (m : Bool) (st : BitVec 2) : Statement (.vfminVs d a b m st) := of_bytes encode_vfminVs (by decide)
theorem vfmaxVv (d a b : BitVec 5) (m : Bool) (st : BitVec 2) : Statement (.vfmaxVv d a b m st) := of_bytes encode_vfmaxVv (by decide)
theorem vfmaxVs (d a b : BitVec 5) (m : Bool) (st : BitVec 2) : Statement (.vfmaxVs d a b m st) := of_bytes encode_vfmaxVs (by decide)
theorem vfsgnjVv (d a b : BitVec 5) (m : Bool) (st : BitVec 2) : Statement (.vfsgnjVv d a b m st) := of_bytes encode_vfsgnjVv (by decide)
theorem vfsgnjVs (d a b : BitVec 5) (m : Bool) (st : BitVec 2) : Statement (.vfsgnjVs d a b m st) := of_bytes encode_vfsgnjVs (by decide)
theorem vfsgnjnVv (d a b : BitVec 5) (m : Bool) (st : BitVec 2) : Statement (.vfsgnjnVv d a b m st) := of_bytes encode_vfsgnjnVv (by decide)
theorem vfsgnjnVs (d a b : BitVec 5) (m : Bool) (st : BitVec 2) : Statement (.vfsgnjnVs d a b m st) := of_bytes encode_vfsgnjnVs (by decide)
theorem vfsgnjxVv (d a b : BitVec 5) (m : Bool) (st : BitVec 2) : Statement (.vfsgnjxVv d a b m st) := of_bytes encode_vfsgnjxVv (by decide)
theorem vfsgnjxVs (d a b : BitVec 5) (m : Bool) (st : BitVec 2) : Statement (.vfsgnjxVs d a b m st) := of_bytes encode_vfsgnjxVs (by decide)
theorem vfeqVv (d a b : BitVec 5) (m : Bool) (st : BitVec 2) : Statement (.vfeqVv d a b m st) := of_bytes encode_vfeqVv (by decide)
theorem vfeqVs (d a b : BitVec 5) (m : Bool) (st : BitVec 2) : Statement (.vfeqVs d a b m st) := of_bytes encode_vfeqVs (by decide)
theorem vfneVv (d a b : BitVec 5) (m : Bool) (st : BitVec 2) : Statement (.vfneVv d a b m st) := of_bytes encode_vfneVv (by decide)
theorem vfneVs (d a b : BitVec 5) (m : Bool) (st : BitVec 2) : Statement (.vfneVs d a b m st) := of_bytes encode_vfneVs (by decide)
theorem vfltVv (d a b : BitVec 5) (m : Bool) (st : BitVec 2) : Statement (.vfltVv d a b m st) := of_bytes encode_vfltVv (by decide)
theorem vfltVs (d a b : BitVec 5) (m : Bool) (st : BitVec 2) : Statement (.vfltVs d a b m st) := of_bytes encode_vfltVs (by decide)
theorem vfleVv (d a b : BitVec 5) (m : Bool) (st : BitVec 2) : Statement (.vfleVv d a b m st) := of_bytes encode_vfleVv (by decide)
theorem vfleVs (d a b : BitVec 5) (m : Bool) (st : BitVec 2) : Statement (.vfleVs d a b m st) := of_bytes encode_vfleVs (by decide)
theorem vfclass (d : BitVec 5) (a : BitVec 5 × Option (BitVec 5)) (m : Bool) (st : BitVec 2) : Statement (.vfclass d a m st) := of_bytes encode_vfclass (by decide)
theorem vfcvt (d : BitVec 5) (a : BitVec 5 × Option (BitVec 5)) (m : Bool) (st : BitVec 2) : Statement (.vfcvt d a m st) := of_bytes encode_vfcvt (by decide)
theorem vfround (d : BitVec 5) (a : BitVec 5 × Option (BitVec 5)) (m : Bool) (st : BitVec 2) : Statement (.vfround d a m st) := of_bytes encode_vfround (by decide)
theorem vfmergeVv (d : BitVec 5 × Bool) (a b : BitVec 5) (st : BitVec 2) : Statement (.vfmergeVv d a b st) := of_bytes encode_vfmergeVv (by decide)
theorem vfmergeVs (d : BitVec 5 × Bool) (a b : BitVec 5) (st : BitVec 2) : Statement (.vfmergeVs d a b st) := of_bytes encode_vfmergeVs (by decide)
theorem vfmaccVv (d a b : BitVec 5) (m : Bool) (st : BitVec 2) : Statement (.vfmaccVv d a b m st) := of_bytes encode_vfmaccVv (by decide)
theorem vfnmaccVv (d a b : BitVec 5) (m : Bool) (st : BitVec 2) : Statement (.vfnmaccVv d a b m st) := of_bytes encode_vfnmaccVv (by decide)
theorem vfmsacVv (d a b : BitVec 5) (m : Bool) (st : BitVec 2) : Statement (.vfmsacVv d a b m st) := of_bytes encode_vfmsacVv (by decide)
theorem vfnmsacVv (d a b : BitVec 5) (m : Bool) (st : BitVec 2) : Statement (.vfnmsacVv d a b m st) := of_bytes encode_vfnmsacVv (by decide)
theorem vfmaccVs (d a b : BitVec 5) (m : Bool) (st : BitVec 2) : Statement (.vfmaccVs d a b m st) := of_bytes encode_vfmaccVs (by decide)
theorem vfnmaccVs (d a b : BitVec 5) (m : Bool) (st : BitVec 2) : Statement (.vfnmaccVs d a b m st) := of_bytes encode_vfnmaccVs (by decide)
theorem vfmsacVs (d a b : BitVec 5) (m : Bool) (st : BitVec 2) : Statement (.vfmsacVs d a b m st) := of_bytes encode_vfmsacVs (by decide)
theorem vfnmsacVs (d a b : BitVec 5) (m : Bool) (st : BitVec 2) : Statement (.vfnmsacVs d a b m st) := of_bytes encode_vfnmsacVs (by decide)
theorem vredsum (d a b : BitVec 5) (m : Bool) (st : BitVec 2) : Statement (.vredsum d a b m st) := of_bytes encode_vredsum (by decide)
theorem vredand (d a b : BitVec 5) (m : Bool) (st : BitVec 2) : Statement (.vredand d a b m st) := of_bytes encode_vredand (by decide)
theorem vredor (d a b : BitVec 5) (m : Bool) (st : BitVec 2) : Statement (.vredor d a b m st) := of_bytes encode_vredor (by decide)
theorem vredxor (d a b : BitVec 5) (m : Bool) (st : BitVec 2) : Statement (.vredxor d a b m st) := of_bytes encode_vredxor (by decide)
theorem vredmin (d a b : BitVec 5) (m : Bool) (st : BitVec 2) : Statement (.vredmin d a b m st) := of_bytes encode_vredmin (by decide)
theorem vredmax (d a b : BitVec 5) (m : Bool) (st : BitVec 2) : Statement (.vredmax d a b m st) := of_bytes encode_vredmax (by decide)
theorem vredminn (d a b : BitVec 5) (m : Bool) (st : BitVec 2) : Statement (.vredminn d a b m st) := of_bytes encode_vredminn (by decide)
theorem vredmaxn (d a b : BitVec 5) (m : Bool) (st : BitVec 2) : Statement (.vredmaxn d a b m st) := of_bytes encode_vredmaxn (by decide)
theorem vfredsum (d a b : BitVec 5) (m : Bool) (st : BitVec 2) : Statement (.vfredsum d a b m st) := of_bytes encode_vfredsum (by decide)
theorem vfredmin (d a b : BitVec 5) (m : Bool) (st : BitVec 2) : Statement (.vfredmin d a b m st) := of_bytes encode_vfredmin (by decide)
theorem vfredmax (d a b : BitVec 5) (m : Bool) (st : BitVec 2) : Statement (.vfredmax d a b m st) := of_bytes encode_vfredmax (by decide)
theorem vscan (d a : BitVec 5) (m : Bool) (st : BitVec 2) : Statement (.vscan d a m st) := of_bytes encode_vscan (by decide)
theorem vfscan (d a : BitVec 5) (m : Bool) (st : BitVec 2) : Statement (.vfscan d a m st) := of_bytes encode_vfscan (by decide)
theorem vsmx (d a b : BitVec 5) (m : Bool) (st : BitVec 2) : Statement (.vsmx d a b m st) := of_bytes encode_vsmx (by decide)
theorem vslideup (d a b : BitVec 5) (m : Bool) (st : BitVec 2) : Statement (.vslideup d a b m st) := of_bytes encode_vslideup (by decide)
theorem vslidedn (d a b : BitVec 5) (m : Bool) (st : BitVec 2) : Statement (.vslidedn d a b m st) := of_bytes encode_vslidedn (by decide)
theorem vslide1up (d a b : BitVec 5) (m : Bool) (st : BitVec 2) : Statement (.vslide1up d a b m st) := of_bytes encode_vslide1up (by decide)
theorem vslide1dn (d a b : BitVec 5) (m : Bool) (st : BitVec 2) : Statement (.vslide1dn d a b m st) := of_bytes encode_vslide1dn (by decide)
theorem vrgath (d a b : BitVec 5) (m : Bool) (st : BitVec 2) : Statement (.vrgath d a b m st) := of_bytes encode_vrgath (by decide)
theorem vcompress (d a : BitVec 5) (m : Bool) (st : BitVec 2) : Statement (.vcompress d a m st) := of_bytes encode_vcompress (by decide)
theorem vexpand (d a : BitVec 5) (m : Bool) (st : BitVec 2) : Statement (.vexpand d a m st) := of_bytes encode_vexpand (by decide)
theorem vzip (d a b : BitVec 5) (m : Bool) (st : BitVec 2) : Statement (.vzip d a b m st) := of_bytes encode_vzip (by decide)
theorem vunzipe (d a : BitVec 5) (m : Bool) (st : BitVec 2) : Statement (.vunzipe d a m st) := of_bytes encode_vunzipe (by decide)
theorem vunzipo (d a : BitVec 5) (m : Bool) (st : BitVec 2) : Statement (.vunzipo d a m st) := of_bytes encode_vunzipo (by decide)
theorem vdrot (d a : BitVec 5) (m : Bool) (st : BitVec 2) : Statement (.vdrot d a m st) := of_bytes encode_vdrot (by decide)
theorem vsplat (d a : BitVec 5) (m : Bool) (st : BitVec 2) : Statement (.vsplat d a m st) := of_bytes encode_vsplat (by decide)
theorem vid (d : BitVec 5) (m : Bool) (st : BitVec 2) : Statement (.vid d m st) := of_bytes encode_vid (by decide)
theorem vins (d a b : BitVec 5) (m : Bool) (st : BitVec 2) : Statement (.vins d a b m st) := of_bytes encode_vins (by decide)
theorem vext (d a b : BitVec 5) (st : BitVec 2) : Statement (.vext d a b st) := of_bytes encode_vext (by decide)
theorem mand (d a b : BitVec 5) (st : BitVec 2) : Statement (.mand d a b st) := of_bytes encode_mand (by decide)
theorem mor (d a b : BitVec 5) (st : BitVec 2) : Statement (.mor d a b st) := of_bytes encode_mor (by decide)
theorem mxor (d a b : BitVec 5) (st : BitVec 2) : Statement (.mxor d a b st) := of_bytes encode_mxor (by decide)
theorem mandn (d a b : BitVec 5) (st : BitVec 2) : Statement (.mandn d a b st) := of_bytes encode_mandn (by decide)
theorem mnot (d a : BitVec 5) (st : BitVec 2) : Statement (.mnot d a st) := of_bytes encode_mnot (by decide)
theorem mset (d : BitVec 5) (st : BitVec 2) : Statement (.mset d st) := of_bytes encode_mset (by decide)
theorem mclr (d : BitVec 5) (st : BitVec 2) : Statement (.mclr d st) := of_bytes encode_mclr (by decide)
theorem mmv (d a : BitVec 5) (st : BitVec 2) : Statement (.mmv d a st) := of_bytes encode_mmv (by decide)
theorem mpop (d a : BitVec 5) (st : BitVec 2) : Statement (.mpop d a st) := of_bytes encode_mpop (by decide)
theorem mfirst (d a : BitVec 5) (st : BitVec 2) : Statement (.mfirst d a st) := of_bytes encode_mfirst (by decide)
theorem msbf (d a : BitVec 5) (st : BitVec 2) : Statement (.msbf d a st) := of_bytes encode_msbf (by decide)
theorem mfromv (d a : BitVec 5) (st : BitVec 2) : Statement (.mfromv d a st) := of_bytes encode_mfromv (by decide)
theorem mtov (d a : BitVec 5) (st : BitVec 2) : Statement (.mtov d a st) := of_bytes encode_mtov (by decide)
theorem vld16 (d a : BitVec 5) (c : BitVec 4) (m : Bool) (st : BitVec 2) : Statement (.vld16 d a c m st) := of_bytes encode_vld16 (by decide)
theorem vlds16 (d a b : BitVec 5) (c : BitVec 4) (m : Bool) (st : BitVec 2) : Statement (.vlds16 d a b c m st) := of_bytes encode_vlds16 (by decide)
theorem vldx16 (d a b : BitVec 5) (c : BitVec 4) (m : Bool) (st : BitVec 2) : Statement (.vldx16 d a b c m st) := of_bytes encode_vldx16 (by decide)
theorem vldff16 (d a : BitVec 5) (c : BitVec 4) (m : Bool) (st : BitVec 2) : Statement (.vldff16 d a c m st) := of_bytes encode_vldff16 (by decide)
theorem vld32 (d a : BitVec 5) (c : BitVec 4) (m : Bool) (st : BitVec 2) : Statement (.vld32 d a c m st) := of_bytes encode_vld32 (by decide)
theorem vlds32 (d a b : BitVec 5) (c : BitVec 4) (m : Bool) (st : BitVec 2) : Statement (.vlds32 d a b c m st) := of_bytes encode_vlds32 (by decide)
theorem vldx32 (d a b : BitVec 5) (c : BitVec 4) (m : Bool) (st : BitVec 2) : Statement (.vldx32 d a b c m st) := of_bytes encode_vldx32 (by decide)
theorem vldff32 (d a : BitVec 5) (c : BitVec 4) (m : Bool) (st : BitVec 2) : Statement (.vldff32 d a c m st) := of_bytes encode_vldff32 (by decide)
theorem vld64 (d a : BitVec 5) (c : BitVec 4) (m : Bool) (st : BitVec 2) : Statement (.vld64 d a c m st) := of_bytes encode_vld64 (by decide)
theorem vlds64 (d a b : BitVec 5) (c : BitVec 4) (m : Bool) (st : BitVec 2) : Statement (.vlds64 d a b c m st) := of_bytes encode_vlds64 (by decide)
theorem vldx64 (d a b : BitVec 5) (c : BitVec 4) (m : Bool) (st : BitVec 2) : Statement (.vldx64 d a b c m st) := of_bytes encode_vldx64 (by decide)
theorem vldff64 (d a : BitVec 5) (c : BitVec 4) (m : Bool) (st : BitVec 2) : Statement (.vldff64 d a c m st) := of_bytes encode_vldff64 (by decide)
theorem vst16 (d a : BitVec 5) (c : BitVec 4) (m : Bool) (st : BitVec 2) : Statement (.vst16 d a c m st) := of_bytes encode_vst16 (by decide)
theorem vsts16 (d a b : BitVec 5) (c : BitVec 4) (m : Bool) (st : BitVec 2) : Statement (.vsts16 d a b c m st) := of_bytes encode_vsts16 (by decide)
theorem vstxo16 (d a b : BitVec 5) (c : BitVec 4) (m : Bool) (st : BitVec 2) : Statement (.vstxo16 d a b c m st) := of_bytes encode_vstxo16 (by decide)
theorem vstxa16 (d a b : BitVec 5) (c : BitVec 4) (m : Bool) (st : BitVec 2) : Statement (.vstxa16 d a b c m st) := of_bytes encode_vstxa16 (by decide)
theorem vst32 (d a : BitVec 5) (c : BitVec 4) (m : Bool) (st : BitVec 2) : Statement (.vst32 d a c m st) := of_bytes encode_vst32 (by decide)
theorem vsts32 (d a b : BitVec 5) (c : BitVec 4) (m : Bool) (st : BitVec 2) : Statement (.vsts32 d a b c m st) := of_bytes encode_vsts32 (by decide)
theorem vstxo32 (d a b : BitVec 5) (c : BitVec 4) (m : Bool) (st : BitVec 2) : Statement (.vstxo32 d a b c m st) := of_bytes encode_vstxo32 (by decide)
theorem vstxa32 (d a b : BitVec 5) (c : BitVec 4) (m : Bool) (st : BitVec 2) : Statement (.vstxa32 d a b c m st) := of_bytes encode_vstxa32 (by decide)
theorem vst64 (d a : BitVec 5) (c : BitVec 4) (m : Bool) (st : BitVec 2) : Statement (.vst64 d a c m st) := of_bytes encode_vst64 (by decide)
theorem vsts64 (d a b : BitVec 5) (c : BitVec 4) (m : Bool) (st : BitVec 2) : Statement (.vsts64 d a b c m st) := of_bytes encode_vsts64 (by decide)
theorem vstxo64 (d a b : BitVec 5) (c : BitVec 4) (m : Bool) (st : BitVec 2) : Statement (.vstxo64 d a b c m st) := of_bytes encode_vstxo64 (by decide)
theorem vstxa64 (d a b : BitVec 5) (c : BitVec 4) (m : Bool) (st : BitVec 2) : Statement (.vstxa64 d a b c m st) := of_bytes encode_vstxa64 (by decide)
theorem ldi (d : BitVec 5) (imm : BitVec 43) (st : BitVec 2) : Statement (.ldi d imm st) := of_bytes encode_ldi (by decide)
theorem ldih (d : BitVec 5) (imm : BitVec 21) (st : BitVec 2) : Statement (.ldih d imm st) := of_bytes encode_ldih (by decide)
theorem lacq (d a : BitVec 5) (imm : BitVec 11) (w scope : BitVec 2) (cls : BitVec 4) (st : BitVec 2) : Statement (.lacq d a imm w scope cls st) := of_bytes encode_lacq (by decide)
theorem srel (b a : BitVec 5) (imm : BitVec 11) (w scope : BitVec 2) (cls : BitVec 4) (st : BitVec 2) : Statement (.srel b a imm w scope cls st) := of_bytes encode_srel (by decide)
theorem aswap (d a b : BitVec 5) (imm : BitVec 11) (ord : BitVec 2) (wide : Bool) (scope : BitVec 2) (cls : BitVec 4) (st : BitVec 2) : Statement (.aswap d a b imm ord wide scope cls st) := of_bytes encode_aswap (by decide)
theorem aadd (d a b : BitVec 5) (imm : BitVec 11) (ord : BitVec 2) (wide : Bool) (scope : BitVec 2) (cls : BitVec 4) (st : BitVec 2) : Statement (.aadd d a b imm ord wide scope cls st) := of_bytes encode_aadd (by decide)
theorem aand (d a b : BitVec 5) (imm : BitVec 11) (ord : BitVec 2) (wide : Bool) (scope : BitVec 2) (cls : BitVec 4) (st : BitVec 2) : Statement (.aand d a b imm ord wide scope cls st) := of_bytes encode_aand (by decide)
theorem aor (d a b : BitVec 5) (imm : BitVec 11) (ord : BitVec 2) (wide : Bool) (scope : BitVec 2) (cls : BitVec 4) (st : BitVec 2) : Statement (.aor d a b imm ord wide scope cls st) := of_bytes encode_aor (by decide)
theorem axor (d a b : BitVec 5) (imm : BitVec 11) (ord : BitVec 2) (wide : Bool) (scope : BitVec 2) (cls : BitVec 4) (st : BitVec 2) : Statement (.axor d a b imm ord wide scope cls st) := of_bytes encode_axor (by decide)
theorem amin (d a b : BitVec 5) (imm : BitVec 11) (ord : BitVec 2) (wide : Bool) (scope : BitVec 2) (cls : BitVec 4) (st : BitVec 2) : Statement (.amin d a b imm ord wide scope cls st) := of_bytes encode_amin (by decide)
theorem amax (d a b : BitVec 5) (imm : BitVec 11) (ord : BitVec 2) (wide : Bool) (scope : BitVec 2) (cls : BitVec 4) (st : BitVec 2) : Statement (.amax d a b imm ord wide scope cls st) := of_bytes encode_amax (by decide)
theorem aminn (d a b : BitVec 5) (imm : BitVec 11) (ord : BitVec 2) (wide : Bool) (scope : BitVec 2) (cls : BitVec 4) (st : BitVec 2) : Statement (.aminn d a b imm ord wide scope cls st) := of_bytes encode_aminn (by decide)
theorem amaxn (d a b : BitVec 5) (imm : BitVec 11) (ord : BitVec 2) (wide : Bool) (scope : BitVec 2) (cls : BitVec 4) (st : BitVec 2) : Statement (.amaxn d a b imm ord wide scope cls st) := of_bytes encode_amaxn (by decide)
theorem ainc (d a b : BitVec 5) (imm : BitVec 11) (ord : BitVec 2) (wide : Bool) (scope : BitVec 2) (cls : BitVec 4) (st : BitVec 2) : Statement (.ainc d a b imm ord wide scope cls st) := of_bytes encode_ainc (by decide)
theorem adec (d a b : BitVec 5) (imm : BitVec 11) (ord : BitVec 2) (wide : Bool) (scope : BitVec 2) (cls : BitVec 4) (st : BitVec 2) : Statement (.adec d a b imm ord wide scope cls st) := of_bytes encode_adec (by decide)
theorem abadd (d a b e : BitVec 5) (imm : BitVec 11) (ord : BitVec 2) (wide : Bool) (scope : BitVec 2) (cls : BitVec 4) (st : BitVec 2) : Statement (.abadd d a b e imm ord wide scope cls st) := of_bytes encode_abadd (by decide)
theorem acas (d a b e : BitVec 5) (imm : BitVec 11) (ord : BitVec 2) (wide : Bool) (scope : BitVec 2) (cls : BitVec 4) (st : BitVec 2) : Statement (.acas d a b e imm ord wide scope cls st) := of_bytes encode_acas (by decide)
theorem ll (d a : BitVec 5) (imm : BitVec 11) (ord : BitVec 2) (wide : Bool) (scope : BitVec 2) (cls : BitVec 4) (st : BitVec 2) : Statement (.ll d a imm ord wide scope cls st) := of_bytes encode_ll (by decide)
theorem sc (d a b : BitVec 5) (imm : BitVec 11) (ord : BitVec 2) (wide : Bool) (scope : BitVec 2) (cls : BitVec 4) (st : BitVec 2) : Statement (.sc d a b imm ord wide scope cls st) := of_bytes encode_sc (by decide)
theorem vaadd (d a b e : BitVec 5) (ret : Bool) (dm : BitVec 8) (me : Bool) (mi : BitVec 4) (scope : BitVec 2) (cls : BitVec 4) (st : BitVec 2) : Statement (.vaadd d a b e ret dm me mi scope cls st) := of_bytes encode_vaadd (by decide)
theorem vaand (d a b e : BitVec 5) (ret : Bool) (dm : BitVec 8) (me : Bool) (mi : BitVec 4) (scope : BitVec 2) (cls : BitVec 4) (st : BitVec 2) : Statement (.vaand d a b e ret dm me mi scope cls st) := of_bytes encode_vaand (by decide)
theorem vaor (d a b e : BitVec 5) (ret : Bool) (dm : BitVec 8) (me : Bool) (mi : BitVec 4) (scope : BitVec 2) (cls : BitVec 4) (st : BitVec 2) : Statement (.vaor d a b e ret dm me mi scope cls st) := of_bytes encode_vaor (by decide)
theorem vaxor (d a b e : BitVec 5) (ret : Bool) (dm : BitVec 8) (me : Bool) (mi : BitVec 4) (scope : BitVec 2) (cls : BitVec 4) (st : BitVec 2) : Statement (.vaxor d a b e ret dm me mi scope cls st) := of_bytes encode_vaxor (by decide)
theorem vamin (d a b e : BitVec 5) (ret : Bool) (dm : BitVec 8) (me : Bool) (mi : BitVec 4) (scope : BitVec 2) (cls : BitVec 4) (st : BitVec 2) : Statement (.vamin d a b e ret dm me mi scope cls st) := of_bytes encode_vamin (by decide)
theorem vamax (d a b e : BitVec 5) (ret : Bool) (dm : BitVec 8) (me : Bool) (mi : BitVec 4) (scope : BitVec 2) (cls : BitVec 4) (st : BitVec 2) : Statement (.vamax d a b e ret dm me mi scope cls st) := of_bytes encode_vamax (by decide)
theorem vaswap (d a b e : BitVec 5) (ret : Bool) (dm : BitVec 8) (me : Bool) (mi : BitVec 4) (scope : BitVec 2) (cls : BitVec 4) (st : BitVec 2) : Statement (.vaswap d a b e ret dm me mi scope cls st) := of_bytes encode_vaswap (by decide)
theorem vainc (d a b e : BitVec 5) (ret : Bool) (dm : BitVec 8) (me : Bool) (mi : BitVec 4) (scope : BitVec 2) (cls : BitVec 4) (st : BitVec 2) : Statement (.vainc d a b e ret dm me mi scope cls st) := of_bytes encode_vainc (by decide)
theorem vabadd (d a b e : BitVec 5) (ret : Bool) (dm : BitVec 8) (me : Bool) (mi : BitVec 4) (scope : BitVec 2) (cls : BitVec 4) (st : BitVec 2) : Statement (.vabadd d a b e ret dm me mi scope cls st) := of_bytes encode_vabadd (by decide)
theorem vfaadd (d a b e : BitVec 5) (ret : Bool) (dm : BitVec 8) (me : Bool) (mi : BitVec 4) (scope : BitVec 2) (cls : BitVec 4) (st : BitVec 2) : Statement (.vfaadd d a b e ret dm me mi scope cls st) := of_bytes encode_vfaadd (by decide)
theorem vfamax (d a b e : BitVec 5) (ret : Bool) (dm : BitVec 8) (me : Bool) (mi : BitVec 4) (scope : BitVec 2) (cls : BitVec 4) (st : BitVec 2) : Statement (.vfamax d a b e ret dm me mi scope cls st) := of_bytes encode_vfamax (by decide)
theorem vgl (d a b : BitVec 5) (dm : BitVec 8) (me : Bool) (mi : BitVec 4) (scope : BitVec 2) (cls : BitVec 4) (st : BitVec 2) : Statement (.vgl d a b dm me mi scope cls st) := of_bytes encode_vgl (by decide)
theorem vsc (d a b e : BitVec 5) (dm : BitVec 8) (me : Bool) (mi : BitVec 4) (scope : BitVec 2) (cls : BitVec 4) (st : BitVec 2) : Statement (.vsc d a b e dm me mi scope cls st) := of_bytes encode_vsc (by decide)
theorem vldq (d a : BitVec 5) (q8 : Bool) (grp : BitVec 2) (dm : BitVec 8) (me : Bool) (mi cls : BitVec 4) (st : BitVec 2) : Statement (.vldq d a q8 grp dm me mi cls st) := of_bytes encode_vldq (by decide)
theorem vstq (e a : BitVec 5) (q8 : Bool) (grp : BitVec 2) (dm : BitVec 8) (me : Bool) (mi cls : BitVec 4) (st : BitVec 2) : Statement (.vstq e a q8 grp dm me mi cls st) := of_bytes encode_vstq (by decide)
theorem vldf16 (d a : BitVec 5) (dm : BitVec 8) (me : Bool) (mi cls : BitVec 4) (st : BitVec 2) : Statement (.vldf16 d a dm me mi cls st) := of_bytes encode_vldf16 (by decide)
theorem vstf16 (e a : BitVec 5) (dm : BitVec 8) (me : Bool) (mi cls : BitVec 4) (st : BitVec 2) : Statement (.vstf16 e a dm me mi cls st) := of_bytes encode_vstf16 (by decide)
theorem vlseg (d a : BitVec 5) (f : BitVec 3) (w : BitVec 2) (dm : BitVec 8) (me : Bool) (mi cls : BitVec 4) (st : BitVec 2) : Statement (.vlseg d a f w dm me mi cls st) := of_bytes encode_vlseg (by decide)
theorem vsseg (e a : BitVec 5) (f : BitVec 3) (w : BitVec 2) (dm : BitVec 8) (me : Bool) (mi cls : BitVec 4) (st : BitVec 2) : Statement (.vsseg e a f w dm me mi cls st) := of_bytes encode_vsseg (by decide)
theorem vpush (d b a : BitVec 5) (dm : BitVec 8) (cls : BitVec 4) (st : BitVec 2) : Statement (.vpush d b a dm cls st) := of_bytes encode_vpush (by decide)
theorem vtake (d a : BitVec 5) (dm : BitVec 8) (st : BitVec 2) : Statement (.vtake d a dm st) := of_bytes encode_vtake (by decide)
theorem vempty (d : BitVec 5) (dm : BitVec 8) (st : BitVec 2) : Statement (.vempty d dm st) := of_bytes encode_vempty (by decide)
theorem vfill (d : BitVec 5) (dm : BitVec 8) (st : BitVec 2) : Statement (.vfill d dm st) := of_bytes encode_vfill (by decide)
theorem fget (d a : BitVec 5) (imm : BitVec 11) (scope : BitVec 2) (cls : BitVec 4) (st : BitVec 2) : Statement (.fget d a imm scope cls st) := of_bytes encode_fget (by decide)
theorem ftake (d a : BitVec 5) (imm : BitVec 11) (scope : BitVec 2) (cls : BitVec 4) (st : BitVec 2) : Statement (.ftake d a imm scope cls st) := of_bytes encode_ftake (by decide)
theorem fgive (b a : BitVec 5) (imm : BitVec 11) (scope : BitVec 2) (cls : BitVec 4) (st : BitVec 2) : Statement (.fgive b a imm scope cls st) := of_bytes encode_fgive (by decide)
theorem fempty (a : BitVec 5) (imm : BitVec 11) (scope : BitVec 2) (cls : BitVec 4) (st : BitVec 2) : Statement (.fempty a imm scope cls st) := of_bytes encode_fempty (by decide)
theorem fpeek (d a : BitVec 5) (imm : BitVec 11) (scope : BitVec 2) (cls : BitVec 4) (st : BitVec 2) : Statement (.fpeek d a imm scope cls st) := of_bytes encode_fpeek (by decide)
theorem sbind (d a : BitVec 5) (imm : BitVec 11) (st : BitVec 2) : Statement (.sbind d a imm st) := of_bytes encode_sbind (by decide)
theorem sunbind (d : BitVec 5) (st : BitVec 2) : Statement (.sunbind d st) := of_bytes encode_sunbind (by decide)
theorem sstat (d b : BitVec 5) (st : BitVec 2) : Statement (.sstat d b st) := of_bytes encode_sstat (by decide)
theorem sflush (d : BitVec 5) (st : BitVec 2) : Statement (.sflush d st) := of_bytes encode_sflush (by decide)
theorem tplanar (d a b e : BitVec 5) (keep : Bool) (cls : BitVec 4) (st : BitVec 2) : Statement (.tplanar d a b e keep cls st) := of_bytes encode_tplanar (by decide)
theorem tpost (d a : BitVec 5) (scope : BitVec 2) (cls : BitVec 4) (st : BitVec 2) : Statement (.tpost d a scope cls st) := of_bytes encode_tpost (by decide)
theorem tzero (a : BitVec 5) (cls : BitVec 4) (st : BitVec 2) : Statement (.tzero a cls st) := of_bytes encode_tzero (by decide)
theorem trenorm (a b : BitVec 5) (cls : BitVec 4) (st : BitVec 2) : Statement (.trenorm a b cls st) := of_bytes encode_trenorm (by decide)
theorem tload (d a b : BitVec 5) (me : Bool) (mi cls : BitVec 4) (st : BitVec 2) : Statement (.tload d a b me mi cls st) := of_bytes encode_tload (by decide)
theorem tinit (a b p : BitVec 5) (role : Bool) (cls : BitVec 4) (st : BitVec 2) : Statement (.tinit a b p role cls st) := of_bytes encode_tinit (by decide)
theorem tstat (d a : BitVec 5) (cls : BitVec 4) (st : BitVec 2) : Statement (.tstat d a cls st) := of_bytes encode_tstat (by decide)
theorem tflags (d a b : BitVec 5) (cls : BitVec 4) (st : BitVec 2) : Statement (.tflags d a b cls st) := of_bytes encode_tflags (by decide)
theorem epost (d a : BitVec 5) (st : BitVec 2) : Statement (.epost d a st) := of_bytes encode_epost (by decide)
theorem esusp (d a : BitVec 5) (all : Bool) (st : BitVec 2) : Statement (.esusp d a all st) := of_bytes encode_esusp (by decide)
theorem eresm (d a : BitVec 5) (all : Bool) (st : BitVec 2) : Statement (.eresm d a all st) := of_bytes encode_eresm (by decide)
theorem estat (d a : BitVec 5) (sel st : BitVec 2) : Statement (.estat d a sel st) := of_bytes encode_estat (by decide)
theorem ewait (d a b : BitVec 5) (imm : BitVec 11) (scope : BitVec 2) (cls : BitVec 4) (st : BitVec 2) : Statement (.ewait d a b imm scope cls st) := of_bytes encode_ewait (by decide)
theorem lkacq (d a : BitVec 5) (mode : BitVec 3) (scope st : BitVec 2) : Statement (.lkacq d a mode scope st) := of_bytes encode_lkacq (by decide)
theorem lktry (d a : BitVec 5) (mode : BitVec 3) (scope st : BitVec 2) : Statement (.lktry d a mode scope st) := of_bytes encode_lktry (by decide)
theorem lkrel (d a : BitVec 5) (scope st : BitVec 2) : Statement (.lkrel d a scope st) := of_bytes encode_lkrel (by decide)
theorem lkup (d a : BitVec 5) (mode : BitVec 3) (scope st : BitVec 2) : Statement (.lkup d a mode scope st) := of_bytes encode_lkup (by decide)
theorem lkdown (d a : BitVec 5) (mode : BitVec 3) (scope st : BitVec 2) : Statement (.lkdown d a mode scope st) := of_bytes encode_lkdown (by decide)
theorem lkrelall (d : BitVec 5) (scope st : BitVec 2) : Statement (.lkrelall d scope st) := of_bytes encode_lkrelall (by decide)
theorem lkstat (d a : BitVec 5) (scope st : BitVec 2) : Statement (.lkstat d a scope st) := of_bytes encode_lkstat (by decide)
theorem nlaunch (d a : BitVec 5) (sup : Bool) (st : BitVec 2) : Statement (.nlaunch d a sup st) := of_bytes encode_nlaunch (by decide)
theorem llease (a b : BitVec 5) (st : BitVec 2) : Statement (.llease a b st) := of_bytes encode_llease (by decide)
theorem bset (n : BitVec 3) (a : BitVec 5) (st : BitVec 2) : Statement (.bset n a st) := of_bytes encode_bset (by decide)
theorem barr (d : BitVec 5) (n : BitVec 3) (scope st : BitVec 2) : Statement (.barr d n scope st) := of_bytes encode_barr (by decide)
theorem bwait (n : BitVec 3) (a : BitVec 5) (scope st : BitVec 2) : Statement (.bwait n a scope st) := of_bytes encode_bwait (by decide)
theorem bsync (n : BitVec 3) (scope st : BitVec 2) : Statement (.bsync n scope st) := of_bytes encode_bsync (by decide)
theorem tsread (d : BitVec 5) (k : BitVec 6) (st : BitVec 2) : Statement (.tsread d k st) := of_bytes encode_tsread (by decide)
theorem xv (f6 op : BitVec 6) (ds : BitVec 3) (vm : BitVec 2) (dm : BitVec 8) (cls : BitVec 4) (me : Bool) (mi : BitVec 4) (b a d : BitVec 5) (st : BitVec 2) : Statement (.xv f6 op ds vm dm cls me mi b a d st) := of_bytes encode_xv (by decide)
theorem xvi (op : BitVec 6) (d a : BitVec 5) (f6 : BitVec 6) (imm : BitVec 32) (st : BitVec 2) : Statement (.xvi op d a f6 imm st) := of_bytes encode_xvi (by decide)
theorem cIllegal (a b : BitVec 5) : Statement (.cIllegal a b) := of_bytes encode_cIllegal (by decide)
theorem cAdd (a b : BitVec 5) : Statement (.cAdd a b) := of_bytes encode_cAdd (by decide)
theorem cSub (a b : BitVec 5) : Statement (.cSub a b) := of_bytes encode_cSub (by decide)
theorem cMv (a b : BitVec 5) : Statement (.cMv a b) := of_bytes encode_cMv (by decide)
theorem cAddi (a i : BitVec 5) : Statement (.cAddi a i) := of_bytes encode_cAddi (by decide)
theorem cLi (a i : BitVec 5) : Statement (.cLi a i) := of_bytes encode_cLi (by decide)
theorem cSlli (a h : BitVec 5) : Statement (.cSlli a h) := of_bytes encode_cSlli (by decide)
theorem cSrli (a h : BitVec 5) : Statement (.cSrli a h) := of_bytes encode_cSrli (by decide)
theorem cAnd (a b : BitVec 5) : Statement (.cAnd a b) := of_bytes encode_cAnd (by decide)
theorem cOr (a b : BitVec 5) : Statement (.cOr a b) := of_bytes encode_cOr (by decide)
theorem cXor (a b : BitVec 5) : Statement (.cXor a b) := of_bytes encode_cXor (by decide)
theorem cLd64 (a b : BitVec 5) : Statement (.cLd64 a b) := of_bytes encode_cLd64 (by decide)
theorem cSt64 (a b : BitVec 5) : Statement (.cSt64 a b) := of_bytes encode_cSt64 (by decide)
theorem cBeqz (a i : BitVec 5) : Statement (.cBeqz a i) := of_bytes encode_cBeqz (by decide)
theorem cBnez (a i : BitVec 5) : Statement (.cBnez a i) := of_bytes encode_cBnez (by decide)
theorem cJ (i : BitVec 10) : Statement (.cJ i) := of_bytes encode_cJ (by decide)
theorem cJr (a : BitVec 5) : Statement (.cJr a) := of_bytes encode_cJr (by decide)
theorem cVsetl (a b : BitVec 5) : Statement (.cVsetl a b) := of_bytes encode_cVsetl (by decide)
theorem cVadd (a b : BitVec 5) : Statement (.cVadd a b) := of_bytes encode_cVadd (by decide)
theorem cVfadd (a b : BitVec 5) : Statement (.cVfadd a b) := of_bytes encode_cVfadd (by decide)
theorem cVmv (a b : BitVec 5) : Statement (.cVmv a b) := of_bytes encode_cVmv (by decide)
theorem cKend : Statement (.cKend) := of_bytes encode_cKend (by decide)
theorem cNop : Statement (.cNop) := of_bytes encode_cNop (by decide)
theorem vtypeWrite (v : BitVec 64) : Statement (.vtypeWrite v) := of_none rfl
theorem vlWrite (v : BitVec 64) : Statement (.vlWrite v) := of_none rfl
theorem vstartWrite (v : BitVec 64) : Statement (.vstartWrite v) := of_none rfl
theorem vtagsWrite (hi : Bool) (v : BitVec 64) : Statement (.vtagsWrite hi v) := of_none rfl
theorem pairctlModeSolo (v : BitVec 64) : Statement (.pairctlModeSolo v) := of_none rfl
theorem pairctlModePair (v : BitVec 64) : Statement (.pairctlModePair v) := of_none rfl
theorem ksliceWrite (v : BitVec 64) : Statement (.ksliceWrite v) := of_none rfl
theorem catctlWrite (v : BitVec 64) : Statement (.catctlWrite v) := of_none rfl
theorem curcmpWrite (v : BitVec 64) : Statement (.curcmpWrite v) := of_none rfl
theorem ptbaseWrite (v : BitVec 64) : Statement (.ptbaseWrite v) := of_none rfl
theorem sctxWrite (v : BitVec 64) : Statement (.sctxWrite v) := of_none rfl
theorem tbcfgWrite (v : BitVec 64) : Statement (.tbcfgWrite v) := of_none rfl
theorem dspsupWrite (v : BitVec 64) : Statement (.dspsupWrite v) := of_none rfl
theorem csrWrite (csr : BitVec 12) (v : BitVec 64) : Statement (.csrWrite csr v) := of_none rfl
theorem preemptRequestWrite (n : BitVec 8) (v : BitVec 64) : Statement (.preemptRequestWrite n v) := of_none rfl
theorem hostDoorbellWrite (n : BitVec 8) (v : BitVec 64) : Statement (.hostDoorbellWrite n v) := of_none rfl
theorem hostMailboxWrite (w : BitVec 9) (size : BitVec 4) (v : BitVec 64) : Statement (.hostMailboxWrite w size v) := of_none rfl
theorem hostMemoryRead (off : BitVec 40) (size : BitVec 4) : Statement (.hostMemoryRead off size) := of_none rfl
theorem hostMemoryWrite (off : BitVec 40) (size : BitVec 4) (v : BitVec 64) : Statement (.hostMemoryWrite off size v) := of_none rfl
theorem attestationRequest (nonce : BitVec 512) (asid : BitVec 16) : Statement (.attestationRequest nonce asid) := of_none rfl
theorem registrarServe : Statement (.registrarServe) := of_none rfl
theorem waitWordRead (seq : BitVec 64) : Statement (.waitWordRead seq) := of_none rfl
theorem walkerDispatch : Statement (.walkerDispatch) := of_none rfl
theorem threadResume : Statement (.threadResume) := of_none rfl
theorem kendRetire (n : BitVec 8) : Statement (.kendRetire n) := of_none rfl
theorem iterationFaultEnd (n : BitVec 8) : Statement (.iterationFaultEnd n) := of_none rfl
theorem nestDone (seq : BitVec 64) : Statement (.nestDone seq) := of_none rfl
theorem nestAbort (seq : BitVec 64) : Statement (.nestAbort seq) := of_none rfl
theorem featureRequeue (seq : BitVec 64) : Statement (.featureRequeue seq) := of_none rfl
theorem gangAck (gid : BitVec 32) (fabric : BitVec 16) : Statement (.gangAck gid fabric) := of_none rfl
theorem gangTimeout (seq : BitVec 64) : Statement (.gangTimeout seq) := of_none rfl
theorem tileTaskWtokReady (id : BitVec 64) : Statement (.tileTaskWtokReady id) := of_none rfl
theorem curatorGrant : Statement (.curatorGrant) := of_none rfl
theorem lockRevoke (name : BitVec 64) (tid : BitVec 8) : Statement (.lockRevoke name tid) := of_none rfl
theorem tileTaskIssue (c : BitVec 5) : Statement (.tileTaskIssue c) := of_none rfl
theorem tileSliceStep (id : BitVec 64) : Statement (.tileSliceStep id) := of_none rfl
theorem tileMergeTurn (id : BitVec 64) : Statement (.tileMergeTurn id) := of_none rfl
theorem tileTaskFinish (id : BitVec 64) : Statement (.tileTaskFinish id) := of_none rfl
theorem copyStart (c : BitVec 5) : Statement (.copyStart c) := of_none rfl
theorem copyChunk (id : BitVec 64) : Statement (.copyChunk id) := of_none rfl
theorem copyFinish (id : BitVec 64) : Statement (.copyFinish id) := of_none rfl
theorem futureWaitComplete (n : BitVec 8) : Statement (.futureWaitComplete n) := of_none rfl
theorem bwaitReturn (n : BitVec 8) : Statement (.bwaitReturn n) := of_none rfl
theorem ewaitReturn (n : BitVec 8) : Statement (.ewaitReturn n) := of_none rfl
theorem gatedReadProceed (n : BitVec 8) : Statement (.gatedReadProceed n) := of_none rfl
theorem vpushProceed (n : BitVec 8) : Statement (.vpushProceed n) := of_none rfl
theorem napWake (n : BitVec 8) : Statement (.napWake n) := of_none rfl
theorem emptyTimeout (n : BitVec 8) : Statement (.emptyTimeout n) := of_none rfl
theorem reservationExpire (n : BitVec 8) : Statement (.reservationExpire n) := of_none rfl
theorem viqIssue (n : BitVec 8) : Statement (.viqIssue n) := of_none rfl
theorem viqComplete (n : BitVec 8) : Statement (.viqComplete n) := of_none rfl
theorem viqRetire (n : BitVec 8) : Statement (.viqRetire n) := of_none rfl
theorem catalogueDedup (n : BitVec 8) : Statement (.catalogueDedup n) := of_none rfl
theorem streamFetch (n : BitVec 8) (r : BitVec 5) : Statement (.streamFetch n r) := of_none rfl
theorem leadIssue (n : BitVec 8) : Statement (.leadIssue n) := of_none rfl
theorem leadForkCopyDone (n : BitVec 8) : Statement (.leadForkCopyDone n) := of_none rfl
theorem asyncTrapTake (n : BitVec 8) : Statement (.asyncTrapTake n) := of_none rfl
theorem timerCompare (n : BitVec 8) : Statement (.timerCompare n) := of_none rfl
theorem userTrapDeliver (n : BitVec 8) : Statement (.userTrapDeliver n) := of_none rfl
theorem scratchWayRestore (n : BitVec 8) (w : BitVec 4) : Statement (.scratchWayRestore n w) := of_none rfl
theorem icacheFill (n : BitVec 8) (addr : BitVec 64) : Statement (.icacheFill n addr) := of_none rfl
theorem pageWalk (n : BitVec 8) (addr : BitVec 64) (kind : BitVec 2) : Statement (.pageWalk n addr kind) := of_none rfl
theorem l2Fill (pa : BitVec 52) : Statement (.l2Fill pa) := of_none rfl
theorem coalesceDrainTimeout (n : BitVec 8) : Statement (.coalesceDrainTimeout n) := of_none rfl
theorem loanRecallDone (pa : BitVec 52) : Statement (.loanRecallDone pa) := of_none rfl
theorem slotWheelFrame : Statement (.slotWheelFrame) := of_none rfl
theorem goldenEpoch : Statement (.goldenEpoch) := of_none rfl
theorem linkFlitReceive (link : BitVec 5) (flit : BitVec 576) : Statement (.linkFlitReceive link flit) := of_none rfl
theorem axolotlReplan (die : BitVec 3) (group : BitVec 2) (short : Bool) : Statement (.axolotlReplan die group short) := of_none rfl
theorem dieDomainDown (die : BitVec 3) : Statement (.dieDomainDown die) := of_none rfl
theorem deviceReset : Statement (.deviceReset) := of_none rfl
theorem uncorrectableErrorAfterAck (seq loc : BitVec 64) : Statement (.uncorrectableErrorAfterAck seq loc) := of_none rfl

end Sys2Proof.Laws.Len
end

