-- ==== Sys2Proof/Laws/State.lean ====
section
/-! SUPPORT. What each update of the state leaves in each of its fields: one lemma per update and field. -/

namespace Sys2Proof.Machine

/-! ### `mapDev` -/

@[simp] theorem State.mapDev_core (s : State) (f : Dev → Dev) : (s.mapDev f).core = s.core := rfl
@[simp] theorem State.mapDev_at_ (s : State) (f : Dev → Dev) : (s.mapDev f).at_ = s.at_ := rfl
@[simp] theorem State.mapDev_others (s : State) (f : Dev → Dev) : (s.mapDev f).others = s.others := rfl
@[simp] theorem State.mapDev_agenda (s : State) (f : Dev → Dev) : (s.mapDev f).agenda = s.agenda := rfl
@[simp] theorem State.mapDev_free (s : State) (f : Dev → Dev) : (s.mapDev f).free = s.free := rfl
@[simp] theorem State.mapDev_dev (s : State) (f : Dev → Dev) : (s.mapDev f).dev = f s.dev := rfl

/-! ### `mapCore` -/

@[simp] theorem State.mapCore_at_ (s : State) (f : Core → Core) : (s.mapCore f).at_ = s.at_ := rfl
@[simp] theorem State.mapCore_others (s : State) (f : Core → Core) : (s.mapCore f).others = s.others := rfl
@[simp] theorem State.mapCore_dev (s : State) (f : Core → Core) : (s.mapCore f).dev = s.dev := rfl
@[simp] theorem State.mapCore_agenda (s : State) (f : Core → Core) : (s.mapCore f).agenda = s.agenda := rfl
@[simp] theorem State.mapCore_free (s : State) (f : Core → Core) : (s.mapCore f).free = s.free := rfl
@[simp] theorem State.mapCore_core (s : State) (f : Core → Core) : (s.mapCore f).core = f s.core := rfl

/-! ### `mapTh` -/

@[simp] theorem State.mapTh_at_ (s : State) (f : Thread → Thread) : (s.mapTh f).at_ = s.at_ := rfl
@[simp] theorem State.mapTh_others (s : State) (f : Thread → Thread) : (s.mapTh f).others = s.others := rfl
@[simp] theorem State.mapTh_dev (s : State) (f : Thread → Thread) : (s.mapTh f).dev = s.dev := rfl
@[simp] theorem State.mapTh_agenda (s : State) (f : Thread → Thread) : (s.mapTh f).agenda = s.agenda := rfl
@[simp] theorem State.mapTh_free (s : State) (f : Thread → Thread) : (s.mapTh f).free = s.free := rfl
@[simp] theorem State.mapTh_core_th (s : State) (f : Thread → Thread) : (s.mapTh f).core.th = f s.core.th := rfl
@[simp] theorem State.mapTh_core_run (s : State) (f : Thread → Thread) : (s.mapTh f).core.run = s.core.run := rfl
@[simp] theorem State.mapTh_core_ready (s : State) (f : Thread → Thread) : (s.mapTh f).core.ready = s.core.ready := rfl
@[simp] theorem State.mapTh_core_ahead (s : State) (f : Thread → Thread) : (s.mapTh f).core.ahead = s.core.ahead := rfl
@[simp] theorem State.mapTh_core_level (s : State) (f : Thread → Thread) : (s.mapTh f).core.level = s.core.level := rfl
@[simp] theorem State.mapTh_core_sup (s : State) (f : Thread → Thread) : (s.mapTh f).core.sup = s.core.sup := rfl
@[simp] theorem State.mapTh_core_preempt (s : State) (f : Thread → Thread) : (s.mapTh f).core.preempt = s.core.preempt := rfl
@[simp] theorem State.mapTh_core_preemptStop (s : State) (f : Thread → Thread) : (s.mapTh f).core.preemptStop = s.core.preemptStop := rfl
@[simp] theorem State.mapTh_core_hostint (s : State) (f : Thread → Thread) : (s.mapTh f).core.hostint = s.core.hostint := rfl
@[simp] theorem State.mapTh_core_gangfail (s : State) (f : Thread → Thread) : (s.mapTh f).core.gangfail = s.core.gangfail := rfl
@[simp] theorem State.mapTh_core_icache (s : State) (f : Thread → Thread) : (s.mapTh f).core.icache = s.core.icache := rfl
@[simp] theorem State.mapTh_core_fills (s : State) (f : Thread → Thread) : (s.mapTh f).core.fills = s.core.fills := rfl
@[simp] theorem State.mapTh_core_tblines (s : State) (f : Thread → Thread) : (s.mapTh f).core.tblines = s.core.tblines := rfl
@[simp] theorem State.mapTh_core_coalesce (s : State) (f : Thread → Thread) : (s.mapTh f).core.coalesce = s.core.coalesce := rfl
@[simp] theorem State.mapTh_core_scratchOwner (s : State) (f : Thread → Thread) : (s.mapTh f).core.scratchOwner = s.core.scratchOwner := rfl
@[simp] theorem State.mapTh_core_lead (s : State) (f : Thread → Thread) : (s.mapTh f).core.lead = s.core.lead := rfl
@[simp] theorem State.mapTh_core_leadV (s : State) (f : Thread → Thread) : (s.mapTh f).core.leadV = s.core.leadV := rfl
@[simp] theorem State.mapTh_core_refork (s : State) (f : Thread → Thread) : (s.mapTh f).core.refork = s.core.refork := rfl
@[simp] theorem State.mapTh_core_diverged (s : State) (f : Thread → Thread) : (s.mapTh f).core.diverged = s.core.diverged := rfl
@[simp] theorem State.mapTh_core_cat (s : State) (f : Thread → Thread) : (s.mapTh f).core.cat = s.core.cat := rfl
@[simp] theorem State.mapTh_core_out (s : State) (f : Thread → Thread) : (s.mapTh f).core.out = s.core.out := rfl

/-! ### `mapCsr` -/

@[simp] theorem State.mapCsr_at_ (s : State) (f : Csrs → Csrs) : (s.mapCsr f).at_ = s.at_ := rfl
@[simp] theorem State.mapCsr_others (s : State) (f : Csrs → Csrs) : (s.mapCsr f).others = s.others := rfl
@[simp] theorem State.mapCsr_dev (s : State) (f : Csrs → Csrs) : (s.mapCsr f).dev = s.dev := rfl
@[simp] theorem State.mapCsr_agenda (s : State) (f : Csrs → Csrs) : (s.mapCsr f).agenda = s.agenda := rfl
@[simp] theorem State.mapCsr_free (s : State) (f : Csrs → Csrs) : (s.mapCsr f).free = s.free := rfl
@[simp] theorem State.mapCsr_core_run (s : State) (f : Csrs → Csrs) : (s.mapCsr f).core.run = s.core.run := rfl
@[simp] theorem State.mapCsr_core_ready (s : State) (f : Csrs → Csrs) : (s.mapCsr f).core.ready = s.core.ready := rfl
@[simp] theorem State.mapCsr_core_ahead (s : State) (f : Csrs → Csrs) : (s.mapCsr f).core.ahead = s.core.ahead := rfl
@[simp] theorem State.mapCsr_core_level (s : State) (f : Csrs → Csrs) : (s.mapCsr f).core.level = s.core.level := rfl
@[simp] theorem State.mapCsr_core_sup (s : State) (f : Csrs → Csrs) : (s.mapCsr f).core.sup = s.core.sup := rfl
@[simp] theorem State.mapCsr_core_preempt (s : State) (f : Csrs → Csrs) : (s.mapCsr f).core.preempt = s.core.preempt := rfl
@[simp] theorem State.mapCsr_core_preemptStop (s : State) (f : Csrs → Csrs) : (s.mapCsr f).core.preemptStop = s.core.preemptStop := rfl
@[simp] theorem State.mapCsr_core_hostint (s : State) (f : Csrs → Csrs) : (s.mapCsr f).core.hostint = s.core.hostint := rfl
@[simp] theorem State.mapCsr_core_gangfail (s : State) (f : Csrs → Csrs) : (s.mapCsr f).core.gangfail = s.core.gangfail := rfl
@[simp] theorem State.mapCsr_core_icache (s : State) (f : Csrs → Csrs) : (s.mapCsr f).core.icache = s.core.icache := rfl
@[simp] theorem State.mapCsr_core_fills (s : State) (f : Csrs → Csrs) : (s.mapCsr f).core.fills = s.core.fills := rfl
@[simp] theorem State.mapCsr_core_tblines (s : State) (f : Csrs → Csrs) : (s.mapCsr f).core.tblines = s.core.tblines := rfl
@[simp] theorem State.mapCsr_core_coalesce (s : State) (f : Csrs → Csrs) : (s.mapCsr f).core.coalesce = s.core.coalesce := rfl
@[simp] theorem State.mapCsr_core_scratchOwner (s : State) (f : Csrs → Csrs) : (s.mapCsr f).core.scratchOwner = s.core.scratchOwner := rfl
@[simp] theorem State.mapCsr_core_lead (s : State) (f : Csrs → Csrs) : (s.mapCsr f).core.lead = s.core.lead := rfl
@[simp] theorem State.mapCsr_core_leadV (s : State) (f : Csrs → Csrs) : (s.mapCsr f).core.leadV = s.core.leadV := rfl
@[simp] theorem State.mapCsr_core_refork (s : State) (f : Csrs → Csrs) : (s.mapCsr f).core.refork = s.core.refork := rfl
@[simp] theorem State.mapCsr_core_diverged (s : State) (f : Csrs → Csrs) : (s.mapCsr f).core.diverged = s.core.diverged := rfl
@[simp] theorem State.mapCsr_core_cat (s : State) (f : Csrs → Csrs) : (s.mapCsr f).core.cat = s.core.cat := rfl
@[simp] theorem State.mapCsr_core_out (s : State) (f : Csrs → Csrs) : (s.mapCsr f).core.out = s.core.out := rfl
@[simp] theorem State.mapCsr_core_th_csr (s : State) (f : Csrs → Csrs) : (s.mapCsr f).core.th.csr = f s.core.th.csr := rfl
@[simp] theorem State.mapCsr_core_th_g (s : State) (f : Csrs → Csrs) : (s.mapCsr f).core.th.g = s.core.th.g := rfl
@[simp] theorem State.mapCsr_core_th_bank (s : State) (f : Csrs → Csrs) : (s.mapCsr f).core.th.bank = s.core.th.bank := rfl
@[simp] theorem State.mapCsr_core_th_pc (s : State) (f : Csrs → Csrs) : (s.mapCsr f).core.th.pc = s.core.th.pc := rfl
@[simp] theorem State.mapCsr_core_th_v (s : State) (f : Csrs → Csrs) : (s.mapCsr f).core.th.v = s.core.th.v := rfl
@[simp] theorem State.mapCsr_core_th_m (s : State) (f : Csrs → Csrs) : (s.mapCsr f).core.th.m = s.core.th.m := rfl
@[simp] theorem State.mapCsr_core_th_slot (s : State) (f : Csrs → Csrs) : (s.mapCsr f).core.th.slot = s.core.th.slot := rfl
@[simp] theorem State.mapCsr_core_th_din (s : State) (f : Csrs → Csrs) : (s.mapCsr f).core.th.din = s.core.th.din := rfl
@[simp] theorem State.mapCsr_core_th_lat (s : State) (f : Csrs → Csrs) : (s.mapCsr f).core.th.lat = s.core.th.lat := rfl
@[simp] theorem State.mapCsr_core_th_viq (s : State) (f : Csrs → Csrs) : (s.mapCsr f).core.th.viq = s.core.th.viq := rfl
@[simp] theorem State.mapCsr_core_th_vecSeen (s : State) (f : Csrs → Csrs) : (s.mapCsr f).core.th.vecSeen = s.core.th.vecSeen := rfl
@[simp] theorem State.mapCsr_core_th_resv (s : State) (f : Csrs → Csrs) : (s.mapCsr f).core.th.resv = s.core.th.resv := rfl
@[simp] theorem State.mapCsr_core_th_vresv (s : State) (f : Csrs → Csrs) : (s.mapCsr f).core.th.vresv = s.core.th.vresv := rfl
@[simp] theorem State.mapCsr_core_th_arrival (s : State) (f : Csrs → Csrs) : (s.mapCsr f).core.th.arrival = s.core.th.arrival := rfl
@[simp] theorem State.mapCsr_core_th_utq (s : State) (f : Csrs → Csrs) : (s.mapCsr f).core.th.utq = s.core.th.utq := rfl
@[simp] theorem State.mapCsr_core_th_woundOverflow (s : State) (f : Csrs → Csrs) : (s.mapCsr f).core.th.woundOverflow = s.core.th.woundOverflow := rfl
@[simp] theorem State.mapCsr_core_th_revoked (s : State) (f : Csrs → Csrs) : (s.mapCsr f).core.th.revoked = s.core.th.revoked := rfl
@[simp] theorem State.mapCsr_core_th_streams (s : State) (f : Csrs → Csrs) : (s.mapCsr f).core.th.streams = s.core.th.streams := rfl
@[simp] theorem State.mapCsr_core_th_floor (s : State) (f : Csrs → Csrs) : (s.mapCsr f).core.th.floor = s.core.th.floor := rfl
@[simp] theorem State.mapCsr_core_th_fault (s : State) (f : Csrs → Csrs) : (s.mapCsr f).core.th.fault = s.core.th.fault := rfl
@[simp] theorem State.mapCsr_core_th_wait (s : State) (f : Csrs → Csrs) : (s.mapCsr f).core.th.wait = s.core.th.wait := rfl
@[simp] theorem State.mapCsr_core_th_nest (s : State) (f : Csrs → Csrs) : (s.mapCsr f).core.th.nest = s.core.th.nest := rfl
@[simp] theorem State.mapCsr_core_th_ord (s : State) (f : Csrs → Csrs) : (s.mapCsr f).core.th.ord = s.core.th.ord := rfl
@[simp] theorem State.mapCsr_core_th_stage (s : State) (f : Csrs → Csrs) : (s.mapCsr f).core.th.stage = s.core.th.stage := rfl
@[simp] theorem State.mapCsr_core_th_tid (s : State) (f : Csrs → Csrs) : (s.mapCsr f).core.th.tid = s.core.th.tid := rfl
@[simp] theorem State.mapCsr_core_th_prio (s : State) (f : Csrs → Csrs) : (s.mapCsr f).core.th.prio = s.core.th.prio := rfl
@[simp] theorem State.mapCsr_core_th_minCols (s : State) (f : Csrs → Csrs) : (s.mapCsr f).core.th.minCols = s.core.th.minCols := rfl
@[simp] theorem State.mapCsr_core_th_vlfix (s : State) (f : Csrs → Csrs) : (s.mapCsr f).core.th.vlfix = s.core.th.vlfix := rfl
@[simp] theorem State.mapCsr_core_th_cycleFrom (s : State) (f : Csrs → Csrs) : (s.mapCsr f).core.th.cycleFrom = s.core.th.cycleFrom := rfl
@[simp] theorem State.mapCsr_core_th_held (s : State) (f : Csrs → Csrs) : (s.mapCsr f).core.th.held = s.core.th.held := rfl
@[simp] theorem State.mapCsr_core_th_uvec (s : State) (f : Csrs → Csrs) : (s.mapCsr f).core.th.uvec = s.core.th.uvec := rfl

/-! ### `mapSup` -/

@[simp] theorem State.mapSup_at_ (s : State) (f : SCsrs → SCsrs) : (s.mapSup f).at_ = s.at_ := rfl
@[simp] theorem State.mapSup_others (s : State) (f : SCsrs → SCsrs) : (s.mapSup f).others = s.others := rfl
@[simp] theorem State.mapSup_dev (s : State) (f : SCsrs → SCsrs) : (s.mapSup f).dev = s.dev := rfl
@[simp] theorem State.mapSup_agenda (s : State) (f : SCsrs → SCsrs) : (s.mapSup f).agenda = s.agenda := rfl
@[simp] theorem State.mapSup_free (s : State) (f : SCsrs → SCsrs) : (s.mapSup f).free = s.free := rfl
@[simp] theorem State.mapSup_core_th (s : State) (f : SCsrs → SCsrs) : (s.mapSup f).core.th = s.core.th := rfl
@[simp] theorem State.mapSup_core_run (s : State) (f : SCsrs → SCsrs) : (s.mapSup f).core.run = s.core.run := rfl
@[simp] theorem State.mapSup_core_ready (s : State) (f : SCsrs → SCsrs) : (s.mapSup f).core.ready = s.core.ready := rfl
@[simp] theorem State.mapSup_core_ahead (s : State) (f : SCsrs → SCsrs) : (s.mapSup f).core.ahead = s.core.ahead := rfl
@[simp] theorem State.mapSup_core_level (s : State) (f : SCsrs → SCsrs) : (s.mapSup f).core.level = s.core.level := rfl
@[simp] theorem State.mapSup_core_preempt (s : State) (f : SCsrs → SCsrs) : (s.mapSup f).core.preempt = s.core.preempt := rfl
@[simp] theorem State.mapSup_core_preemptStop (s : State) (f : SCsrs → SCsrs) : (s.mapSup f).core.preemptStop = s.core.preemptStop := rfl
@[simp] theorem State.mapSup_core_hostint (s : State) (f : SCsrs → SCsrs) : (s.mapSup f).core.hostint = s.core.hostint := rfl
@[simp] theorem State.mapSup_core_gangfail (s : State) (f : SCsrs → SCsrs) : (s.mapSup f).core.gangfail = s.core.gangfail := rfl
@[simp] theorem State.mapSup_core_icache (s : State) (f : SCsrs → SCsrs) : (s.mapSup f).core.icache = s.core.icache := rfl
@[simp] theorem State.mapSup_core_fills (s : State) (f : SCsrs → SCsrs) : (s.mapSup f).core.fills = s.core.fills := rfl
@[simp] theorem State.mapSup_core_tblines (s : State) (f : SCsrs → SCsrs) : (s.mapSup f).core.tblines = s.core.tblines := rfl
@[simp] theorem State.mapSup_core_coalesce (s : State) (f : SCsrs → SCsrs) : (s.mapSup f).core.coalesce = s.core.coalesce := rfl
@[simp] theorem State.mapSup_core_scratchOwner (s : State) (f : SCsrs → SCsrs) : (s.mapSup f).core.scratchOwner = s.core.scratchOwner := rfl
@[simp] theorem State.mapSup_core_lead (s : State) (f : SCsrs → SCsrs) : (s.mapSup f).core.lead = s.core.lead := rfl
@[simp] theorem State.mapSup_core_leadV (s : State) (f : SCsrs → SCsrs) : (s.mapSup f).core.leadV = s.core.leadV := rfl
@[simp] theorem State.mapSup_core_refork (s : State) (f : SCsrs → SCsrs) : (s.mapSup f).core.refork = s.core.refork := rfl
@[simp] theorem State.mapSup_core_diverged (s : State) (f : SCsrs → SCsrs) : (s.mapSup f).core.diverged = s.core.diverged := rfl
@[simp] theorem State.mapSup_core_cat (s : State) (f : SCsrs → SCsrs) : (s.mapSup f).core.cat = s.core.cat := rfl
@[simp] theorem State.mapSup_core_out (s : State) (f : SCsrs → SCsrs) : (s.mapSup f).core.out = s.core.out := rfl
@[simp] theorem State.mapSup_core_sup (s : State) (f : SCsrs → SCsrs) : (s.mapSup f).core.sup = f s.core.sup := rfl

/-! ### `tick` -/

@[simp] theorem State.tick_at_ (s : State) (n : Nat) : (s.tick n).at_ = s.at_ := rfl
@[simp] theorem State.tick_others (s : State) (n : Nat) : (s.tick n).others = s.others := rfl
@[simp] theorem State.tick_dev (s : State) (n : Nat) : (s.tick n).dev = s.dev := rfl
@[simp] theorem State.tick_agenda (s : State) (n : Nat) : (s.tick n).agenda = s.agenda := rfl
@[simp] theorem State.tick_free (s : State) (n : Nat) : (s.tick n).free = s.free := rfl
@[simp] theorem State.tick_core_th (s : State) (n : Nat) : (s.tick n).core.th = s.core.th := rfl
@[simp] theorem State.tick_core_run (s : State) (n : Nat) : (s.tick n).core.run = s.core.run := rfl
@[simp] theorem State.tick_core_ahead (s : State) (n : Nat) : (s.tick n).core.ahead = s.core.ahead := rfl
@[simp] theorem State.tick_core_level (s : State) (n : Nat) : (s.tick n).core.level = s.core.level := rfl
@[simp] theorem State.tick_core_sup (s : State) (n : Nat) : (s.tick n).core.sup = s.core.sup := rfl
@[simp] theorem State.tick_core_preempt (s : State) (n : Nat) : (s.tick n).core.preempt = s.core.preempt := rfl
@[simp] theorem State.tick_core_preemptStop (s : State) (n : Nat) : (s.tick n).core.preemptStop = s.core.preemptStop := rfl
@[simp] theorem State.tick_core_hostint (s : State) (n : Nat) : (s.tick n).core.hostint = s.core.hostint := rfl
@[simp] theorem State.tick_core_gangfail (s : State) (n : Nat) : (s.tick n).core.gangfail = s.core.gangfail := rfl
@[simp] theorem State.tick_core_icache (s : State) (n : Nat) : (s.tick n).core.icache = s.core.icache := rfl
@[simp] theorem State.tick_core_fills (s : State) (n : Nat) : (s.tick n).core.fills = s.core.fills := rfl
@[simp] theorem State.tick_core_tblines (s : State) (n : Nat) : (s.tick n).core.tblines = s.core.tblines := rfl
@[simp] theorem State.tick_core_coalesce (s : State) (n : Nat) : (s.tick n).core.coalesce = s.core.coalesce := rfl
@[simp] theorem State.tick_core_scratchOwner (s : State) (n : Nat) : (s.tick n).core.scratchOwner = s.core.scratchOwner := rfl
@[simp] theorem State.tick_core_lead (s : State) (n : Nat) : (s.tick n).core.lead = s.core.lead := rfl
@[simp] theorem State.tick_core_leadV (s : State) (n : Nat) : (s.tick n).core.leadV = s.core.leadV := rfl
@[simp] theorem State.tick_core_refork (s : State) (n : Nat) : (s.tick n).core.refork = s.core.refork := rfl
@[simp] theorem State.tick_core_diverged (s : State) (n : Nat) : (s.tick n).core.diverged = s.core.diverged := rfl
@[simp] theorem State.tick_core_cat (s : State) (n : Nat) : (s.tick n).core.cat = s.core.cat := rfl
@[simp] theorem State.tick_core_out (s : State) (n : Nat) : (s.tick n).core.out = s.core.out := rfl
@[simp] theorem State.tick_core_ready (s : State) (n : Nat) : (s.tick n).core.ready = max s.core.ready s.dev.clk + n := rfl

/-! ### `draw` -/

@[simp] theorem State.draw_core (s : State) : (s.draw).core = s.core := rfl
@[simp] theorem State.draw_at_ (s : State) : (s.draw).at_ = s.at_ := rfl
@[simp] theorem State.draw_others (s : State) : (s.draw).others = s.others := rfl
@[simp] theorem State.draw_dev (s : State) : (s.draw).dev = s.dev := rfl
@[simp] theorem State.draw_agenda (s : State) : (s.draw).agenda = s.agenda := rfl
@[simp] theorem State.draw_free (s : State) : (s.draw).free = s.free + 1 := rfl

/-! ### `settle`, `acquire`, `release` -/

@[simp] theorem State.acquire_at_ (s : State) : (s.acquire).at_ = s.at_ := rfl
@[simp] theorem State.acquire_others (s : State) : (s.acquire).others = s.others := rfl
@[simp] theorem State.acquire_dev (s : State) : (s.acquire).dev = s.dev := rfl
@[simp] theorem State.acquire_agenda (s : State) : (s.acquire).agenda = s.agenda := rfl
@[simp] theorem State.acquire_free (s : State) : (s.acquire).free = s.free := rfl
@[simp] theorem State.acquire_core_run (s : State) : (s.acquire).core.run = s.core.run := rfl
@[simp] theorem State.acquire_core_ready (s : State) : (s.acquire).core.ready = s.core.ready := rfl
@[simp] theorem State.acquire_core_ahead (s : State) : (s.acquire).core.ahead = s.core.ahead := rfl
@[simp] theorem State.acquire_core_level (s : State) : (s.acquire).core.level = s.core.level := rfl
@[simp] theorem State.acquire_core_sup (s : State) : (s.acquire).core.sup = s.core.sup := rfl
@[simp] theorem State.acquire_core_preempt (s : State) : (s.acquire).core.preempt = s.core.preempt := rfl
@[simp] theorem State.acquire_core_preemptStop (s : State) : (s.acquire).core.preemptStop = s.core.preemptStop := rfl
@[simp] theorem State.acquire_core_hostint (s : State) : (s.acquire).core.hostint = s.core.hostint := rfl
@[simp] theorem State.acquire_core_gangfail (s : State) : (s.acquire).core.gangfail = s.core.gangfail := rfl
@[simp] theorem State.acquire_core_icache (s : State) : (s.acquire).core.icache = s.core.icache := rfl
@[simp] theorem State.acquire_core_fills (s : State) : (s.acquire).core.fills = s.core.fills := rfl
@[simp] theorem State.acquire_core_coalesce (s : State) : (s.acquire).core.coalesce = s.core.coalesce := rfl
@[simp] theorem State.acquire_core_scratchOwner (s : State) : (s.acquire).core.scratchOwner = s.core.scratchOwner := rfl
@[simp] theorem State.acquire_core_lead (s : State) : (s.acquire).core.lead = s.core.lead := rfl
@[simp] theorem State.acquire_core_leadV (s : State) : (s.acquire).core.leadV = s.core.leadV := rfl
@[simp] theorem State.acquire_core_refork (s : State) : (s.acquire).core.refork = s.core.refork := rfl
@[simp] theorem State.acquire_core_diverged (s : State) : (s.acquire).core.diverged = s.core.diverged := rfl
@[simp] theorem State.acquire_core_cat (s : State) : (s.acquire).core.cat = s.core.cat := rfl
@[simp] theorem State.acquire_core_out (s : State) : (s.acquire).core.out = s.core.out := rfl
@[simp] theorem State.release_at_ (s : State) : (s.release).at_ = s.at_ := rfl
@[simp] theorem State.release_others (s : State) : (s.release).others = s.others := rfl
@[simp] theorem State.release_agenda (s : State) : (s.release).agenda = s.agenda := rfl
@[simp] theorem State.release_free (s : State) : (s.release).free = s.free := rfl
@[simp] theorem State.release_core_th (s : State) : (s.release).core.th = s.core.th := rfl
@[simp] theorem State.release_core_run (s : State) : (s.release).core.run = s.core.run := rfl
@[simp] theorem State.release_core_ready (s : State) : (s.release).core.ready = s.core.ready := rfl
@[simp] theorem State.release_core_ahead (s : State) : (s.release).core.ahead = s.core.ahead := rfl
@[simp] theorem State.release_core_level (s : State) : (s.release).core.level = s.core.level := rfl
@[simp] theorem State.release_core_sup (s : State) : (s.release).core.sup = s.core.sup := rfl
@[simp] theorem State.release_core_preempt (s : State) : (s.release).core.preempt = s.core.preempt := rfl
@[simp] theorem State.release_core_preemptStop (s : State) : (s.release).core.preemptStop = s.core.preemptStop := rfl
@[simp] theorem State.release_core_hostint (s : State) : (s.release).core.hostint = s.core.hostint := rfl
@[simp] theorem State.release_core_gangfail (s : State) : (s.release).core.gangfail = s.core.gangfail := rfl
@[simp] theorem State.release_core_icache (s : State) : (s.release).core.icache = s.core.icache := rfl
@[simp] theorem State.release_core_fills (s : State) : (s.release).core.fills = s.core.fills := rfl
@[simp] theorem State.release_core_tblines (s : State) : (s.release).core.tblines = s.core.tblines := rfl
@[simp] theorem State.release_core_scratchOwner (s : State) : (s.release).core.scratchOwner = s.core.scratchOwner := rfl
@[simp] theorem State.release_core_lead (s : State) : (s.release).core.lead = s.core.lead := rfl
@[simp] theorem State.release_core_leadV (s : State) : (s.release).core.leadV = s.core.leadV := rfl
@[simp] theorem State.release_core_refork (s : State) : (s.release).core.refork = s.core.refork := rfl
@[simp] theorem State.release_core_diverged (s : State) : (s.release).core.diverged = s.core.diverged := rfl
@[simp] theorem State.release_core_cat (s : State) : (s.release).core.cat = s.core.cat := rfl
@[simp] theorem State.release_core_out (s : State) : (s.release).core.out = s.core.out := rfl
@[simp] theorem State.release_core_coalesce (s : State) : (s.release).core.coalesce = [] := rfl
@[simp] theorem State.release_dev_carried (s : State) : (s.release).dev.carried = s.carriedTime := rfl
@[simp] theorem State.release_dev_clk (s : State) : (s.release).dev.clk = s.dev.clk := rfl
@[simp] theorem State.release_dev_vlen (s : State) : (s.release).dev.vlen = s.dev.vlen := rfl
@[simp] theorem State.release_dev_mem (s : State) : (s.release).dev.mem = s.dev.mem := rfl
@[simp] theorem State.release_dev_tierBytes (s : State) : (s.release).dev.tierBytes = s.dev.tierBytes := rfl
@[simp] theorem State.release_dev_down (s : State) : (s.release).dev.down = s.dev.down := rfl
@[simp] theorem State.release_dev_tlbs (s : State) : (s.release).dev.tlbs = s.dev.tlbs := rfl
@[simp] theorem State.release_dev_dspsup (s : State) : (s.release).dev.dspsup = s.dev.dspsup := rfl
@[simp] theorem State.release_dev_clusters (s : State) : (s.release).dev.clusters = s.dev.clusters := rfl
@[simp] theorem State.release_dev_tasks (s : State) : (s.release).dev.tasks = s.dev.tasks := rfl
@[simp] theorem State.release_dev_copies (s : State) : (s.release).dev.copies = s.dev.copies := rfl
@[simp] theorem State.release_dev_nextOp (s : State) : (s.release).dev.nextOp = s.dev.nextOp := rfl
@[simp] theorem State.release_dev_slots (s : State) : (s.release).dev.slots = s.dev.slots := rfl
@[simp] theorem State.release_dev_cur (s : State) : (s.release).dev.cur = s.dev.cur := rfl
@[simp] theorem State.release_dev_walker (s : State) : (s.release).dev.walker = s.dev.walker := rfl
@[simp] theorem State.release_dev_reg (s : State) : (s.release).dev.reg = s.dev.reg := rfl
@[simp] theorem State.release_dev_host (s : State) : (s.release).dev.host = s.dev.host := rfl
@[simp] theorem State.release_dev_futq (s : State) : (s.release).dev.futq = s.dev.futq := rfl
@[simp] theorem State.release_dev_joins (s : State) : (s.release).dev.joins = s.dev.joins := rfl
@[simp] theorem State.release_dev_away (s : State) : (s.release).dev.away = s.dev.away := rfl
@[simp] theorem State.release_dev_blocks (s : State) : (s.release).dev.blocks = s.dev.blocks := rfl
@[simp] theorem State.release_dev_savedWays (s : State) : (s.release).dev.savedWays = s.dev.savedWays := rfl
@[simp] theorem State.release_dev_fabric (s : State) : (s.release).dev.fabric = s.dev.fabric := rfl
@[simp] theorem State.acquire_core_tblines (s : State) : (s.acquire).core.tblines = [] := rfl
@[simp] theorem State.acquire_core_th_g (s : State) : (s.acquire).core.th.g = s.core.th.g := rfl
@[simp] theorem State.acquire_core_th_bank (s : State) : (s.acquire).core.th.bank = s.core.th.bank := rfl
@[simp] theorem State.acquire_core_th_pc (s : State) : (s.acquire).core.th.pc = s.core.th.pc := rfl
@[simp] theorem State.acquire_core_th_v (s : State) : (s.acquire).core.th.v = s.core.th.v := rfl
@[simp] theorem State.acquire_core_th_m (s : State) : (s.acquire).core.th.m = s.core.th.m := rfl
@[simp] theorem State.acquire_core_th_csr (s : State) : (s.acquire).core.th.csr = s.core.th.csr := rfl
@[simp] theorem State.acquire_core_th_slot (s : State) : (s.acquire).core.th.slot = s.core.th.slot := rfl
@[simp] theorem State.acquire_core_th_din (s : State) : (s.acquire).core.th.din = s.core.th.din := rfl
@[simp] theorem State.acquire_core_th_lat (s : State) : (s.acquire).core.th.lat = s.core.th.lat := rfl
@[simp] theorem State.acquire_core_th_viq (s : State) : (s.acquire).core.th.viq = s.core.th.viq := rfl
@[simp] theorem State.acquire_core_th_vecSeen (s : State) : (s.acquire).core.th.vecSeen = s.core.th.vecSeen := rfl
@[simp] theorem State.acquire_core_th_resv (s : State) : (s.acquire).core.th.resv = s.core.th.resv := rfl
@[simp] theorem State.acquire_core_th_vresv (s : State) : (s.acquire).core.th.vresv = s.core.th.vresv := rfl
@[simp] theorem State.acquire_core_th_arrival (s : State) : (s.acquire).core.th.arrival = s.core.th.arrival := rfl
@[simp] theorem State.acquire_core_th_utq (s : State) : (s.acquire).core.th.utq = s.core.th.utq := rfl
@[simp] theorem State.acquire_core_th_woundOverflow (s : State) : (s.acquire).core.th.woundOverflow = s.core.th.woundOverflow := rfl
@[simp] theorem State.acquire_core_th_revoked (s : State) : (s.acquire).core.th.revoked = s.core.th.revoked := rfl
@[simp] theorem State.acquire_core_th_streams (s : State) : (s.acquire).core.th.streams = s.core.th.streams := rfl
@[simp] theorem State.acquire_core_th_fault (s : State) : (s.acquire).core.th.fault = s.core.th.fault := rfl
@[simp] theorem State.acquire_core_th_wait (s : State) : (s.acquire).core.th.wait = s.core.th.wait := rfl
@[simp] theorem State.acquire_core_th_nest (s : State) : (s.acquire).core.th.nest = s.core.th.nest := rfl
@[simp] theorem State.acquire_core_th_ord (s : State) : (s.acquire).core.th.ord = s.core.th.ord := rfl
@[simp] theorem State.acquire_core_th_stage (s : State) : (s.acquire).core.th.stage = s.core.th.stage := rfl
@[simp] theorem State.acquire_core_th_tid (s : State) : (s.acquire).core.th.tid = s.core.th.tid := rfl
@[simp] theorem State.acquire_core_th_prio (s : State) : (s.acquire).core.th.prio = s.core.th.prio := rfl
@[simp] theorem State.acquire_core_th_minCols (s : State) : (s.acquire).core.th.minCols = s.core.th.minCols := rfl
@[simp] theorem State.acquire_core_th_vlfix (s : State) : (s.acquire).core.th.vlfix = s.core.th.vlfix := rfl
@[simp] theorem State.acquire_core_th_cycleFrom (s : State) : (s.acquire).core.th.cycleFrom = s.core.th.cycleFrom := rfl
@[simp] theorem State.acquire_core_th_held (s : State) : (s.acquire).core.th.held = s.core.th.held := rfl
@[simp] theorem State.acquire_core_th_uvec (s : State) : (s.acquire).core.th.uvec = s.core.th.uvec := rfl
@[simp] theorem State.acquire_core_th_floor (s : State) : (s.acquire).core.th.floor = s.carriedTime := rfl

/-! ### `raiseFloor` -/

@[simp] theorem State.raiseFloor_at_ (s : State) (n : Nat) : (s.raiseFloor n).at_ = s.at_ := rfl
@[simp] theorem State.raiseFloor_others (s : State) (n : Nat) : (s.raiseFloor n).others = s.others := rfl
@[simp] theorem State.raiseFloor_dev (s : State) (n : Nat) : (s.raiseFloor n).dev = s.dev := rfl
@[simp] theorem State.raiseFloor_agenda (s : State) (n : Nat) : (s.raiseFloor n).agenda = s.agenda := rfl
@[simp] theorem State.raiseFloor_free (s : State) (n : Nat) : (s.raiseFloor n).free = s.free := rfl
@[simp] theorem State.raiseFloor_core_run (s : State) (n : Nat) : (s.raiseFloor n).core.run = s.core.run := rfl
@[simp] theorem State.raiseFloor_core_ready (s : State) (n : Nat) : (s.raiseFloor n).core.ready = s.core.ready := rfl
@[simp] theorem State.raiseFloor_core_ahead (s : State) (n : Nat) : (s.raiseFloor n).core.ahead = s.core.ahead := rfl
@[simp] theorem State.raiseFloor_core_level (s : State) (n : Nat) : (s.raiseFloor n).core.level = s.core.level := rfl
@[simp] theorem State.raiseFloor_core_sup (s : State) (n : Nat) : (s.raiseFloor n).core.sup = s.core.sup := rfl
@[simp] theorem State.raiseFloor_core_preempt (s : State) (n : Nat) : (s.raiseFloor n).core.preempt = s.core.preempt := rfl
@[simp] theorem State.raiseFloor_core_preemptStop (s : State) (n : Nat) : (s.raiseFloor n).core.preemptStop = s.core.preemptStop := rfl
@[simp] theorem State.raiseFloor_core_hostint (s : State) (n : Nat) : (s.raiseFloor n).core.hostint = s.core.hostint := rfl
@[simp] theorem State.raiseFloor_core_gangfail (s : State) (n : Nat) : (s.raiseFloor n).core.gangfail = s.core.gangfail := rfl
@[simp] theorem State.raiseFloor_core_icache (s : State) (n : Nat) : (s.raiseFloor n).core.icache = s.core.icache := rfl
@[simp] theorem State.raiseFloor_core_fills (s : State) (n : Nat) : (s.raiseFloor n).core.fills = s.core.fills := rfl
@[simp] theorem State.raiseFloor_core_tblines (s : State) (n : Nat) : (s.raiseFloor n).core.tblines = s.core.tblines := rfl
@[simp] theorem State.raiseFloor_core_coalesce (s : State) (n : Nat) : (s.raiseFloor n).core.coalesce = s.core.coalesce := rfl
@[simp] theorem State.raiseFloor_core_scratchOwner (s : State) (n : Nat) : (s.raiseFloor n).core.scratchOwner = s.core.scratchOwner := rfl
@[simp] theorem State.raiseFloor_core_lead (s : State) (n : Nat) : (s.raiseFloor n).core.lead = s.core.lead := rfl
@[simp] theorem State.raiseFloor_core_leadV (s : State) (n : Nat) : (s.raiseFloor n).core.leadV = s.core.leadV := rfl
@[simp] theorem State.raiseFloor_core_refork (s : State) (n : Nat) : (s.raiseFloor n).core.refork = s.core.refork := rfl
@[simp] theorem State.raiseFloor_core_diverged (s : State) (n : Nat) : (s.raiseFloor n).core.diverged = s.core.diverged := rfl
@[simp] theorem State.raiseFloor_core_cat (s : State) (n : Nat) : (s.raiseFloor n).core.cat = s.core.cat := rfl
@[simp] theorem State.raiseFloor_core_out (s : State) (n : Nat) : (s.raiseFloor n).core.out = s.core.out := rfl
@[simp] theorem State.raiseFloor_core_th_g (s : State) (n : Nat) : (s.raiseFloor n).core.th.g = s.core.th.g := rfl
@[simp] theorem State.raiseFloor_core_th_bank (s : State) (n : Nat) : (s.raiseFloor n).core.th.bank = s.core.th.bank := rfl
@[simp] theorem State.raiseFloor_core_th_pc (s : State) (n : Nat) : (s.raiseFloor n).core.th.pc = s.core.th.pc := rfl
@[simp] theorem State.raiseFloor_core_th_v (s : State) (n : Nat) : (s.raiseFloor n).core.th.v = s.core.th.v := rfl
@[simp] theorem State.raiseFloor_core_th_m (s : State) (n : Nat) : (s.raiseFloor n).core.th.m = s.core.th.m := rfl
@[simp] theorem State.raiseFloor_core_th_csr (s : State) (n : Nat) : (s.raiseFloor n).core.th.csr = s.core.th.csr := rfl
@[simp] theorem State.raiseFloor_core_th_slot (s : State) (n : Nat) : (s.raiseFloor n).core.th.slot = s.core.th.slot := rfl
@[simp] theorem State.raiseFloor_core_th_din (s : State) (n : Nat) : (s.raiseFloor n).core.th.din = s.core.th.din := rfl
@[simp] theorem State.raiseFloor_core_th_lat (s : State) (n : Nat) : (s.raiseFloor n).core.th.lat = s.core.th.lat := rfl
@[simp] theorem State.raiseFloor_core_th_viq (s : State) (n : Nat) : (s.raiseFloor n).core.th.viq = s.core.th.viq := rfl
@[simp] theorem State.raiseFloor_core_th_vecSeen (s : State) (n : Nat) : (s.raiseFloor n).core.th.vecSeen = s.core.th.vecSeen := rfl
@[simp] theorem State.raiseFloor_core_th_resv (s : State) (n : Nat) : (s.raiseFloor n).core.th.resv = s.core.th.resv := rfl
@[simp] theorem State.raiseFloor_core_th_vresv (s : State) (n : Nat) : (s.raiseFloor n).core.th.vresv = s.core.th.vresv := rfl
@[simp] theorem State.raiseFloor_core_th_arrival (s : State) (n : Nat) : (s.raiseFloor n).core.th.arrival = s.core.th.arrival := rfl
@[simp] theorem State.raiseFloor_core_th_utq (s : State) (n : Nat) : (s.raiseFloor n).core.th.utq = s.core.th.utq := rfl
@[simp] theorem State.raiseFloor_core_th_woundOverflow (s : State) (n : Nat) : (s.raiseFloor n).core.th.woundOverflow = s.core.th.woundOverflow := rfl
@[simp] theorem State.raiseFloor_core_th_revoked (s : State) (n : Nat) : (s.raiseFloor n).core.th.revoked = s.core.th.revoked := rfl
@[simp] theorem State.raiseFloor_core_th_streams (s : State) (n : Nat) : (s.raiseFloor n).core.th.streams = s.core.th.streams := rfl
@[simp] theorem State.raiseFloor_core_th_fault (s : State) (n : Nat) : (s.raiseFloor n).core.th.fault = s.core.th.fault := rfl
@[simp] theorem State.raiseFloor_core_th_wait (s : State) (n : Nat) : (s.raiseFloor n).core.th.wait = s.core.th.wait := rfl
@[simp] theorem State.raiseFloor_core_th_nest (s : State) (n : Nat) : (s.raiseFloor n).core.th.nest = s.core.th.nest := rfl
@[simp] theorem State.raiseFloor_core_th_ord (s : State) (n : Nat) : (s.raiseFloor n).core.th.ord = s.core.th.ord := rfl
@[simp] theorem State.raiseFloor_core_th_stage (s : State) (n : Nat) : (s.raiseFloor n).core.th.stage = s.core.th.stage := rfl
@[simp] theorem State.raiseFloor_core_th_tid (s : State) (n : Nat) : (s.raiseFloor n).core.th.tid = s.core.th.tid := rfl
@[simp] theorem State.raiseFloor_core_th_prio (s : State) (n : Nat) : (s.raiseFloor n).core.th.prio = s.core.th.prio := rfl
@[simp] theorem State.raiseFloor_core_th_minCols (s : State) (n : Nat) : (s.raiseFloor n).core.th.minCols = s.core.th.minCols := rfl
@[simp] theorem State.raiseFloor_core_th_vlfix (s : State) (n : Nat) : (s.raiseFloor n).core.th.vlfix = s.core.th.vlfix := rfl
@[simp] theorem State.raiseFloor_core_th_cycleFrom (s : State) (n : Nat) : (s.raiseFloor n).core.th.cycleFrom = s.core.th.cycleFrom := rfl
@[simp] theorem State.raiseFloor_core_th_held (s : State) (n : Nat) : (s.raiseFloor n).core.th.held = s.core.th.held := rfl
@[simp] theorem State.raiseFloor_core_th_uvec (s : State) (n : Nat) : (s.raiseFloor n).core.th.uvec = s.core.th.uvec := rfl
@[simp] theorem State.raiseFloor_core_th_floor (s : State) (n : Nat) : (s.raiseFloor n).core.th.floor = s.carriedTime + BitVec.ofNat 64 n := rfl

end Sys2Proof.Machine
end

