-- ==== Sys2Proof/Laws/Scalar.lean ====
section
/-! SUPPORT. The scalar registers, operands and retirement: what each operation leaves (01 R15, R16; 02 R55 to R58; 10 R262). -/

namespace Sys2Proof.Machine

/-! ### Registers -/

@[simp] theorem readG_zero (s : State) : readG s 0#5 = 0#64 := rfl

@[simp] theorem writeG_zero (s : State) (v : Word) : writeG s 0#5 v = s := rfl

theorem writeG_of_ne (s : State) {r : Reg} (h : r ≠ 0) (v : Word) :
    writeG s r v = s.mapTh (fun t => t.setG s.core.banked r v) := by unfold writeG; exact if_neg h

/-- A register read depends on the level, on whether a handler runs and on the two banks. -/
theorem readG_congr {s t : State} (hl : t.core.level = s.core.level) (ha : t.csr.utActive = s.csr.utActive)
    (hg : t.core.th.g = s.core.th.g) (hb : t.core.th.bank = s.core.th.bank) (r : Reg) : readG t r = readG s r := by
  simp only [readG, Core.banked, hl, show t.core.th.csr.utActive = s.core.th.csr.utActive from ha]
  simp only [Thread.getG, Thread.bankOf, hg, hb]

/-- What a write of a g register leaves of its thread. -/
theorem setG_frame (t : Thread) (b : Bool) (r : Reg) (v : Word) :
    t.setG b r v = { t with g := (t.setG b r v).g, bank := (t.setG b r v).bank } := by
  unfold Thread.setG; split <;> rfl

theorem getG_of_none {t : Thread} {b : Bool} {r : Reg} (h : t.bankOf b r = none) : t.getG b r = t.g[r.toNat]'r.isLt := by
  unfold Thread.getG; split <;> simp_all

theorem getG_of_some {t : Thread} {b : Bool} {r : Reg} {k : Vector Word 8} (h : t.bankOf b r = some k) :
    t.getG b r = k[r.toNat % 8]'(Nat.mod_lt _ (by decide)) := by
  unfold Thread.getG; split <;> simp_all

theorem bankOf_some {t : Thread} {b : Bool} {r : Reg} {k : Vector Word 8} (h : t.bankOf b r = some k) :
    b = true ∧ 24 ≤ r.toNat ∧ t.bank = some k := by
  unfold Thread.bankOf at h; split at h <;> simp_all

/-- A written register of a thread reads as what was written, every other one as before. -/
theorem getG_setG (t : Thread) (b : Bool) (d r : Reg) (v : Word) :
    (t.setG b d v).getG b r = if r = d then v else t.getG b r := by
  have hn : d.toNat = r.toNat ↔ r = d := ⟨fun h => BitVec.eq_of_toNat_eq h.symm, fun h => by rw [h]⟩
  cases hd : t.bankOf b d with
  | none =>
    have hs : t.setG b d v = { t with g := t.g.set d.toNat v d.isLt } := by unfold Thread.setG; split <;> simp_all
    rw [hs]
    cases h : t.bankOf b r with
    | none =>
      rw [getG_of_none h, getG_of_none (t := { t with g := t.g.set d.toNat v d.isLt }) h, Vector.getElem_set]
      simp only [hn]
    | some k =>
      have : r ≠ d := fun e => by rw [e, hd] at h; simp at h
      rw [getG_of_some h, getG_of_some (t := { t with g := t.g.set d.toNat v d.isLt }) h, if_neg this]
  | some k =>
    have hs : t.setG b d v = { t with bank := some (k.set (d.toNat % 8) v (Nat.mod_lt _ (by decide))) } := by
      unfold Thread.setG; split <;> simp_all
    obtain ⟨rfl, h24, hk⟩ := bankOf_some hd
    rw [hs]
    by_cases hr : 24 ≤ r.toNat
    · have h1 : t.bankOf true r = some k := by simp [Thread.bankOf, hr, hk]
      have h2 : ({ t with bank := some (k.set (d.toNat % 8) v (Nat.mod_lt _ (by decide))) } : Thread).bankOf true r
          = some (k.set (d.toNat % 8) v (Nat.mod_lt _ (by decide))) := by simp [Thread.bankOf, hr]
      have hm : d.toNat % 8 = r.toNat % 8 ↔ r = d := by rw [← hn]; have := r.isLt; have := d.isLt; omega
      rw [getG_of_some h1, getG_of_some h2, Vector.getElem_set]
      simp only [hm]
    · have h1 : t.bankOf true r = none := by simp [Thread.bankOf, hr]
      have h2 : ({ t with bank := some (k.set (d.toNat % 8) v (Nat.mod_lt _ (by decide))) } : Thread).bankOf true r
          = none := by simp [Thread.bankOf, hr]
      have : r ≠ d := fun e => hr (e ▸ h24)
      rw [getG_of_none h1, getG_of_none h2, if_neg this]

/-- A written register reads as what was written, every other one as before; g0 stays zero. -/
theorem readG_writeG (s : State) (d r : Reg) (v : Word) :
    readG (writeG s d v) r = if r = d then (if d = 0 then 0 else v) else readG s r := by
  by_cases hd : d = 0
  · subst hd
    show readG s r = _
    by_cases hr : r = 0
    · subst hr; rfl
    · simp only [if_neg hr]
  · have hb : (s.mapTh (fun t => t.setG s.core.banked d v)).core.banked = s.core.banked := by
      simp only [Core.banked, State.mapTh_core_level, State.mapTh_core_th]; rw [setG_frame]
    rw [writeG_of_ne s hd]
    simp only [readG, hb, State.mapTh_core_th, getG_setG, if_neg hd]
    by_cases h0 : r = 0
    · subst h0; simp only [if_true, if_neg (Ne.symm hd)]
    · simp only [if_neg h0]

/-! ### Reading operands (02 R56, R57) -/

theorem ready_of_mem {s : State} {rs : List Reg} (h : s.ready rs = true) {r : Reg} (hr : r ∈ rs) :
    srqPending s r = false ∧ hazard s r = false := by
  have := List.all_eq_true.mp h r hr
  simpa using this

/-- An operand that is ready is the value of its register. -/
theorem opVal_of_ready {s : State} {rs : List Reg} (h : s.ready rs = true) {r : Reg} (hr : r ∈ rs) (k : Nat) :
    opVal s k r = readG s r := by
  have hz := (ready_of_mem h hr).2
  unfold opVal
  split
  · rename_i p hp
    have : r = 0 := by simpa [hazard, hp] using hz
    simp [this]
  · rfl

/-- With its operands ready a scalar instruction acts. -/
theorem scalar_of_ready {s : State} {rs : List Reg} (h : s.ready rs = true) (body : State → State) :
    scalar rs s body = body s := by
  have h1 : rs.any (srqPending s) = false := List.any_eq_false.mpr (fun r hr => by simp [(ready_of_mem h hr).1])
  have h2 : rs.any (hazard s) = false := List.any_eq_false.mpr (fun r hr => by simp [(ready_of_mem h hr).2])
  simp [scalar, h1, h2]

theorem ready_nil (s : State) : s.ready [] = true := rfl

/-! ### Writing results and retiring (02 R43, R56; 10 R262) -/

@[simp] theorem dropSrq_readG (s : State) (d r : Reg) : readG (dropSrq s d) r = readG s r := readG_congr rfl rfl rfl rfl r

/-- What a fixed-latency result leaves: the register, its place among the results in flight, and the pending vector
results for it. -/
theorem writeLat_frame (s : State) (d : Reg) (l : Lat) (v : Word) :
    writeLat s d l v = s.mapTh (fun t => { t with
      g := (writeLat s d l v).core.th.g, bank := (writeLat s d l v).core.th.bank, lat := (writeLat s d l v).core.th.lat
      viq := if d = 0 then t.viq else (dropSrq s d).core.th.viq }) := by
  unfold writeLat
  by_cases hd : d = 0
  · simp only [if_pos hd]; rfl
  · simp only [if_neg hd, writeG_of_ne _ hd, State.mapTh]
    rw [setG_frame]; rfl

theorem writeLat_readG (s : State) (d r : Reg) (l : Lat) (v : Word) :
    readG (writeLat s d l v) r = if r = d then (if d = 0 then 0 else v) else readG s r := by
  unfold writeLat
  by_cases hd : d = 0
  · subst hd
    show readG s r = _
    by_cases hr : r = 0
    · subst hr; rfl
    · rw [if_neg hr]
  · rw [if_neg hd]
    rw [← dropSrq_readG s d r, ← readG_writeG]
    exact readG_congr rfl rfl rfl rfl r

/-- A result goes to the one bank that its number names; g0 takes none. -/
theorem writeLat_takes (s : State) (d : Reg) (l : Lat) (v : Word) : TakesReg s (writeLat s d l v) d v := by
  by_cases hd : d = 0
  · subst hd
    constructor
    · simp [writeLat]
    · simp [writeLat, State.second]
  · have hw : (writeLat s d l v).core.th.g = (s.core.th.setG s.core.banked d v).g ∧
        (writeLat s d l v).core.th.bank = (s.core.th.setG s.core.banked d v).bank := by
      unfold writeLat
      simp only [if_neg hd, writeG_of_ne _ hd, State.mapTh]
      constructor <;> (simp only [Thread.setG, Thread.bankOf, dropSrq, State.mapTh]; split <;> split <;> simp_all [Core.banked])
    have hs : s.second d = (s.core.th.bankOf s.core.banked d).isSome := by
      unfold State.second Thread.bankOf
      by_cases hc : (s.core.banked && decide (24 ≤ d.toNat)) = true
      · rw [if_pos hc, hc, Bool.true_and]
      · rw [if_neg hc, Bool.eq_false_iff.mpr hc]; rfl
    cases hb : s.core.th.bankOf s.core.banked d with
    | none =>
      constructor
      · rw [hw.1, hs, hb, if_neg (fun h => h.elim hd (fun h => by simp at h))]; simp [Thread.setG, hb]
      · rw [hw.2, hs, hb]; simp [Thread.setG, hb]
    | some k =>
      constructor
      · rw [hw.1, hs, hb]; simp [Thread.setG, hb]
      · rw [hw.2, hs, hb]; simp [Thread.setG, hb, (bankOf_some hb).2.2]

/-- A scalar instruction that writes one register and raises flags has the effect that says so. -/
theorem scalarEffect_retireTo (s : State) (st : BitVec 2) (pc : Word) (d : Reg) (l : Lat) (v : Word) (fl : Flags) :
    ScalarEffect s (retireTo st pc (writeLat (raise fl s) d l v)) pc d v fl := by
  have hr : ∀ r, readG (raise fl s) r = readG s r := fun r => readG_congr rfl rfl rfl rfl r
  have ht : ∀ r, readG (retireTo st pc (writeLat (raise fl s) d l v)) r = readG (writeLat (raise fl s) d l v) r :=
    fun r => readG_congr rfl rfl rfl rfl r
  constructor
  · rw [writeLat_frame]; rfl
  · rw [writeLat_frame]; rfl
  · rw [writeLat_frame]; rfl
  · rw [ht, writeLat_readG, if_pos rfl]
  · intro r h; rw [ht, writeLat_readG, if_neg h, hr]
  · exact ⟨(writeLat_takes (raise fl s) d l v).first, (writeLat_takes (raise fl s) d l v).second⟩

theorem raise_zero (s : State) : raise 0 s = s := by
  simp [raise, State.mapCsr, State.mapTh]

/-- The same without flags. -/
theorem scalarEffect_write (s : State) (st : BitVec 2) (pc : Word) (d : Reg) (l : Lat) (v : Word) :
    ScalarEffect s (retireTo st pc (writeLat s d l v)) pc d v 0 := by
  have := scalarEffect_retireTo s st pc d l v 0
  rwa [raise_zero] at this

/-- A scalar instruction that writes no register. -/
theorem scalarEffect_none (s : State) (st : BitVec 2) (pc : Word) : ScalarEffect s (retireTo st pc s) pc 0 0 0 :=
  scalarEffect_write s st pc 0 .alu 0

@[simp] theorem writeLat_pc (s : State) (d : Reg) (l : Lat) (v : Word) : (writeLat s d l v).core.th.pc = s.core.th.pc := by
  rw [writeLat_frame]; rfl

/-- A scalar instruction of n bytes that writes one register and raises flags. -/
theorem scalarEffect_retire (s : State) (st : BitVec 2) (n : Nat) (d : Reg) (l : Lat) (v : Word) (fl : Flags) :
    ScalarEffect s (retire st n (writeLat (raise fl s) d l v)) (s.core.th.pc + BitVec.ofNat 64 n) d v fl := by
  unfold retire
  rw [writeLat_pc]
  exact scalarEffect_retireTo s st _ d l v fl

/-- The effect that writes the same register with the same value is the same effect. -/
theorem ScalarEffect.cast {s t : State} {pc pc' : Word} {d : Reg} {v v' : Word} {fl : Flags} (h : ScalarEffect s t pc d v fl)
    (hp : pc = pc') (hv : v = v') : ScalarEffect s t pc' d v' fl := hp ▸ hv ▸ h

/-- A scalar instruction that computes one register from ready operands. -/
theorem gives_scalarG {i : Instr} {s : State} {n : Nat} {rs : List Reg} {st : BitVec 2} {d : Reg} {l : Lat} {f : State → Word}
    {v : Word} (hi : exec i s = .next (scalarG n rs st d l f s)) (hv : s.ready rs = true → f s = v) :
    Gives rs (BitVec.ofNat 64 n) i s d v := by
  intro h
  refine ⟨_, hi, ?_⟩
  unfold scalarG
  rw [scalar_of_ready h, ← raise_zero s, raise_zero s]
  have := scalarEffect_retire s st n d l (f s) 0
  rw [raise_zero] at this
  exact this.cast rfl (hv h)

end Sys2Proof.Machine
end

