-- ==== Sys2Proof/Laws/Trap.lean ====
section
/-! SUPPORT. Taking a supervisor trap (20 R430). -/

namespace Sys2Proof.Machine

/-- A core without a handler stops (20 R430). -/
theorem enterSup_run (c : Cause) (val sepc : Word) (s : State) :
    (enterSup c val sepc false s).core.run = if s.core.sup.stvec = 0 then .stopped else .live := by
  show (if (decide (s.core.sup.stvec = 0) || false) = true then Run.stopped else .live) = _
  by_cases h : s.core.sup.stvec = 0 <;> simp [h]
/-- What a supervisor trap without a vector block leaves. -/
theorem trapEntry_enterSup (c : Cause) (val sepc : Word) (s : State) : TrapEntry s (enterSup c val sepc false s) c val sepc where
  state := rfl
  level := rfl
  pc := rfl
  sup := rfl
  core := by rw [← enterSup_run c val sepc s]; rfl
  thread := rfl
  leadV := rfl
  dev := rfl

/-- A synchronous scalar trap. -/
theorem trapEntry_trap (c : Cause) (val : Word) (s : State) : TrapEntry s (trap c val s) c val s.core.th.pc :=
  trapEntry_enterSup c val _ s

end Sys2Proof.Machine
end

