-- ==== Sys2Proof/Tests/Slice0.lean ====
section
/-! SUPPORT. Tests: words that decode as the spec lays them out, ill-formed terms that are refused, single steps with results from
the spec's own tables and examples, and a witness for the hypotheses of each statement. -/

namespace Sys2Proof.Tests

open Sys2Proof Sys2Proof.Machine

noncomputable section

set_option Elab.async false

/-! ### Decoding: one word for every instruction, its fields laid out by hand from 02 Tables 02-1 to 02-7 and 03 Tables 03-1
to 03-3 -/

/-- A word of n bytes decodes to an instruction. -/
def readsAs (p : Nat × Nat × Instr) : Bool :=
  match decode (leBytes p.1 p.2.1) with
  | .ok (i, n) => decide (i = p.2.2) && n == p.1
  | .error _ => false

theorem test_words_alu : ([
    (4, 0x2fd6a040, .add 11 31 5 2), (4, 0x18aab041, .sub 21 2 3 3), (4, 0x9b088042, .and 4 12 19 0),
    (4, 0x3c7c8043, .or 30 17 7 0), (4, 0x73868044, .xor 3 14 14 0), (4, 0x90d0a045, .andn 8 3 18 2),
    (4, 0x9ec48046, .sll 2 27 19 0), (4, 0xaa3eb047, .srl 31 8 21 3), (4, 0x98beb048, .sra 31 2 19 3),
    (4, 0x409a8049, .ror 13 2 8 0), (4, 0x2f24904a, .slt 18 28 5 1), (4, 0x915c804b, .sltn 14 5 18 0),
    (4, 0x92a6804c, .min 19 10 18 0), (4, 0x9cc8804d, .max 4 19 19 0), (4, 0x9118804e, .minn 12 4 18 0),
    (4, 0xa0a6804f, .maxn 19 2 20 0), (4, 0x95a0a050, .mul 16 22 18 2), (4, 0x7af2b051, .mulh 25 11 15 3),
    (4, 0x63fc9052, .mulhn 30 15 12 1), (4, 0x36908053, .div 8 26 6 0), (4, 0x54c6b054, .divn 3 19 10 3),
    (4, 0x5f60a055, .rem 16 29 11 2), (4, 0x1d148056, .remn 10 20 3 0), (4, 0x3a28057, .clz 17 14 0),
    (4, 0x2f28058, .ctz 25 11 0), (4, 0x43ca059, .cpop 30 16 2), (4, 0x7c4805a, .sextb 2 31 0),
    (4, 0x4b2b05b, .sexth 25 18 3), (4, 0x774905c, .sextw 26 29 1), (4, 0x5d6905d, .bswap 11 23 1),
    (4, 0x9c28a05e, .csel 20 16 19 2)] : List (Nat × Nat × Instr)).all readsAs = true := by decide +kernel

theorem test_words_shi : ([
    (4, 0x36c69080, .slli 3 27 6 1), (4, 0x5de18081, .srli 16 23 43 0), (4, 0x6e059082, .srai 2 24 45 1),
    (4, 0x64eba083, .rori 21 19 44 2)] : List (Nat × Nat × Instr)).all readsAs = true := by decide +kernel

theorem test_words_immediate : ([
    (4, 0x65d490ed, .addi 10 23 1581 1), (4, 0x77c39124, .andi 1 31 1892 1), (4, 0x1d0da160, .ori 6 20 480 2),
    (4, 0xc1c5918b, .xori 2 7 3147 1), (4, 0x3e0ba1f7, .slti 5 24 1015 2), (4, 0xdf9ba232, .sltin 13 30 3570 2),
    (4, 0x2a86a26e, .movhi 3 0x552e 2), (4, 0x8c9b9291, .pgrel 13 0x11951 1)] : List (Nat × Nat × Instr)).all readsAs = true := by decide +kernel

theorem test_words_branch : ([
    (4, 0x233aa2dc, .jal 29 0x461c 2), (4, 0x44b9a335, .jalr 28 18 1141 2), (4, 0xe32ca366, .beq 12 22 3622 2),
    (4, 0x27d183ab, .bne 31 8 619 0), (4, 0x398a83f7, .blt 6 5 951 0), (4, 0xd061b40d, .bge 1 16 3405 3),
    (4, 0x49928443, .bltn 6 9 1155 0), (4, 0x895c948e, .bgen 5 14 2190 1), (4, 0x552684da, .sbnz 20 19 1306 0)] : List (Nat × Nat × Instr)).all readsAs = true := by decide +kernel

theorem test_words_memory : ([
    (4, 0xa72f8502, .ld8 23 28 66 10 0), (4, 0xdf5fb530, .ld8s 15 29 112 13 3), (4, 0x735a8574, .ld16 13 13 52 7 0),
    (4, 0x1d608574, .ld16s 16 21 52 1 0), (4, 0x31c685b9, .ld32 3 7 57 3 0), (4, 0x2d168587, .ld32s 11 20 7 2 0),
    (4, 0x216795c5, .ld64 19 5 69 2 1), (4, 0xe068860a, .st8 20 1 10 14 0), (4, 0xb3689654, .st16 20 13 20 11 1),
    (4, 0x633fa68e, .st32 31 12 78 6 2), (4, 0x8109a6ed, .st64 4 4 109 8 2)] : List (Nat × Nat × Instr)).all readsAs = true := by decide +kernel

theorem test_words_fpu : ([
    (4, 0x54208700, .fadd 16 16 10 false 0), (4, 0x5e09a701, .fsub 4 24 11 true 2),
    (4, 0x35f68702, .fmul 27 23 6 false 0), (4, 0x8fff8703, .fdiv 31 31 17 true 0), (4, 0x4aeb704, .fsqrt 23 18 false 3),
    (4, 0xe5549705, .fmin 10 21 28 false 1), (4, 0xf3229706, .fmax 17 12 30 false 1),
    (4, 0x92338707, .feq 25 8 18 true 0), (4, 0xd6a88708, .flt 20 26 26 false 0), (4, 0xc3768709, .fle 27 13 24 false 0),
    (4, 0x423870a, .fclass 17 16 true 0), (4, 0x4e83970b, .fsgnj 1 26 9 true 1), (4, 0xa5cfa70c, .fsgnjn 7 23 20 true 2),
    (4, 0xc7b5970d, .fsgnjx 26 30 24 true 1), (4, 0x206870e, .fcvtfi 3 8 false 0), (4, 0x1e1870f, .fcvtfn 16 7 true 0),
    (4, 0x520a710, .fcvtif 16 20 false 2), (4, 0x57d8711, .fcvtnf 30 21 true 0), (4, 0x5b6a712, .fcvtff 27 22 false 2),
    (4, 0x5f4a713, .fcvtbf 26 23 false 2), (4, 0x1bb9714, .fcvtfb 29 6 true 1)] : List (Nat × Nat × Instr)).all readsAs = true := by decide +kernel

theorem test_words_ffma : ([
    (4, 0xfe87a770, .ffma32 3 26 31 24 2 2), (4, 0xfe1b8787, .ffma64 13 24 31 3 3 0)] : List (Nat × Nat × Instr)).all readsAs = true := by decide +kernel

theorem test_words_sys : ([
    (4, 0x87c0, .svc 0), (4, 0x87c1, .tret 0), (4, 0x87c2, .brk 0), (4, 0x87c3, .nap 0), (4, 0xb7c4, .kend 3),
    (4, 0xa7c5, .iflush 2), (4, 0x87c6, .uret 0), (4, 0xb7c7, .yield 3)] : List (Nat × Nat × Instr)).all readsAs = true := by decide +kernel

theorem test_words_prefetch : ([
    (4, 0x6c1a80d, .iprf 27 77 2), (4, 0x65818878, .dprf 22 120 6 0)] : List (Nat × Nat × Instr)).all readsAs = true := by decide +kernel

theorem test_words_fence : ([
    (4, 0x8c4688b5, .fence 0x8c75 3 0), (4, 0x54a88bb, .fenceacq 1403 1 0), (4, 0x86d6888f, .fencerel 0x86cf 3 0),
    (4, 0x6f1a888f, .vdrain 0x6f0f 1 0)] : List (Nat × Nat × Instr)).all readsAs = true := by decide +kernel

theorem test_words_csr : ([
    (4, 0x324398e8, .csrrw 1 9 872 1), (4, 0xc222b939, .csrrs 17 8 3129 3), (4, 0x8a56a976, .csrrc 11 9 2230 2)] : List (Nat × Nat × Instr)).all readsAs = true := by decide +kernel

theorem test_words_vcfg : ([
    (4, 0x1768980, .vsetl 27 5 0), (4, 0x63c9981, .vsetvt 30 24 1), (4, 0x783ab982, .vsetty 29 15 3),
    (4, 0xeec0b983, .vsetdie 27 29 3)] : List (Nat × Nat × Instr)).all readsAs = true := by decide +kernel

theorem test_words_vint_vv : ([
    (4, 0xf6dcb9c0, .vaddVv 14 27 30 false 3), (4, 0x814cb9c1, .vsubVv 6 5 16 false 3),
    (4, 0xc892b9c2, .vrsubVv 9 2 25 false 3), (4, 0x945fb9c3, .vmulVv 15 17 18 true 3),
    (4, 0x691d99c4, .vmulhVv 14 4 13 true 1), (4, 0xadff89c5, .vmulhnVv 31 23 21 true 0),
    (4, 0xdd8c89c6, .vmacVv 6 22 27 false 0), (4, 0xb31b9c7, .vandVv 24 12 1 true 3),
    (4, 0x20fe89c8, .vorVv 31 3 4 false 0), (4, 0x915b99c9, .vxorVv 13 5 18 true 1),
    (4, 0x1a7489ca, .vsllVv 26 9 3 false 0), (4, 0x888a89cb, .vsrlVv 5 2 17 false 0),
    (4, 0x51f3b9cc, .vsraVv 25 7 10 true 3), (4, 0x89e589cd, .vminVv 18 7 17 true 0),
    (4, 0x3dd499ce, .vmaxVv 10 23 7 false 1), (4, 0xc547a9cf, .vminnVv 3 21 24 true 2),
    (4, 0x33c499d0, .vmaxnVv 2 15 6 false 1), (4, 0x330e99d1, .vdivVv 7 12 6 false 1),
    (4, 0x1ed2a9d2, .vdivnVv 9 27 3 false 2), (4, 0xe47eb9d3, .vremVv 31 17 28 false 3),
    (4, 0xbef7b9d4, .vremnVv 27 27 23 true 3), (4, 0x288389d5, .vsaddVv 1 2 5 true 0),
    (4, 0x7852b9d6, .vssubVv 9 1 15 false 3), (4, 0x3e7089d7, .vmergeVv (24, false) 25 7 0),
    (4, 0x3e7189d7, .vmergeVv (24, true) 25 7 0), (4, 0x5bd89d8, .vmvVv 30 22 true 0),
    (4, 0xbe2bb9d9, .vseqVv 21 24 23 true 3), (4, 0x542da9da, .vsneVv 22 16 10 true 2),
    (4, 0x1bd599db, .vsltVv 10 15 3 true 1), (4, 0xdd0b89dc, .vsltnVv 5 20 27 true 0),
    (4, 0x6bed89dd, .vsleVv 22 15 13 true 0), (4, 0x237689de, .vslenVv 27 13 4 false 0)] : List (Nat × Nat × Instr)).all readsAs = true := by decide +kernel

theorem test_words_vint_vs : ([
    (4, 0x8c4aaa00, .vaddVs 5 17 17 false 2), (4, 0xb2c58a01, .vsubVs 2 11 22 true 0),
    (4, 0xc9eaa02, .vrsubVs 15 18 1 false 2), (4, 0xba3fba03, .vmulVs 31 8 23 true 3),
    (4, 0x45878a04, .vmulhVs 3 22 8 true 0), (4, 0x2f538a05, .vmulhnVs 9 29 5 true 0),
    (4, 0x8baf9a06, .vmacVs 23 14 17 true 1), (4, 0xbbdeaa07, .vandVs 15 15 23 false 2),
    (4, 0x4a468a08, .vorVs 3 9 9 false 0), (4, 0x1246aa09, .vxorVs 3 9 2 false 2), (4, 0x27138a0a, .vsllVs 9 28 4 true 0),
    (4, 0x124c8a0b, .vsrlVs 6 9 2 false 0), (4, 0x49ad8a0c, .vsraVs 22 6 9 true 0),
    (4, 0x23fdaa0d, .vminVs 30 15 4 true 2), (4, 0xeeceaa0e, .vmaxVs 7 27 29 false 2),
    (4, 0x188dba0f, .vminnVs 6 2 3 true 3), (4, 0x485f9a10, .vmaxnVs 15 1 9 true 1),
    (4, 0x80dbba11, .vdivVs 13 3 16 true 3), (4, 0x68a69a12, .vdivnVs 19 2 13 false 1),
    (4, 0x5e5b8a13, .vremVs 13 25 11 true 0), (4, 0x8f8aba14, .vremnVs 5 30 17 false 3),
    (4, 0x7eda8a15, .vsaddVs 13 27 15 false 0), (4, 0x1cbaaa16, .vssubVs 29 18 3 false 2),
    (4, 0x7d70aa17, .vmergeVs (24, false) 21 15 2), (4, 0x7d71aa17, .vmergeVs (24, true) 21 15 2),
    (4, 0x5688a18, .vmvVs 20 21 false 0), (4, 0x9678a19, .vseqVs 19 5 1 true 0),
    (4, 0xcbdeba1a, .vsneVs 15 15 25 false 3), (4, 0xf1da8a1b, .vsltVs 13 7 30 false 0),
    (4, 0x432faa1c, .vsltnVs 23 12 8 true 2), (4, 0x6b1d8a1d, .vsleVs 14 12 13 true 0),
    (4, 0x563b9a1e, .vslenVs 29 24 10 true 1)] : List (Nat × Nat × Instr)).all readsAs = true := by decide +kernel

theorem test_words_vint_vi : ([
    (4, 0x35328a40, .vaddVi 25 6 20 false 0), (4, 0x90ba8a41, .vsubVi 29 18 2 false 0),
    (4, 0xa4569a42, .vrsubVi 11 20 17 false 1), (4, 0xf9fb8a43, .vmulVi 29 31 7 true 0),
    (4, 0xb28e8a44, .vmulhVi 7 22 10 false 0), (4, 0xf931aa45, .vmulhnVi 24 31 4 true 2),
    (4, 0x3b1d8a46, .vmacVi 14 7 12 true 0), (4, 0x8d17ba47, .vandVi 11 17 20 true 3),
    (4, 0xc9539a48, .vorVi 9 25 5 true 1), (4, 0x1a7a8a49, .vxorVi 29 3 9 false 0),
    (4, 0x9397ba4a, .vsllVi 11 18 14 true 3), (4, 0x557dba4b, .vsrlVi 30 10 21 true 3),
    (4, 0x1052ba4c, .vsraVi 9 2 1 false 3), (4, 0xdf65ba4d, .vminVi 18 27 29 true 3),
    (4, 0x16d88a4e, .vmaxVi 12 2 27 false 0), (4, 0x552c9a4f, .vminnVi 22 10 20 false 1),
    (4, 0x5a249a50, .vmaxnVi 18 11 8 false 1), (4, 0x3a2a8a51, .vdivVi 21 7 8 false 0),
    (4, 0xaa14ba52, .vdivnVi 10 21 8 false 3), (4, 0xc5148a53, .vremVi 10 24 20 false 0),
    (4, 0xedf48a54, .vremnVi 26 29 23 false 0), (4, 0x95aaaa55, .vsaddVi 21 18 22 false 2),
    (4, 0xd0d38a56, .vssubVi 9 26 3 true 0), (4, 0x68f8aa57, .vmergeVi (28, false) 13 3 2),
    (4, 0x68f9aa57, .vmergeVi (28, true) 13 3 2), (4, 0x1699a58, .vmvVi 20 5 true 1),
    (4, 0x4da08a59, .vseqVi 16 9 22 false 0), (4, 0x50cf8a5a, .vsneVi 7 10 3 true 0),
    (4, 0x19679a5b, .vsltVi 19 3 5 true 1), (4, 0x99aaa5c, .vsltnVi 13 1 6 false 2),
    (4, 0x58779a5d, .vsleVi 27 11 1 true 1), (4, 0x6b469a5e, .vslenVi 3 13 13 false 1)] : List (Nat × Nat × Instr)).all readsAs = true := by decide +kernel

theorem test_words_vfp_vv : ([
    (4, 0xcbbd8a80, .vfaddVv 30 14 25 true 0), (4, 0x72518a81, .vfsubVv 8 9 14 true 0),
    (4, 0xae75ba82, .vfmulVv 26 25 21 true 3), (4, 0x763dba83, .vfdivVv 30 24 14 true 3),
    (4, 0x7848a84, .vfsqrt 2 (30, none) false 0), (4, 0x3a19a85, .vfrsqe 16 (14, none) true 1),
    (4, 0x255aa86, .vfrece 10 (9, none) true 2), (4, 0x22baa87, .vfexp 21 (8, none) true 2),
    (4, 0x5a58a88, .vfexp2 18 (22, none) true 0), (4, 0x54c8a89, .vflog2 6 (21, none) false 0),
    (4, 0xec4fba8a, .vfminVv 7 17 29 true 3), (4, 0x915c8a8b, .vfmaxVv 14 5 18 false 0),
    (4, 0x4b108a8c, .vfsgnjVv 8 12 9 false 0), (4, 0x3c719a8d, .vfsgnjnVv 24 17 7 true 1),
    (4, 0x67e6ba8e, .vfsgnjxVv 19 31 12 false 3), (4, 0x4753aa8f, .vfeqVv 9 29 8 true 2),
    (4, 0x708bba90, .vfneVv 5 2 14 true 3), (4, 0x7bf88a91, .vfltVv 28 15 15 false 0),
    (4, 0xcc868a92, .vfleVv 3 18 25 false 0), (4, 0x17fba93, .vfclass 31 (5, none) true 3),
    (4, 0x3aa8a94, .vfcvt 21 (14, none) false 0), (4, 0x286aa95, .vfround 3 (10, none) false 2),
    (4, 0xd212ba96, .vfmergeVv (9, false) 8 26 3), (4, 0xd213ba96, .vfmergeVv (9, true) 8 26 3)] : List (Nat × Nat × Instr)).all readsAs = true := by decide +kernel

theorem test_words_vfp_vs : ([
    (4, 0x11138ac0, .vfaddVs 9 4 2 true 0), (4, 0xd3338ac1, .vfsubVs 25 12 26 true 0),
    (4, 0xc1e48ac2, .vfmulVs 18 7 24 false 0), (4, 0xa973aac3, .vfdivVs 25 5 21 true 2),
    (4, 0x8a479ac4, .vfsqrt 3 (17, some 9) true 1), (4, 0x8a479ac5, .vfrsqe 3 (17, some 9) true 1),
    (4, 0x8a479ac6, .vfrece 3 (17, some 9) true 1), (4, 0x8a479ac7, .vfexp 3 (17, some 9) true 1),
    (4, 0x8a479ac8, .vfexp2 3 (17, some 9) true 1), (4, 0x8a479ac9, .vflog2 3 (17, some 9) true 1),
    (4, 0xf3d1aaca, .vfminVs 8 15 30 true 2), (4, 0x59869acb, .vfmaxVs 3 6 11 false 1),
    (4, 0x7731aacc, .vfsgnjVs 24 28 14 true 2), (4, 0x16579acd, .vfsgnjnVs 11 25 2 true 1),
    (4, 0xd5628ace, .vfsgnjxVs 17 21 26 false 0), (4, 0x73eb8acf, .vfeqVs 21 15 14 true 0),
    (4, 0x1861bad0, .vfneVs 16 1 3 true 3), (4, 0x2950aad1, .vfltVs 8 5 5 false 2),
    (4, 0x41749ad2, .vfleVs 26 5 8 false 1), (4, 0x8a479ad3, .vfclass 3 (17, some 9) true 1),
    (4, 0x8a479ad4, .vfcvt 3 (17, some 9) true 1), (4, 0x8a479ad5, .vfround 3 (17, some 9) true 1),
    (4, 0x90429ad6, .vfmergeVs (1, false) 1 18 1), (4, 0x90439ad6, .vfmergeVs (1, true) 1 18 1)] : List (Nat × Nat × Instr)).all readsAs = true := by decide +kernel

theorem test_words_vfma : ([
    (4, 0xfa5f8b00, .vfmaccVv 15 9 31 true 0), (4, 0x44608b01, .vfnmaccVv 16 17 8 false 0),
    (4, 0xbbbf8b02, .vfmsacVv 31 14 23 true 0), (4, 0x81c38b03, .vfnmsacVv 1 7 16 true 0),
    (4, 0xb2139b04, .vfmaccVs 9 8 22 true 1), (4, 0x1411ab05, .vfnmaccVs 8 16 2 true 2),
    (4, 0x6d988b06, .vfmsacVs 12 22 13 false 0), (4, 0xc2b48b07, .vfnmsacVs 26 10 24 false 0)] : List (Nat × Nat × Instr)).all readsAs = true := by decide +kernel

theorem test_words_vred : ([
    (4, 0x51e08b40, .vredsum 16 7 10 false 0), (4, 0x4a1f8b41, .vredand 15 8 9 true 0),
    (4, 0x853e8b42, .vredor 31 20 16 false 0), (4, 0xf3a0bb43, .vredxor 16 14 30 false 3),
    (4, 0x6f8a8b44, .vredmin 5 30 13 false 0), (4, 0x2d038b45, .vredmax 1 20 5 true 0),
    (4, 0x30afab46, .vredminn 23 2 6 true 2), (4, 0xedfb8b47, .vredmaxn 29 23 29 true 0),
    (4, 0x37878b48, .vfredsum 3 30 6 true 0), (4, 0xf54d8b49, .vfredmin 6 21 30 true 0),
    (4, 0xc5959b4a, .vfredmax 10 22 24 true 1), (4, 0x3d68b4b, .vscan 11 15 false 0), (4, 0xc38b4c, .vfscan 1 3 true 0),
    (4, 0xfb98bb4d, .vsmx 12 14 31 false 3)] : List (Nat × Nat × Instr)).all readsAs = true := by decide +kernel

theorem test_words_vperm : ([
    (4, 0x3e7f9b80, .vslideup 31 25 7 true 1), (4, 0x56f38b81, .vslidedn 25 27 10 true 0),
    (4, 0x85c49b82, .vslide1up 2 23 16 false 1), (4, 0x7fa49b83, .vslide1dn 18 30 15 false 1),
    (4, 0xee198b84, .vrgath 12 24 29 true 0), (4, 0x3aaab85, .vcompress 21 14 false 2),
    (4, 0x344ab86, .vexpand 2 13 false 2), (4, 0xf6869b87, .vzip 3 26 30 false 1), (4, 0x60ebb88, .vunzipe 7 24 false 3),
    (4, 0x3179b89, .vunzipo 11 12 true 1), (4, 0x7fe9b8a, .vdrot 31 31 false 1), (4, 0x5f19b8b, .vsplat 24 23 true 1),
    (4, 0x14bb8c, .vid 10 false 3), (4, 0xaebc8b8d, .vins 30 26 21 false 0), (4, 0x2236ab8e, .vext 27 8 4 2)] : List (Nat × Nat × Instr)).all readsAs = true := by decide +kernel

theorem test_words_vmask : ([
    (4, 0x7feeabc0, .mand 23 31 15 2), (4, 0xf274abc1, .mor 26 9 30 2), (4, 0x2c36abc2, .mxor 27 16 5 2),
    (4, 0xd04c9bc3, .mandn 6 1 26 1), (4, 0x5f68bc4, .mnot 27 23 0), (4, 0x288bc5, .mset 20 0), (4, 0x169bc6, .mclr 11 1),
    (4, 0x31ebbc7, .mmv 15 12 3), (4, 0x4468bc8, .mpop 3 17 0), (4, 0x65a8bc9, .mfirst 13 25 0),
    (4, 0x3908bca, .msbf 8 14 0), (4, 0xaaabcb, .mfromv 21 2 2), (4, 0x4a49bcc, .mtov 18 18 1)] : List (Nat × Nat × Instr)).all readsAs = true := by decide +kernel

theorem test_words_vmem : ([
    (4, 0x38c8c3c, .vld16 6 14 15 false 0), (4, 0x1d12ac11, .vlds16 9 20 3 4 false 2),
    (4, 0x7de08c0e, .vldx16 16 23 15 3 false 0), (4, 0x3dcbc2b, .vldff16 14 15 10 false 3),
    (4, 0x6789c6c, .vld32 28 25 11 false 1), (4, 0x9a559c55, .vlds32 10 9 19 5 true 1),
    (4, 0x3a708c62, .vldx32 24 9 7 8 false 0), (4, 0x211bc4f, .vldff32 8 8 3 true 3),
    (4, 0x2cf9c88, .vld64 7 11 2 true 1), (4, 0x8c50ac91, .vlds64 8 17 17 4 false 2),
    (4, 0x904aca2, .vldx64 2 4 1 8 false 2), (4, 0x33d8c87, .vldff64 30 12 1 true 0), (4, 0x888cd0, .vst16 4 2 4 false 0),
    (4, 0xe459bccd, .vsts16 12 17 28 3 true 3), (4, 0xce528cee, .vstxo16 9 25 25 11 false 0),
    (4, 0xbd2b8ceb, .vstxa16 21 20 23 10 true 0), (4, 0x3048d18, .vst32 2 12 6 false 0),
    (4, 0x124e8d29, .vsts32 7 9 2 10 false 0), (4, 0x72f78d2e, .vstxo32 27 11 14 11 true 0),
    (4, 0x1aa8ad13, .vstxa32 20 10 3 4 false 2), (4, 0x4258d48, .vst64 18 16 2 true 0),
    (4, 0xb374bd65, .vsts64 26 13 22 9 false 3), (4, 0x3547ad5e, .vstxo64 3 21 6 7 true 2),
    (4, 0x55949d5f, .vstxa64 10 22 10 7 false 1)] : List (Nat × Nat × Instr)).all readsAs = true := by decide +kernel

theorem test_words_imm : ([
    (8, 0xe23220eeae18d040, .ldi 24 0x71191077570 1), (8, 0x1aa70cec041, .ldih 14 0xd5386 0)] : List (Nat × Nat × Instr)).all readsAs = true := by decide +kernel

theorem test_words_ldx : ([
    (8, 0x3fd6800033ce082, .lacq 28 25 2042 2 3 4 2), (8, 0x4d15e0061a0c081, .srel 24 13 418 1 2 15 0)] : List (Nat × Nat × Instr)).all readsAs = true := by decide +kernel

theorem test_words_amo : ([
    (8, 0x5d5a006c8ec0c6, .aswap 14 4 27 186 2 true 2 13 0), (8, 0x63534000825f0c5, .aadd 5 1 2 1130 1 true 1 10 3),
    (8, 0xa054a00619ec0c1, .aand 30 12 24 1034 1 false 2 5 0), (8, 0xc455a0078d1c0c5, .aor 17 6 30 138 1 true 2 13 0),
    (8, 0x13c642006caaf0c5, .axor 10 5 27 1932 1 true 2 1 3), (8, 0x1458fa0036bec0c3, .amin 30 21 13 177 3 false 3 13 0),
    (8, 0x1b63340051b4c0c5, .amax 20 13 20 1734 1 true 1 10 0), (8, 0x1e12c4007da2c0c5, .aminn 2 13 31 1061 1 true 2 2 0),
    (8, 0x23977c006f08c0c1, .amaxn 8 24 27 1838 1 false 3 14 0),
    (8, 0x24797c002f76d0c6, .ainc 22 27 11 242 2 true 3 14 1), (8, 0x2a55560029d5d0c5, .adec 21 14 10 1194 1 true 2 11 1),
    (8, 0x2c1848033e2fe0c5, .abadd 15 17 15 6 48 1 true 2 4 2),
    (8, 0x31d5c40de699c0c5, .acas 25 20 25 27 939 1 true 2 2 0), (8, 0x35b952000185f0c2, .ll 5 12 882 2 false 2 9 3),
    (8, 0x3a8c6c000856f0c1, .sc 22 2 2 1304 1 false 3 6 3)] : List (Nat × Nat × Instr)).all readsAs = true := by decide +kernel

theorem test_words_vamo : ([
    (8, 0x543408e443c101, .vaadd 3 2 25 17 true 168 false 0 1 10 0),
    (8, 0x47afe0874a7c101, .vaand 7 5 29 16 true 245 false 0 3 15 0),
    (8, 0x814ebfa3363e101, .vaor 3 27 12 20 true 41 true 15 3 5 2),
    (8, 0xc1b69afc525d101, .vaxor 5 9 17 31 true 54 true 10 3 4 1),
    (8, 0x10155fb31c4ce101, .vamin 12 2 7 6 true 42 true 11 2 15 2),
    (8, 0x1462dc04eb46e100, .vamax 6 26 26 9 false 197 false 0 2 14 2),
    (8, 0x1820cbcbce32e100, .vaswap 18 17 19 23 false 65 true 12 2 5 2),
    (8, 0x1c622606166cf101, .vainc 12 19 5 12 true 196 false 0 1 3 3),
    (8, 0x202839c50bf8c101, .vabadd 24 31 2 10 true 80 true 12 1 12 0),
    (8, 0x2435a7fa28a8e101, .vfaadd 8 5 10 20 true 107 true 15 1 3 2),
    (8, 0x28074a015688c100, .vfamax 8 20 21 2 false 14 false 0 2 5 0)] : List (Nat × Nat × Instr)).all readsAs = true := by decide +kernel

theorem test_words_vlink : ([
    (8, 0x1d55a04991c140, .vgl 17 12 18 58 true 10 2 10 0), (8, 0x43d3e0dd187c140, .vsc 7 12 20 27 122 false 0 1 15 0)] : List (Nat × Nat × Instr)).all readsAs = true := by decide +kernel

theorem test_words_vldx : ([
    (8, 0x8960000b7d183, .vldq 23 5 true 1 17 false 0 11 1), (8, 0x45317ad0120f182, .vstq 26 9 false 1 166 true 10 11 3),
    (8, 0x842874003d4c180, .vldf16 20 30 133 true 4 3 0), (8, 0xc4486010040c180, .vstf16 2 2 137 false 0 3 0),
    (8, 0x10020e000046c18f, .vlseg 6 2 7 1 4 false 0 7 0), (8, 0x145315e88280c19e, .vsseg 17 20 6 3 166 true 14 10 0)] : List (Nat × Nat × Instr)).all readsAs = true := by decide +kernel

theorem test_words_vxf : ([
    (8, 0x2696002871c1c0, .vpush 17 10 3 77 11 0), (8, 0x4648000031de1c0, .vtake 29 24 201 2),
    (8, 0x84500000017c1c0, .vempty 23 138 0), (8, 0xc6c8000000de1c0, .vfill 13 217 2)] : List (Nat × Nat × Instr)).all readsAs = true := by decide +kernel

theorem test_words_fut : ([
    (8, 0x1dcb80003d8e200, .fget 24 30 953 1 12 2), (8, 0x7fd2a000106c200, .ftake 6 8 2042 1 5 0),
    (8, 0x87ede005440d200, .fgive 21 2 253 2 15 1), (8, 0xc36560002e0f200, .fempty 23 108 2 11 3),
    (8, 0x12beea0001d6d200, .fpeek 22 14 1405 3 5 1)] : List (Nat × Nat × Instr)).all readsAs = true := by decide +kernel

theorem test_words_strm : ([
    (8, 0x3dc800003d5c240, .sbind 21 30 1977 0), (8, 0x40000000003f240, .sunbind 3 3),
    (8, 0x80000001801d240, .sstat 1 6 1), (8, 0xc000000001dc240, .sflush 29 0)] : List (Nat × Nat × Instr)).all readsAs = true := by decide +kernel

theorem test_words_tile : ([
    (8, 0x180f9f1bd280, .tplanar 27 24 7 31 false 12 1), (8, 0x4004c0003a7f280, .tpost 7 29 2 6 3),
    (8, 0x8000e000100f280, .tzero 8 7 3), (8, 0xc001c004200f280, .trenorm 16 16 14 3),
    (8, 0x100018007037c280, .tload 23 1 28 false 0 12 0), (8, 0x14048e007660f280, .tinit 19 29 9 false 7 3),
    (8, 0x180014000073c280, .tstat 19 3 10 0), (8, 0x1c0004000445c280, .tflags 5 2 1 2 0)] : List (Nat × Nat × Instr)).all readsAs = true := by decide +kernel

theorem test_words_eng : ([
    (8, 0x3d4c2c0, .epost 20 30 0), (8, 0x400000000acc2c0, .esusp 12 5 false 0),
    (8, 0x800000000a2c2c0, .eresm 2 5 false 0), (8, 0xc0080000058f2c0, .estat 24 2 1 3),
    (8, 0x1345fe001d99c2c0, .ewait 25 12 7 1675 3 15 0)] : List (Nat × Nat × Instr)).all readsAs = true := by decide +kernel

theorem test_words_lock : ([
    (8, 0x6000039de301, .lkacq 29 28 1 3 2), (8, 0x400200000e8c301, .lktry 8 7 1 1 0),
    (8, 0x8006000039fc300, .lkrel 31 28 3 0), (8, 0xc006000033bd304, .lkup 27 25 4 3 1),
    (8, 0x1000600000a4c303, .lkdown 4 5 3 3 0), (8, 0x14004000000be300, .lkrelall 11 2 2),
    (8, 0x180040000029d300, .lkstat 9 1 2 1)] : List (Nat × Nat × Instr)).all readsAs = true := by decide +kernel

theorem test_words_sched : ([
    (8, 0x15ed340, .nlaunch 30 10 false 1), (8, 0x40000002fc0f340, .llease 30 11 3), (8, 0x80280000200d340, .bset 5 16 1),
    (8, 0xc0320000014e340, .barr 20 6 1 2), (8, 0x1000e00001c0c340, .bwait 1 14 3 0),
    (8, 0x1401c0000000c340, .bsync 3 2 0), (8, 0x181280000012c340, .tsread 18 37 0)] : List (Nat × Nat × Instr)).all readsAs = true := by decide +kernel

theorem test_words_compressed : ([
    (2, 0x190, .cIllegal 12 16), (2, 0x490, .cAdd 4 16), (2, 0xafa, .cSub 23 26), (2, 0xf66, .cMv 27 6),
    (2, 0x13f0, .cAddi 31 16), (2, 0x166c, .cLi 19 12), (2, 0x1bfb, .cSlli 31 27), (2, 0x1e29, .cSrli 17 9),
    (2, 0x227f, .cAnd 19 31), (2, 0x24ca, .cOr 6 10), (2, 0x2b67, .cXor 27 7), (2, 0x2ff7, .cLd64 31 23),
    (2, 0x3110, .cSt64 8 16), (2, 0x34c4, .cBeqz 6 4), (2, 0x3bf5, .cBnez 31 21), (2, 0x3f12, .cJ 786),
    (2, 0x4060, .cJr 3), (2, 0x461a, .cVsetl 16 26), (2, 0x4af2, .cVadd 23 18), (2, 0x4f44, .cVfadd 26 4),
    (2, 0x52ab, .cVmv 21 11), (2, 0x5400, .cKend), (2, 0x5800, .cNop)] : List (Nat × Nat × Instr)).all readsAs = true := by decide +kernel

theorem test_words_xv : ([(8, 0x02A001406208C38F, .xv 0 0x2A 0 0 0x0F 0 true 4 24 16 8 0),
    (8, 0x669061102C02C3BF, .xv 0x19 0x29 0 0 0xFF 0 true 1 11 0 2 0), (8, 0xE00DADC3E8, .xvi 0x28 13 13 3 0xE0 0)] :
    List (Nat × Nat × Instr)).all readsAs = true := by decide +kernel

/-- Bytes are a reserved encoding. -/
def refused (bs : List Byte) : Bool :=
  match decode bs with
  | .error .reserved => true
  | _ => false

/-- 02 R44, R59: reserved encodings. -/
theorem test_words_refused : [leBytes 4 0x00008000, leBytes 4 0x0000BFC0, leBytes 4 0x0000805F, leBytes 8 0xC400,
    leBytes 2 0x5C00].all refused = true := by decide +kernel

/-! ### Well-formedness: for each check an instruction that it refuses, and whose bytes the decoder refuses -/

/-- An instruction whose fields the encoding cannot hold, in both senses. -/
def illFormed (i : Instr) : Bool :=
  !i.wf && (match encode i with
    | some bs => refused bs
    | none => false)

theorem test_wf_die_mask_zero : [Instr.vaadd 1 2 3 4 true 0 false 0 2 1 0, .vgl 1 2 3 0 false 0 2 1 0, .vldf16 1 2 0 false 0 1 0,
    .vpush 1 2 3 0 1 0, .vtake 1 2 0 0, .vempty 1 0 0, .vfill 1 0 0].all illFormed = true := by decide +kernel

theorem test_wf_mask_index_without_enable : [Instr.vaand 1 2 3 4 true 255 false 4 2 1 0, .vsc 1 2 3 4 255 false 4 2 1 0,
    .vstf16 1 2 255 false 4 1 0, .tload 1 2 3 false 4 1 0].all illFormed = true := by decide +kernel

theorem test_wf_group_code : [Instr.vldq 8 10 true 3 255 false 0 1 0, .vstq 8 10 true 3 255 false 0 1 0].all illFormed = true := by
  decide +kernel

theorem test_wf_field_count : [Instr.vlseg 8 10 0 1 255 false 0 1 0, .vsseg 8 10 0 1 255 false 0 1 0].all illFormed = true := by
  decide +kernel

theorem test_wf_planes : [Instr.tinit 29 30 0 true 1 0, .tinit 29 30 26 true 1 0].all illFormed = true := by decide +kernel

theorem test_wf_lock_mode : [Instr.lkacq 5 10 0 2 0, .lktry 5 10 7 2 0, .lkup 5 10 0 2 0, .lkdown 5 10 7 2 0].all illFormed = true := by
  decide +kernel

theorem test_wf_scope : [Instr.lkacq 5 10 5 0 0, .lkrel 5 10 0 0, .lkrelall 5 0 0, .lkstat 5 10 0 0, .barr 9 2 0 0, .bwait 2 9 0 0,
    .bsync 0 0 0].all illFormed = true := by decide +kernel

theorem test_wf_inner : [Instr.xv 63 0x2A 0 0 15 0 false 0 24 16 8 0, .xv 0 0x2A 0 0 0 0 false 0 24 16 8 0,
    .xv 0 0x26 1 0 0 0 false 0 0 1 2 0, .xvi 0x2A 13 13 3 224 0, .xvi 0x28 13 13 63 224 0].all illFormed = true := by decide +kernel

/-! ### States that witness the hypotheses of statements -/

/-- A live user thread on core 0, the lowest 4 TiB mapped: g7 and g8 hold addresses 128 bytes apart, g9 and g10 small numbers. -/
def user : State :=
  [((7 : Reg), (0x2000000000 : Word)), (8, 0x2000000080), (9, 3), (10, 5)].foldl (fun s p => writeG s p.1 p.2)
    (State.reset.withFetchWord 32 0x87C0)

/-- The same core at supervisor level, with a trap handler. -/
def supervisor : State := { user with core := { user.core with level := .supervisor, sup := { user.core.sup with stvec := 0x3000 } } }

/-- That user thread with a g register written. -/
def userG (r : Reg) (v : Word) : State := writeG user r v

/-- The thread of a state with its entries in the vector queue and the vector type and length changed. -/
def withQueue (q : List VEntry) (vtype : Word) (vl : Nat) (s : State) : State :=
  s.mapTh (fun t => { t with viq := q, csr := { t.csr with vtype := vtype, vl := BitVec.ofNat 15 vl } })

/-- What an instruction leaves. -/
def after (i : Instr) (s : State) : State :=
  match exec i s with
  | .next t => t
  | _ => s

/-- A translation that succeeds, with a property of what it gives. -/
def found (r : State × Except Cause Place) (f : State → Place → Bool) : Bool :=
  match r with
  | (s, .ok p) => f s p
  | _ => false

theorem found_spec {r f} (h : found r f = true) : ∃ s p, r = (s, .ok p) ∧ f s p = true := by
  obtain ⟨s, _ | p⟩ := r
  · simp [found] at h
  · exact ⟨s, p, rfl, h⟩

/-- A translation that fails. -/
def failed (r : State × Except Cause Place) : Bool :=
  match r with
  | (_, .error _) => true
  | _ => false

theorem failed_spec {r} (h : failed r = true) : ∃ s c, r = (s, .error c) := by
  obtain ⟨s, c | _⟩ := r
  · exact ⟨s, c, rfl⟩
  · simp [failed] at h

/-- An access of z bytes that is aligned, mapped, permitted and, as `poison` says, touches poison or does not. -/
def reaches (s : State) (acc : Acc) (va : Word) (z : Nat) (poison : Bool) : Bool :=
  va.toNat % z == 0 && found (translate s s.ctx s.dtlb acc va) (fun t p => anyPoisoned t.dev z p.loc == poison)

theorem reaches_spec {s acc va z poison} (h : reaches s acc va z poison = true) : va.toNat % z = 0 ∧
    ∃ s1 p, translate s s.ctx s.dtlb acc va = (s1, .ok p) ∧ anyPoisoned s1.dev z p.loc = poison := by
  simp only [reaches, Bool.and_eq_true, beq_iff_eq] at h
  obtain ⟨hz, hf⟩ := h
  obtain ⟨s1, p, hp, hq⟩ := found_spec hf
  exact ⟨hz, s1, p, hp, by simpa using hq⟩

/-- An aligned access that translation refuses. -/
def misses (s : State) (acc : Acc) (va : Word) (z : Nat) : Bool :=
  va.toNat % z == 0 && failed (translate s s.ctx s.dtlb acc va)

theorem misses_spec {s acc va z} (h : misses s acc va z = true) : va.toNat % z = 0 ∧
    ∃ s1 c, translate s s.ctx s.dtlb acc va = (s1, .error c) := by
  simp only [misses, Bool.and_eq_true, beq_iff_eq] at h
  exact ⟨h.1, failed_spec h.2⟩

/-- The user thread with the 32-byte unit at 0x2000000000 poisoned. -/
def poisoned : State := { user with dev := { user.dev with mem := { user.dev.mem with poison := [0x2000000000] } } }

/-- For IntegerRegisterResults, ImmediateResults, CompressedIntegerResults, BranchResults, SystemCallTraps, FloatResults and
FusedResults: every register they read is ready, with no result pending and with one pending elsewhere. -/
theorem test_witness_registers_ready : user.ready [7, 8, 9, 10, 0, 31] = true ∧ (9 : Reg) ≠ 0 ∧
    (user.mapTh (fun t => { t with lat := [⟨11, t.slot + 3, 0⟩] })).ready [9, 10] = true := by decide +kernel

/-- 05 R121: targets on either side of the alignment rule. -/
theorem test_witness_JumpResults : (userG 7 0x1FFF).ready [7] = true ∧ (readG (userG 7 0x1FFF) 7 + 1).getLsbD 0 = false ∧
    (readG (userG 7 0x1FFF) 7 + 0).getLsbD 0 = true ∧ (7 : Reg) ≠ 0 ∧ (readG user 7).getLsbD 0 = false := by decide +kernel

/-- 05 R135, R137: threads inside and outside a handler; 02 R54, R59: the least values of reserved fields. -/
theorem test_witness_ReservedFormsTrap : user.csr.utActive = false ∧
    (user.mapCsr (fun c => { c with utActive := true })).csr.utActive = true ∧ user.core.out = false ∧ 2 ≤ (2 : BitVec 4).toNat ∧
    ((3 : Reg).toNat = 3 ∧ 7 ≤ (7 : Reg).toNat) ∧ (1 : Reg) ≠ 0 := by decide +kernel

theorem test_witness_PrivilegeTraps : user.core.level = .user ∧ supervisor.core.level = .supervisor ∧
    (supervisor.mapSup (fun u => { u with sstatus := 2 })).core.sup.sstatus.toNat % 4 = 2 := by decide +kernel

/-- 02 R57: g9 read one slot before its producer's latency ends, as a first and as a second operand, with SCHK clear and set; behind
an empty queue. -/
theorem test_witness_ScoreboardViolation :
    let s := user.mapTh (fun t => { t with lat := [⟨9, t.slot + 1, 77⟩] })
    let u := s.mapCsr (fun c => { c with schk := true })
    pendingOf s 9 = some ⟨9, s.core.th.slot + 1, 77⟩ ∧ hazard s 10 = false ∧ srqPending s 9 = false ∧ srqPending s 10 = false ∧
    s.csr.schk = false ∧ pendingOf u 9 = some ⟨9, u.core.th.slot + 1, 77⟩ ∧ hazard u 10 = false ∧ u.csr.schk = true ∧
    (∀ i ∈ [Instr.add 8 9 10 0, .add 8 10 9 0], (∀ r ∈ u.readsOf i, srqPending u r = false) ∧ ∃ r ∈ u.readsOf i, hazard u r = true) ∧
    memoryQueued 1 s = false ∧ acquiresQueued s = false ∧ (readG s 9).getLsbD 0 = true ∧ (readG s 9 + 1).getLsbD 0 = false ∧
    (77 + (0 : Word)).getLsbD 0 = true ∧ (77 + (1 : Word)).getLsbD 0 = false := by
  decide +kernel

/-- 10 R262; 07 R177: after `vredsum g9, v8, g10` the register g9 waits for its result; with a vector load of class 0 or 15
queued, accesses of that class wait; with a read of a gated register queued, every ordered access. -/
theorem test_witness_ScalarWaitsForQueue :
    let s := after (.vredsum 9 8 10 false 0) user
    let q (c : BitVec 4) : State := after (.vld32 8 7 c false 0) user
    srqPending s 9 = true ∧ srqPending s 10 = false ∧
    (∀ i ∈ [Instr.add 8 9 10 0, .add 8 10 9 0, .ewait 8 10 9 0 0 0 0], ∃ r ∈ s.readsOf i, srqPending s r = true) ∧ memoryQueued 1 (q 0) = true ∧ memoryQueued 0x8000 (q 15) = true ∧
    memoryQueued 0x8000 (q 0) = false ∧ acquiresQueued (q 0) = false ∧
    acquiresQueued (after (.vaddVv 8 10 12 false 0) (user.mapCsr (fun c => { c with vfemask := 0x400 }))) = true ∧ (q 0).ready [7, 9] = true ∧ (q 15).ready [7, 9] = true ∧ (9 : Reg) ≠ 0 := by decide +kernel

theorem test_witness_CsrAccessTraps : csrLevel 0x7FF = none ∧ csrLevel 0x100 = some .supervisor ∧
    user.core.level.num < Level.supervisor.num ∧ csrLevel 0x310 = some .firmware ∧
    supervisor.core.level.num < Level.firmware.num ∧ user.ready [9] = true := by decide +kernel

/-- 05 R130; 17 R386; 21 R453: a register that does not wait with a full queue, one that does with an empty one, at the lowest level
that reaches each; one that does wait; a write of VTAGS1 that gives v17 and v31, both unloaded, a tag. -/
theorem test_witness_CsrResults :
    let s := after (.vaddVv 8 10 12 false 0) user
    csrLevel 0x002 = some .user ∧ csrSync 0x002 = false ∧ vecBusy s = true ∧ s.ready [9] = true ∧ csrFirstUse 0x002 3 s = none ∧
    csrWriteWaits 0x002 3 s = false ∧ csrLevel 0x018 = some .user ∧ csrSync 0x018 = true ∧ vecBusy user = false ∧
    csrFirstUse 0x018 3 user = none ∧ csrWriteWaits 0x018 3 user = false ∧ csrLevel 0x100 = some .supervisor ∧
    Level.supervisor.num ≤ supervisor.core.level.num ∧ vecBusy s = true ∧ csrSync 0x018 = true ∧ csrLevel 0x070 = some .user ∧
    (let u := user.mapCsr (fun c => { c with vloaded := 0x10000 })
     csrLevel 0x016 = some .user ∧ u.core.level = .user ∧ (0x016 : Nat) = 0x015 + 17 / 16 ∧ u.csr.vloaded.getLsbD 17 = false ∧
       (Tag.ofCode (0x1FFFFFFFFFFFFF1F / 2 ^ (4 * (17 % 16)) % 16)).isSome = true ∧ u.csr.vloaded.getLsbD 16 = true ∧
       csrFirstUse 0x016 0x1FFFFFFFFFFFFF1F u = some 17) := by decide +kernel

/-- 05 R124: the greatest and the least offset of each width. -/
theorem test_witness_ScalarLoadResults : user.ready [7] = true ∧ acquiresQueued user = false ∧ memoryQueued 1 user = false ∧ memoryQueued 0x8000 user = false ∧
    (9 : Reg) ≠ 0 ∧ ∀ z ∈ [1, 2, 4, 8], ∀ o ∈ [(63 : BitVec 7), 64],
    reaches user .read (readG user 7 + o.signExtend 64 * BitVec.ofNat 64 z) z false = true := by decide +kernel

theorem test_witness_ScalarStoreResults : user.ready [7, 9] = true ∧ acquiresQueued user = false ∧ memoryQueued 1 user = false ∧ memoryQueued 0x8000 user = false ∧
    (9 : Reg) ≠ 0 ∧ ∀ z ∈ [1, 2, 4, 8], ∀ o ∈ [(63 : BitVec 7), 64],
    reaches user .write (readG user 7 + o.signExtend 64 * BitVec.ofNat 64 z) z false = true := by decide +kernel

/-- 05 R125: one byte past alignment, an unmapped address, the last poisoned byte. -/
theorem test_witness_ScalarAccessTraps : user.ready [7, 9, 10] = true ∧ acquiresQueued user = false ∧ memoryQueued 1 user = false ∧
    memoryQueued 0x8000 user = false ∧ (∀ z ∈ [2, 4, 8], (readG user 7 + 1).toNat % z ≠ 0) ∧
    (∀ z ∈ [1, 2, 4, 8], ∀ acc ∈ [Acc.read, .write, .rw], misses user acc 0x40000000000 z = true) ∧
    (∀ z ∈ [1, 2, 4, 8], ∀ acc ∈ [Acc.read, .rw], reaches poisoned acc (0x2000000020 - BitVec.ofNat 64 z) z true = true) := by
  decide +kernel

/-- 22 R461: a store that ends where the page of request words begins, and one that begins where it ends. -/
theorem test_witness_StoredBytesReadBack : user.memOk ∧ dspLoc + reqOff - 8 + 8 ≤ dspLoc + reqOff ∧
    (∀ k < 8, locPresent user.dev (dspLoc + reqOff - 8 + k) = true) ∧ dspLoc + 0x03FFF000 ≤ dspLoc + 0x03FFF000 ∧
    (∀ k < 8, locPresent user.dev (dspLoc + 0x03FFF000 + k) = true) ∧ (dspLoc : Nat) < dspLoc + reqOff - 8 := by
  refine ⟨?_, ?_⟩
  · show user.dev.mem.wf = true
    decide +kernel
  · decide +kernel

/-- The user thread with the A and D bits of its one leaf clear. -/
def untouched : State := { user with dev := { user.dev with
  mem := { user.dev.mem with cells := cellSet user.dev.mem.cells placeRoot.toNat 0x1F } } }

/-- 20 R436: the first write of a page sets A and D: its place names the entry, and no other location. -/
theorem test_witness_TranslationKeepsMemory : untouched.memOk ∧
    found (translate untouched untouched.ctx untouched.dtlb .write 0x2000000000)
      (fun _ p => p.ad == some (placeRoot.toNat, 96)) = true := by
  refine ⟨?_, ?_⟩
  · show untouched.dev.mem.wf = true
    decide +kernel
  · decide +kernel

/-- 06 R152: the members of VCFG in their three spellings. -/
theorem test_witness_VcfgResults : user.ready [9, 10] = true ∧ (9 : Reg) ≠ 0 := by decide +kernel

/-! ### Witnesses: the vector unit -/

/-- An entry that is no use but to fill the queue. -/
def filler (srq : List Reg) : VEntry :=
  { desc := descOf .vempty 8 0 .none false, pc := 0, x1 := 0, x2 := 0, x3 := 0, vl := 0, vtype := 0xFF18, granted := 1, frm := 0
    ftz := false, progress := 0, abandoned := false, stage := .queued, popped := false, srq := srq, results := [], since := 0, din := 0
    ctx := ⟨0, 0, .user, 0, 0, 0⟩, cat := false, banked := false, spin := 1024, otag := none }

/-- The vector instruction in execution that an instruction queued by a state becomes. -/
def vx (i : Instr) (s : State) : VX :=
  let t := after i s
  VX.of t (t.core.th.viq.getLastD (filler []))

/-- A thread whose vl is 3, its operation type I32 or the one of a working tag's code. -/
def vec (tag : Nat) : State :=
  let s := withQueue [] (BitVec.ofNat 64 (0xFF18 + tag * 2 ^ 19)) 3 user
  s.mapTh (fun t => { t with v := Vector.ofFn (fun (r : Fin 32) =>
    { t.v[r] with bits := BitVec.ofNat 16384 (0x3F8000004000000040400000 + r.val), tag := (Tag.ofCode tag).getD .i32 }) })

/-- A state whose register v8 is poisoned in its second 32-bit element. -/
def vecBad : State := (vec 0).mapTh (fun t => { t with v := t.v.set 8 { t.v[8] with poison := 4 } })

/-- The hypotheses of `Runs`, decided. -/
def runsOk (x : VX) (w : Nat) (srcs : List (Nat × Nat)) : Bool :=
  decide (x.start < x.vl) && decide (x.vlen ≤ 16384) && decide (x.vl ≤ capacity x.vlen w x.grp) && decide (x.vd + x.grp ≤ 32) &&
    (List.range x.vl).all (fun i => !x.active w i || srcs.all (fun p => !x.bad p.1 p.2 i))

theorem runsOk_spec {x w srcs} (h : runsOk x w srcs = true) : Runs x w srcs := by
  simp only [runsOk, Bool.and_eq_true, decide_eq_true_eq, List.all_eq_true, List.mem_range, Bool.or_eq_true, Bool.not_eq_true'] at h
  obtain ⟨⟨⟨⟨a, b⟩, c⟩, d⟩, e⟩ := h
  refine ⟨a, b, c, d, fun i hi ha p hp => ?_⟩
  rcases e i hi with h | h
  · rw [ha] at h; cases h
  · exact h p hp

/-- The bounds of `Clean`, and that every register is whole, decided. -/
def cleanOk (x : VX) (w : Nat) : Bool :=
  decide (x.start < x.vl) && decide (x.vlen ≤ 16384) && decide (x.vl ≤ capacity x.vlen w x.grp) && decide (x.vd + x.grp ≤ 32) &&
    x.t.v.toList.all (fun r => r.poison == 0)

theorem sound_spec {x : VX} (h : x.t.v.toList.all (fun r => r.poison == 0) = true) : ∀ r, (vreg x.t r).poison = 0 := by
  intro r
  by_cases hr : r < 32
  · have hv : vreg x.t r = x.t.v[r] := by simp [vreg, Vector.getD, Array.getD, hr]
    rw [hv]
    simpa using List.all_eq_true.mp h (x.t.v[r]) (by simp)
  · simp [vreg, Vector.getD, Array.getD, hr, VReg.zero]

theorem cleanOk_spec {x w} (h : cleanOk x w = true) : Clean x w := by
  simp only [cleanOk, Bool.and_eq_true, decide_eq_true_eq] at h
  exact ⟨h.1.1.1.1, h.1.1.1.2, h.1.1.2, h.1.2, sound_spec h.2⟩

/-- The bounds of `Fits`, decided. -/
def fitsOk (x : VX) (base w : Nat) : Bool :=
  decide (x.vlen ≤ 16384) && decide (base + x.grp ≤ 32) && decide (x.vl ≤ capacity x.vlen w x.grp)

theorem fits_spec {x : VX} {base w} (h : fitsOk x base w = true) : x.Fits base w := by
  simp only [fitsOk, Bool.and_eq_true, decide_eq_true_eq] at h
  exact ⟨h.1.1, h.1.2, h.2⟩

/-- 10 R260, R262: 63 entries and 64, 15 pending results and 16; `vsetty` with the least and the greatest code that is no
reserved one, in a 32-bit form, an XV form and an XVI form. -/
theorem test_witness_VectorInstructionsEnterQueue :
    (∃ f bs, formOf (.vredsum 9 8 10 false 0) = some f ∧ encode (.vredsum 9 8 10 false 0) = some bs ∧ user.ready f.reads = true ∧
      (∀ c, f.desc.op = .setty c → (Tag.ofCode c.toNat).isSome) ∧
      (let s := withQueue (List.replicate 15 (filler [11])) 0xFF18 3 user
       s.core.th.viq.length < 64 ∧ srqUsed s + f.ports.res.length ≤ 16 ∧ s.ready f.reads = true) ∧
      (let s := withQueue (List.replicate 16 (filler [11])) 0xFF18 3 user
       16 < srqUsed s + f.ports.res.length ∧ s.ready f.reads = true) ∧
      (let s := withQueue (List.replicate 63 (filler [])) 0xFF18 3 user
       s.core.th.viq.length < 64 ∧ srqUsed s + f.ports.res.length ≤ 16 ∧ s.ready f.reads = true) ∧
      (let s := withQueue (List.replicate 64 (filler [])) 0xFF18 3 user
       64 ≤ s.core.th.viq.length ∧ s.ready f.reads = true)) ∧
    (formOf (.vsetty 8 0 0)).isSome = true ∧ (Tag.ofCode 0).isSome = true ∧ (Tag.ofCode 6).isSome = true ∧
    (formOf (.xv 0 0x2A 0 0 0x0F 0 true 4 24 16 8 0)).isSome = true ∧ (formOf (.xvi 0x28 13 13 3 0xE0 0)).isSome = true := by
  refine ⟨⟨_, _, rfl, rfl, ?_⟩, ?_⟩
  · refine ⟨by decide +kernel, ?_, by decide +kernel⟩
    intro c h; cases h
  · decide +kernel

/-- 06 R145: `vadd` and `vmac` at the head of the queue, with three elements. -/
theorem test_witness_VectorIntegerRetires : ∀ i ∈ [Instr.vaddVv 8 10 12 false 0, .vmacVv 8 10 12 false 0],
    let s := (after i (vec 0)).mapCsr (fun c => { c with catctl := 0 })
    ∃ e o, headEntry s = some e ∧ e.desc.op = .int o ∧ e.stage = .queued ∧ e.srq = [] ∧ s.core.th.streams = [] ∧
      s.csr.vfemask = 0 ∧ s.csr.catctl.getLsbD 0 = false ∧ (VX.of s e).checks (VX.of s e).shape false = none ∧
      Runs (VX.of s e) 32 (((VX.of s e).va, 32) :: (VX.of s e).bSrcs ++
        (if o = .mac then [((VX.of s e).vd, ((VX.of s e).tag e.desc.vd).width)] else [])) := by
  intro i hi
  simp only [List.mem_cons, List.mem_nil_iff, or_false] at hi
  rcases hi with rfl | rfl
  all_goals
    refine ⟨_, _, rfl, rfl, by decide +kernel, by decide +kernel, by decide +kernel, by decide +kernel, by decide +kernel,
      by decide +kernel, runsOk_spec (by decide +kernel)⟩

/-- 06 R154, R157: a merge, the three spellings of `vmv`, and `vsetty` with the last code. -/
theorem test_witness_VectorIntegerOperations : ((16 = 16 ∨ 16 = 32 ∨ 16 = 64) ∧ (64 = 16 ∨ 64 = 32 ∨ 64 = 64)) ∧
    (let x := vx (.vmergeVv (8, true) 10 12 0) (vec 0)
     x.start < x.vl ∧ x.Fits x.vd 32 ∧ ∀ i < x.vl, ∀ p ∈ (x.va, 32) :: x.bSrcs, x.bad p.1 p.2 i = false) ∧
    (let x := vx (.vmvVv 8 10 false 0) (vec 0)
     x.e.desc.b = .none ∧ Runs x 32 [(x.va, 32)]) ∧
    (let x := vx (.vmvVs 8 9 false 0) (vec 0)
     x.e.desc.b = .gpr ∧ Runs x x.wtag.width []) ∧
    (let x := vx (.vmvVi 8 9 false 0) (vec 0)
     x.e.desc.b = .imm5 9 ∧ Runs x x.wtag.width []) ∧ (Tag.ofCode 6).isSome = true :=
  ⟨by decide, ⟨by decide +kernel, fits_spec (by decide +kernel), by decide +kernel⟩,
    ⟨rfl, runsOk_spec (by decide +kernel)⟩, ⟨rfl, runsOk_spec (by decide +kernel)⟩, ⟨rfl, runsOk_spec (by decide +kernel)⟩, rfl⟩

/-- 06 R158 to R161: an addition, a fused form with its old destination, a conversion and a compare of three F32 elements. -/
theorem test_witness_VectorFloatElements :
    (let x := vx (.vfaddVv 8 10 12 false 0) (vec 5)
     Runs x 32 ((x.va, 32) :: x.bSrcs)) ∧
    (let x := vx (.vfmaccVv 8 10 12 false 0) (vec 5)
     Runs x 32 ((x.va, 32) :: x.bSrcs ++ [(x.vd, (x.tag x.e.desc.vd).width)])) ∧
    (let x := vx (.vfcvt 8 (10, none) false 0) (vec 5)
     Runs x x.wtag.width [(x.va, 32)]) ∧
    (let x := vx (.vfltVv 8 10 12 false 0) (vec 5)
     Runs x 32 ((x.va, 32) :: x.bSrcs) ∧ x.vd + x.ms ≤ 16 ∧ x.vl ≤ 1024 * x.ms) ∧
    (Tag.f64.isInt = false ∧ unpack f64 false 0x7FF0000000000001 = .nan false false 1 ∧ unpack f64 false 0xFFF0000000000000 = .inf true ∧
      unpack f64 false 0x7FF0000000000000 = .inf false ∧ unpack f64 false 0 = .num false 0 (-1074) ∧
      unpack f64 false 0x8000000000000001 = .num true 1 (-1074)) ∧
    (Tag.i16.isInt = true ∧ Tag.i16.width ≤ Tag.i64.width ∧ 0xFFFF < 2 ^ Tag.i16.width ∧ Tag.f32 ≠ Tag.f64) :=
  ⟨runsOk_spec (by decide +kernel), runsOk_spec (by decide +kernel), runsOk_spec (by decide +kernel),
    ⟨runsOk_spec (by decide +kernel), by decide +kernel, by decide +kernel⟩, by decide +kernel, by decide +kernel⟩

/-- 06 R173: the second element is poisoned in the first source, in the second, and in the old destination of a fused form; a compare, a
conversion and a move. -/
theorem test_witness_PoisonStopsAtElement :
    let at_ (x : VX) (w : Nat) (pre : List (Nat × Nat)) (r : Nat × Nat) : Prop := 1 < x.vl ∧ x.Fits x.vd w ∧
      (∀ y ∈ pre, x.bad y.1 y.2 1 = false) ∧ x.bad r.1 r.2 1 = true ∧ x.active w 1 = true ∧ ∀ y ∈ pre ++ [r], x.bad y.1 y.2 0 = false
    let second := vx (.vaddVv 12 10 8 false 0) vecBad
    let old := vx (.vmacVv 8 10 12 false 0) vecBad
    let cmp := vx (.vseqVv 3 8 10 false 0) vecBad
    let mv := vx (.vmvVv 12 8 false 0) vecBad
    at_ (vx (.vaddVv 12 8 10 false 0) vecBad) 32 [] (8, 32) ∧
    (at_ second 32 [(10, 32)] (8, 32) ∧ (second.va, 32) :: second.bSrcs = [(10, 32)] ++ (8, 32) :: []) ∧
    (at_ old 32 [(10, 32), (12, 32)] (8, 32) ∧
      (old.va, 32) :: old.bSrcs ++ [(old.vd, (old.tag old.e.desc.vd).width)] = [(10, 32), (12, 32)] ++ (8, 32) :: []) ∧
    (at_ cmp 32 [] (8, 32) ∧ cmp.vd + cmp.ms ≤ 16 ∧ cmp.vl ≤ 1024 * cmp.ms) ∧
    at_ (vx (.vfcvt 12 (8, none) false 0) vecBad) 32 [] (8, 32) ∧ (at_ mv 32 [] (8, 32) ∧ mv.e.desc.b = .none) :=
  ⟨⟨by decide +kernel, fits_spec (by decide +kernel), by decide +kernel⟩,
    ⟨⟨by decide +kernel, fits_spec (by decide +kernel), by decide +kernel⟩, by decide +kernel⟩,
    ⟨⟨by decide +kernel, fits_spec (by decide +kernel), by decide +kernel⟩, by decide +kernel⟩,
    ⟨⟨by decide +kernel, fits_spec (by decide +kernel), by decide +kernel⟩, by decide +kernel⟩,
    ⟨by decide +kernel, fits_spec (by decide +kernel), by decide +kernel⟩,
    ⟨by decide +kernel, fits_spec (by decide +kernel), by decide +kernel⟩, rfl⟩

/-- 02 Table 02-10: for each row of the vector unit a state in which it is the first that fails; v31 and v0 are not loaded. -/
theorem test_witness_VectorChecksInOrder :
    (let x := vx (.vaddVv 8 10 12 false 0) (withQueue [] 0xFF19 3 (vec 0))
     (x.checks x.shape false).isNone = true) ∧
    (let x := vx (.vaddVv 9 10 12 false 0) (withQueue [] 0xFF19 3 (vec 0))
     (x.checks x.shape false).map (·.1) = some .illegal) ∧
    (let x := vx (.vcompress 8 8 false 0) (vec 0)
     (x.checks x.shape false).map (·.1) = some .overlap) ∧
    (let x := vx (.vaddVv 8 10 12 false 0) ((withQueue [] 0xFF98 3 (vec 0)).mapTh (fun t => { t with v := t.v.set 12 { t.v[12] with tag := .i64 } }))
     (x.checks x.shape false).map (·.1) = some .fmt) ∧
    (let x := vx (.vaddVv 8 31 0 false 0) ((vec 0).mapCsr (fun c => { c with vloaded := 0x7FFFFFFE }))
     x.checks x.shape false = some (.firstuse, 0)) ∧
    (let x := vx (.vaddVv 8 31 1 false 0) ((vec 0).mapCsr (fun c => { c with vloaded := 0x7FFFFFFE }))
     x.checks x.shape false = some (.firstuse, 31)) := by decide +kernel

/-- 06 R168 to R170: a slide by less than vl and one by vl, `vcompress` from element 0, `vins` inside and outside vl. -/
theorem test_witness_VectorPermutationResults :
    Clean (vx (.vslideup 8 10 9 false 0) (vec 0)) 32 ∧ (vx (.vslideup 8 10 0 false 0) (vec 0)).e.x2.toNat < 3 ∧
    (vx (.vslideup 8 10 9 false 0) (vec 0)).vl ≤ (vx (.vslideup 8 10 9 false 0) (vec 0)).e.x2.toNat ∧
    Clean (vx (.vcompress 8 10 false 0) (vec 0)) 32 ∧ (vx (.vcompress 8 10 false 0) (vec 0)).start = 0 ∧
    Clean (vx (.vsplat 8 9 false 0) (vec 0)) (vx (.vsplat 8 9 false 0) (vec 0)).wtag.width ∧
    Clean (vx (.vins 8 9 0 false 0) (vec 0)) 32 ∧
    (vx (.vins 8 9 0 false 0) (vec 0)).active 32 (vx (.vins 8 9 0 false 0) (vec 0)).e.x2.toNat = true ∧
    (vx (.vins 8 9 9 false 0) (vec 0)).active 32 (vx (.vins 8 9 9 false 0) (vec 0)).e.x2.toNat = false ∧
    ∀ r, (vreg (vx (.vext 9 8 10 0) (vec 0)).t r).poison = 0 :=
  ⟨cleanOk_spec (by decide +kernel), by decide +kernel, by decide +kernel, cleanOk_spec (by decide +kernel), by decide +kernel,
    cleanOk_spec (by decide +kernel), cleanOk_spec (by decide +kernel), by decide +kernel, by decide +kernel,
    sound_spec (by decide +kernel)⟩

/-- A state whose mask register m1 has bit 2 set and m2 none. -/
def masked : State := (vec 0).mapTh (fun t => { t with m := t.m.set 1 4 })

/-- 06 R171: the first active set bit at the last position, and none. -/
theorem test_witness_VectorMaskResults :
    (let x := vx (.mfirst 9 1 0) masked
     x.active 32 2 = true ∧ maskBit x.t x.va 2 = true ∧ (∀ j < 2, maskBit x.t x.va j = false) ∧ 2 < x.vl) ∧
    (let x := vx (.mfirst 9 2 0) masked
     ∀ j < x.vl, maskBit x.t x.va j = false) ∧
    (let x := vx (.mand 15 1 2 0) masked
     x.vd + x.ms ≤ 16 ∧ x.vl ≤ 1024 * x.ms) ∧
    Clean (vx (.mtov 8 1 0) masked) (vx (.mtov 8 1 0) masked).wtag.width :=
  ⟨by decide +kernel, by decide +kernel, by decide +kernel, cleanOk_spec (by decide +kernel)⟩

/-- 06 R162: no active element, and three under REP = 1 over all dies. -/
theorem test_witness_VectorReductionResults :
    (∀ r, (vreg (vx (.vredsum 9 8 10 false 0) (vec 0)).t r).poison = 0) ∧
    (let x := vx (.vfredsum 9 8 10 true 0) (vec 5)
     ((List.range x.vl).filter (x.active 32)) = []) ∧
    (let x := vx (.vfredsum 9 8 10 false 0) (withQueue [] 0x28FF58 3 (vec 5))
     ((List.range x.vl).filter (x.active 32)) ≠ [] ∧ vtRep x.e.vtype = true ∧ x.oneDie = none) ∧
    Clean (vx (.vscan 8 10 false 0) (vec 0)) 32 ∧
    (let x := vx (.vsmx 8 10 9 true 0) (vec 5)
     ∀ i < x.vl, x.active 32 i = false) :=
  ⟨sound_spec (by decide +kernel), by decide +kernel, by decide +kernel, cleanOk_spec (by decide +kernel), by decide +kernel⟩

/-- 06 R162 to R167: a maximum of three numbers, and with a NaN as its initial value; a sum under REP = 0, and under REP = 1 over one
die; the two scans; `vsmx` of finite elements, with a NaN as its old maximum, and of elements that are all minus infinity. -/
theorem test_witness_VectorReductionResults_float :
    let nan := writeG (vec 5) 10 0x7FC00001
    let max (s : State) : VX := vx (.vfredmax 9 8 10 false 0) s
    let vals (s : State) : List Fv :=
      (((max s).e.x2.toNat % 2 ^ 32) :: ((max s).actives 32).map (fun i => (widen .f32 false ((max s).el (max s).va 32 i)).1)).map (unpack f32 false)
    let one := vx (.vfredsum 9 8 10 false 0) (withQueue [] 0x280158 3 (vec 5))
    let smx (s : State) : VX := vx (.vsmx 8 10 9 false 0) s
    let low := (vec 5).mapTh (fun t => { t with v := t.v.set 10 { t.v[10] with bits := BitVec.ofNat 16384 0xFF800000FF800000FF800000 } })
    (vals (vec 5)).length = 4 ∧ (∀ v ∈ vals (vec 5), v.isNan = false) ∧
    (vals nan).head? = some (.nan false true 0x8000020000000) ∧
    vtRep (max (vec 5)).e.vtype = false ∧ vtRep one.e.vtype = true ∧ one.oneDie = some 0 ∧ one.actives 32 ≠ [] ∧
    Clean (vx (.vfscan 8 10 false 0) (vec 5)) 32 ∧ Clean (smx (vec 5)) 32 ∧ (smx (vec 5)).actives 32 = [0, 1, 2] ∧
    (redMinMax f32 false true (3 :: ((smx (vec 5)).actives 32).map (fun i => (widen .f32 false ((smx (vec 5)).el 10 32 i)).1))).1 = 0x4040000A ∧
    (unpack f32 false (redMinMax f32 false true [0x7FC00001, 0x40000000]).1).isNan = true ∧
    unpack f32 false (redMinMax f32 false true (0xFF800000 :: ((smx low).actives 32).map
      (fun i => (widen .f32 false ((smx low).el 10 32 i)).1))).1 = .inf true :=
  ⟨by decide +kernel, by decide +kernel, by decide +kernel, by decide +kernel, by decide +kernel, by decide +kernel, by decide +kernel,
    cleanOk_spec (by decide +kernel), cleanOk_spec (by decide +kernel), by decide +kernel, by decide +kernel, by decide +kernel,
    by decide +kernel⟩

/-- A result that is one, whatever its error carries. -/
def isOkR {α ε : Type} : State × Except ε α → Bool
  | (_, .ok _) => true
  | _ => false

theorem okR_spec {α ε : Type} {r : State × Except ε α} (h : isOkR r = true) : ∃ t v, r = (t, .ok v) := by
  obtain ⟨s, _ | v⟩ := r
  · simp [isOkR] at h
  · exact ⟨s, v, rfl⟩

/-- 07 R174: one element that is misaligned, unmapped, or reached; and two of which the second lies beyond the mapped 4 TiB. -/
theorem test_witness_VectorMemoryResults :
    (let x := vx (.vld32 8 7 0 false 0) (withQueue [] 0xFF18 1 (vec 0))
     Clean x 32 ∧ x.actives 32 = [0] ∧ reaches x.s .read x.e.x1 4 false = true ∧
       found (translate x.s x.e.ctx (x.s.vtlb 0) .read x.e.x1) (fun _ _ => true) = true ∧
       found (translate x.s x.e.ctx (x.s.vtlb 0) .write x.e.x1) (fun _ _ => true) = true) ∧
    (let x := vx (.vld32 8 9 0 false 0) (withQueue [] 0xFF18 1 (vec 0))
     Clean x 32 ∧ x.actives 32 = [0] ∧ x.e.x1.toNat % 4 ≠ 0) ∧
    (let x := vx (.vld32 8 9 0 false 0) (withQueue [] 0xFF18 1 (writeG (vec 0) 9 0x40000000000))
     Clean x 32 ∧ x.actives 32 = [0] ∧ x.e.x1.toNat % 4 = 0 ∧
       failed (translate x.s x.e.ctx (x.s.vtlb 0) .read x.e.x1) = true ∧
       failed (translate x.s x.e.ctx (x.s.vtlb 0) .write x.e.x1) = true) ∧
    (let x := vx (.vldff32 8 9 0 false 0) (withQueue [] 0xFF18 2 (writeG (vec 0) 9 0x3FFFFFFFFFC))
     Clean x 32 ∧ x.actives 32 = [0, 1] ∧ (x.e.x1 + 4).toNat % 4 = 0 ∧
       found (translate x.s x.e.ctx (x.s.vtlb 0) .read x.e.x1) (fun t p =>
         failed (translate (noteLoadOn 0 0 p (setAD p t)) x.e.ctx (t.vtlb 0) .read (x.e.x1 + 4))) = true) := by
  refine ⟨⟨cleanOk_spec ?_, ?_⟩, ⟨cleanOk_spec ?_, ?_⟩, ⟨cleanOk_spec ?_, ?_⟩, cleanOk_spec ?_, ?_⟩ <;> decide +kernel

/-- A step over elements as `Performs` takes it. -/
theorem performs_one {σ α ε : Type} {f : σ → Nat → σ × Except ε α} {s t : σ} {i : Nat} {v : α} (h : f s i = (t, .ok v)) :
    Performs f s [i] t [(i, v)] := .cons h (.nil t)

/-- 07 R183 to R187: groups of 32, of which the first is whole; a misaligned block, one that is mapped and one that is not; FP16 and
record forms over registers that fit; and, for all of them, an element that performs and one that fails. -/
theorem test_witness_VectorMemoryResults_formats :
    let q (g7 : Word) : VX := vx (.vldq 8 7 false 0 255 false 0 0 0) (withQueue [] 0xFF18 3 (writeG (vec 5) 7 g7))
    let w (g7 : Word) : VX := vx (.vstq 8 7 false 0 255 false 0 0 0) (withQueue [] 0xFF18 3 (writeG (vec 5) 7 g7))
    let f := vx (.vldf16 8 7 255 false 0 0 0) (vec 5)
    let g := vx (.vlseg 8 7 2 2 255 false 0 0 0) (vec 5)
    (q 0x2000000000).Fits 8 32 ∧ (q 0x2000000000).actives (q 0x2000000000).wtag.width = [0, 1, 2] ∧
    (q 0x2000000000).e.x1.toNat % 4 = 0 ∧ (q 0x2000000002).e.x1.toNat % 4 ≠ 0 ∧
    isOkR ((q 0x2000000000).qRead false 32 (q 0x2000000000).s 0) = true ∧ isOkR ((q 0x40000000000).qRead false 32 (q 0x40000000000).s 0) = false ∧
    isOkR ((w 0x2000000000).qWrite false 0 0 (w 0x2000000000).s) = true ∧ isOkR ((w 0x40000000000).qWrite false 0 0 (w 0x40000000000).s) = false ∧
    f.Fits 8 f.wtag.width ∧ (g.vlen ≤ 16384 ∧ g.vd + 3 * g.grp ≤ 32 ∧ g.vl ≤ capacity g.vlen g.wtag.width g.grp) ∧
    isOkR (g.segPlaces 3 4 32 .read 0 [0, 1, 2] g.s) = true ∧
    (∃ t v, Performs (fun s (_ : Nat) => (q 0x2000000000).qRead false 32 s 0) (q 0x2000000000).s [0] t [(0, v)]) := by
  refine ⟨fits_spec ?_, ?_, ?_, ?_, ?_, ?_, ?_, ?_, fits_spec ?_, ?_, ?_, ?_⟩
  case refine_12 =>
    obtain ⟨t, v, h⟩ := okR_spec (show isOkR ((vx (.vldq 8 7 false 0 255 false 0 0 0) (withQueue [] 0xFF18 3
      (writeG (vec 5) 7 0x2000000000))).qRead false 32 (vx (.vldq 8 7 false 0 255 false 0 0 0) (withQueue [] 0xFF18 3
      (writeG (vec 5) 7 0x2000000000))).s 0) = true by decide +kernel)
    exact ⟨t, v, performs_one h⟩
  all_goals decide +kernel

/-! ### Witnesses: system functions, fences, synchronisation -/

/-- 05 R133 to R138; 20 R432: causes pending and none; every return that is allowed at its boundary; handlers with an even and an
odd return address. -/
theorem test_witness_SystemFunctionResults :
    let woken := { supervisor with core := { supervisor.core with hostint := some 5 } }
    let status (l : Level) (v : Word) : State :=
      { supervisor with core := { supervisor.core with level := l, sup := { supervisor.core.sup with sstatus := v } } }
    let handler (pc : Word) : State := user.mapTh (fun t => { t with
      bank := some (Vector.replicate 8 0), csr := { t.csr with utActive := true, utpc := pc } })
    supervisor.core.level ≠ .user ∧ asyncPending woken = true ∧ asyncPending supervisor = false ∧
    (∀ p ∈ [(Level.supervisor, (1 : Word)), (.supervisor, 0x1FD), (.firmware, 2)],
      ¬((status p.1 p.2).core.level = .supervisor ∧ (status p.1 p.2).core.sup.sstatus.toNat % 4 = 2) ∧
      (status p.1 p.2).core.sup.sstatus.getLsbD 9 = false ∧ (status p.1 p.2).core.level ≠ .user) ∧
    (handler 0x1001).csr.utActive = true ∧ (handler 0x1001).csr.utpc.getLsbD 0 = true ∧ (handler 0x1000).csr.utpc.getLsbD 0 = false ∧
    utFirst (handler 0x1000).core.th = none ∧ (handler 0x1000).core.th.uvec = none := by decide +kernel

/-- A lock the user thread holds. -/
def lockOf (n : Word) (m : Mode) : LockEntry := ⟨meHolder user, myAge user, user.core.th.tid, n, m, none⟩

/-- The user thread with the Curator's table and queue given. -/
def locked (held : List LockEntry) (queue : List LockReq) : State := mapCur (fun c => { c with held := held, queue := queue }) user

/-- 05 R135: two locks held, and none with the queue full and empty. -/
theorem test_witness_KendResults : user.csr.utActive = false ∧ user.ready [] = true ∧
    lowestName (myLocks (locked [lockOf 0x30000 .x, lockOf 0x20000 .x] [])) = some 0x20000 ∧
    myLocks user = [] ∧ kendReady user = true ∧ kendReady (withQueue [filler []] 0xFF18 3 user) = false ∧
    myLocks (withQueue [filler []] 0xFF18 3 user) = [] := by decide +kernel

/-- 05 R142: a load of class 3 queued, asked for its class and for another. -/
theorem test_witness_FenceResults :
    let s := after (.vld32 8 7 3 false 0) user
    memoryQueued 8 s = true ∧ memoryQueued 0xFFF7 s = false ∧ s.ready [] = true ∧ (1 : BitVec 4).toNat < 2 ∧ user.ready [7] = true := by
  decide +kernel

/-- 07 R188: every width, at the last aligned address before a poisoned unit. -/
theorem test_witness_AcquireReleaseResults : poisoned.ready [7, 9] = true ∧ acquiresQueued poisoned = false ∧ ∀ w ∈ [(0 : BitVec 2), 1, 2, 3],
    reaches poisoned .read (readG poisoned 7 - BitVec.ofNat 64 (2 ^ w.toNat)) (2 ^ w.toNat) false = true ∧
    reaches poisoned .write (readG poisoned 7 - BitVec.ofNat 64 (2 ^ w.toNat)) (2 ^ w.toNat) false = true ∧
    reaches poisoned .read (readG poisoned 7) (2 ^ w.toNat) true = true ∧
    misses poisoned .read 0x40000000000 (2 ^ w.toNat) = true ∧ (w ≠ 0 → (readG poisoned 7 + 1).toNat % 2 ^ w.toNat ≠ 0) := by
  decide +kernel

theorem test_witness_AtomicResults : user.ready [7, 9, 10] = true ∧ acquiresQueued user = false ∧
    ∀ z ∈ [4, 8], reaches user .rw (readG user 7) z false = true ∧
      found (translate user user.ctx user.dtlb .rw (readG user 7)) (fun t p => !rmwQueued t p.loc z) = true := by
  decide +kernel

/-- 07 R190: the reservation in its last cycle, one cycle later, on another granule, and none. -/
theorem test_witness_LinkedResults :
    let s (r : Option (Nat × Nat)) (clk : Nat) : State :=
      { user with core := { user.core with th := { user.core.th with resv := r } }, dev := { user.dev with clk := clk } }
    let gr := 0x2000000000 / 128
    (∀ z ∈ [4, 8], reaches user .read (readG user 7) z false = true ∧
      found (translate user user.ctx user.dtlb .write (readG user 7)) (fun _ p => p.loc / 128 == gr) = true) ∧
    ((s (some (gr, 0)) 4095).core.th.resv = some (gr, 0) ∧ (s (some (gr, 0)) 4095).dev.clk < 0 + 4096) ∧
    ¬((s (some (gr, 0)) 4096).dev.clk < 0 + 4096) ∧ (s (some (gr + 1, 0)) 0).core.th.resv ≠ some (gr, 0) ∧
    (s none 0).core.th.resv = none ∧ (s none 4095).ready [7, 9] = true ∧
    acquiresQueued (s none 0) = false ∧ rmwQueued user 0x2000000000 8 = false := by decide +kernel

/-- The user thread with a future word of the CSM window full, and one of the DSP window. -/
def futures : State := { user with dev := { user.dev with mem := { user.dev.mem with full := setAdd (setAdd [] csmLoc) dspLoc } } }

/-- 07 R196, R197: words of both windows, full and empty. -/
theorem test_witness_FutureResults : futures.ready [7, 9] = true ∧ futures.core.th.wait = none ∧ futures.dev.futq = [] ∧
    acquiresQueued futures = false ∧ rmwQueued futures csmLoc 8 = false ∧ rmwQueued futures dspLoc 8 = false ∧ memoryQueued 1 futures = false ∧ memoryQueued 0x8000 futures = false ∧
    ∀ p ∈ [(2, csmBase, csmLoc), (3, dspBase, dspLoc)],
      windowOf p.2.1 = some p.1 ∧ windowOf (p.2.1 + 8) = some p.1 ∧ p.2.1 < 2 ^ 64 ∧ p.2.1 % 8 = 0 ∧
      (match windowLoc futures futures.ctx .read p.1 p.2.1, windowLoc futures futures.ctx .write p.1 p.2.1,
          windowLoc futures futures.ctx .write p.1 (p.2.1 + 8) with
        | .ok a, .ok b, .ok c => a == p.2.2 && b == p.2.2 && c == p.2.2 + 8
        | _, _, _ => false) = true ∧
      setHas futures.dev.mem.full (p.2.2 / 8 * 8) = true ∧ anyPoisoned futures.dev 8 p.2.2 = false ∧
      setHas futures.dev.mem.full ((p.2.2 + 8) / 8 * 8) = false := by decide +kernel

/-- The user thread with a barrier register of its cluster. -/
def barrier (gen : BitVec 32) (count target : BitVec 16) (arrival : Option (BitVec 3 × BitVec 32 × Word)) : State :=
  (setBar 2 ⟨gen, count, target⟩ user).mapTh (fun t => { t with arrival := arrival })

/-- 01 R33; 07 R204, R205: the last arrival and the one before it; generations at both ends of the range that counts as passed. -/
theorem test_witness_BarrierResults :
    let r (s : State) : Bar := barOf s 2
    let passed (s : State) (g : BitVec 32) : Prop := 1 ≤ ((r s).gen - g).toNat ∧ ((r s).gen - g).toNat ≤ 2 ^ 31
    let last := barrier 7 2 3 none
    let early := barrier 7 1 3 none
    let back := barrier 7 0 3 (some (2, 6, placePc))
    (r last).target = (r last).count + 1 ∧ (r last).target ≠ 0 ∧ storesQueued last = false ∧ storesQueued early = false ∧ last.ready [9] = true ∧
    (r early).target ≠ (r early).count + 1 ∧ (r early).target ≠ 0 ∧ (r (barrier 7 0 0 none)).target = 0 ∧
    gangReady 1 last = true ∧ gangReady 3 last = true ∧ (1 : BitVec 2) ≠ 0 ∧ (1 : BitVec 2) ≠ 3 ∧
    last.core.th.arrival = none ∧ passed last 6 ∧ passed last 0x80000007 ∧ ¬passed last 7 ∧ ¬passed last 0x80000006 ∧
    back.core.th.arrival = some (2, 6, placePc) ∧ passed back 6 ∧ gangReady 2 back = true := by decide +kernel

/-- A copy command of the user thread with its user tag in the record. -/
def copyOf (id : Nat) (utag : Nat) (st : CopyState) (susp : Bool) : CopyCmd :=
  { id := id, cluster := 0, record := BitVec.ofNat 512 (utag * 2 ^ 384), ctx := user.ctx, nest := user.core.th.nest
    ord := user.core.th.ord, tid := user.core.th.tid, state := st, progress := 0, suspended := susp, stopped := false, failed := 0, due := 0
    buf := [] }

/-- 08 R233 to R235: a copy that carries the tag asked for and none, a post in the queue, and counters at both ends of the range. -/
theorem test_witness_EngineScalarResults :
    let s : State := { user with dev := { user.dev with copies := [copyOf 4 3 .queued false] } }
    let w (v : Nat) : State := { user with dev := writeNat 0 8 user.dev 0x2000000000 v }
    postsQueued s = false ∧ (s.dev.copies.find? (fun c => myCopy s c && c.utag == readG s 9)).isSome = true ∧
    (∀ c ∈ s.dev.copies, myCopy s c = true → c.utag ≠ readG s 10) ∧ postsQueued (after (.epost 9 7 0) user) = true ∧
    (after (.epost 9 7 0) user).ready [10] = true ∧ s.ready [7, 9] = true ∧ s.core.th.wait = none ∧ acquiresQueued (w 3) = false ∧
    reaches (w 3) .read (readG (w 3) 7) 8 false = true ∧
    (∀ v ∈ [3, 3 + 2 ^ 31 - 1], found (translate (w v) (w v).ctx (w v).dtlb .read (readG (w v) 7)) (fun t p =>
      decide ((BitVec.ofNat 32 (readNat t.dev.mem p.key 8 p.loc) - (readG (w v) 9).setWidth 32).toNat < 2 ^ 31)) = true) ∧
    (∀ v ∈ [2, 3 + 2 ^ 31], found (translate (w v) (w v).ctx (w v).dtlb .read (readG (w v) 7)) (fun t p =>
      decide (2 ^ 31 ≤ (BitVec.ofNat 32 (readNat t.dev.mem p.key 8 p.loc) - (readG (w v) 9).setWidth 32).toNat)) = true) := by
  decide +kernel

/-- A lock of another thread. -/
def other (n : Word) (m : Mode) : LockEntry := ⟨.thread 1 7, 1, 7, n, m, none⟩

/-- 08 R245 to R249: a name that is free, taken, held, ill formed; 63 names held and 64; upgrades and downgrades that the table
has and lacks; a revocation pending. -/
theorem test_witness_LockResults :
    let n : Word := 0x50000
    let req (up : Bool) (m : Mode) : LockReq := ⟨meHolder user, myAge user, user.core.th.tid, n, m, up, false⟩
    let me := meHolder user
    (userG 9 n).ready [9] = true ∧ user.core.th.revoked = false ∧ user.core.th.wait = none ∧ nameOk n = true ∧
    (let c := user.dev.cur
     c.clear (req false .x) = true ∧ c.fits (req false .x) = true ∧ (c.needs (req false .x) = false ∨ c.used (req false .x) ≤ 32704)) ∧
    (let c := (locked [other n .x] []).dev.cur
     c.clear (req false .x) = false ∧ c.fits (req false .x) = true ∧ c.queue.contains (req false .x) = false ∧
       (c.needs (req false .x) = false ∨ c.used (req false .x) ≤ 32704)) ∧
    (let s := locked [lockOf n .s] []
     (∃ e ∈ s.dev.cur.held.filter (fun e => e.holder == me), e.name = n) ∧ upOk (s.dev.cur.explOf me n) .x = true ∧
       upOk (s.dev.cur.explOf me n) .is = false ∧ s.dev.cur.clear (req true .x) = true ∧ s.dev.cur.fits (req true .x) = true ∧
       downOk (s.dev.cur.explOf me n) .is = true ∧ downOk (s.dev.cur.explOf me n) .x = false ∧ s.dev.cur.explOf me n ≠ .nl) ∧
    user.dev.cur.explOf me n = .nl ∧ nameOk 0x00FFFFFFFFFF0001 = false ∧
    (let s := locked ((List.range 64).map (fun k => lockOf (BitVec.ofNat 64 ((k + 1) * 65536)) .s)) []
     64 ≤ (s.dev.cur.held.filter (fun e => e.holder == me)).length) ∧
    (let s := locked ((List.range 63).map (fun k => lockOf (BitVec.ofNat 64 ((k + 1) * 65536)) .s)) []
     (s.dev.cur.held.filter (fun e => e.holder == me)).length < 64) ∧
    (user.mapTh (fun t => { t with revoked := true })).core.th.revoked = true := by decide +kernel

/-- A nest record that passes the checks: one loop of one iteration, one stage of eight cores. -/
def record (flags : Nat) : Nat :=
  flags + 2 ^ 32 + 2 ^ 48 + 2 ^ 64 + 0x3000 * 2 ^ (8 * 0x28) + 0x101 * 2 ^ (8 * 0x38) + 8 * 2 ^ (8 * 0x70) + 2 ^ (8 * 0x74)

/-- The user thread with a nest record at the address in g7. -/
def posted (flags : Nat) (s : State) : State := { s with dev := writeNat 0 128 s.dev 0x2000000000 (record flags) }

/-- What a read of a record of the user form gives. -/
def posts (s : State) (f : State → BitVec 1024 → Bool) : Bool :=
  found (translate s s.ctx s.dtlb .read (readG s 7)) (fun t p =>
    f t (capPrio s.core.th.prio (BitVec.ofNat 1024 (readNat t.dev.mem p.key 128 p.loc))))

/-- 08 R250; 14 R329, R330: a record that is accepted with 127 of its priority waiting and not with 128, one for a gang, one with
no loop; the supervisor form at both levels; the queue busy and empty. -/
theorem test_witness_LaunchResults :
    let s := posted 0 user
    let room (n : Nat) (u : State) : Bool := decide ((u.dev.walker.nests.filter (fun k => k.prio == 0)).length = n)
    let full (n : Nat) (u : State) : State := { u with dev := { u.dev with walker := { u.dev.walker with
      nests := List.replicate n (newNest u u.ctx (BitVec.ofNat 1024 (record 0))) } } }
    user.core.level = .user ∧ supervisor.core.level ≠ .user ∧ reaches s .read (readG s 7) 128 false = true ∧ s.ready [7] = true ∧
    storesQueued s = false ∧ storesQueued (after (.vst32 8 7 0 false 0) s) = true ∧
    reaches (after (.vst32 8 7 0 false 0) s) .read (readG s 7) 128 false = true ∧
    posts s (fun _ q => recordOk q && !q.getLsbD 12 && !q.getLsbD 13) = true ∧
    room 127 (full 127 s) = true ∧ room 128 (full 128 s) = true ∧
    posts (posted (2 ^ 12) user) (fun _ q => q.getLsbD 12) = true ∧ posts user (fun _ q => !recordOk q && !q.getLsbD 12) = true ∧
    reaches poisoned .read (readG poisoned 7) 128 true = true ∧ (readG s 7 + 64).toNat % 128 ≠ 0 ∧
    misses s .read 0x40000000000 128 = true := by decide +kernel

/-! ### Witnesses: device events of a core -/

/-- The user thread's core as core 5, an idle core 0 having the turn. -/
def fifth (s : State) : State := { s with core := Core.start, others := [(5, s.core)] }

/-- 05 R130: a register below, at and above the level of the core that writes it. -/
theorem test_witness_CsrWriteEvents :
    csrLevel 0x311 = some .firmware ∧ user.core.level.num < Level.firmware.num ∧
    csrLevel 0x011 = some .user ∧ csrFirstUse 0x011 0xFF18 user = none ∧ csrWriteWaits 0x011 0xFF18 user = false ∧
    csrLevel 0x106 = some .supervisor ∧ Level.supervisor.num ≤ supervisor.core.level.num ∧
    csrFirstUse 0x106 0 supervisor = none ∧ csrWriteWaits 0x106 0 supervisor = false := by decide +kernel

/-- An execution that is done. -/
def isDone : VOut → Bool
  | .done _ _ _ => true
  | _ => false

theorem isDone_spec {o : VOut} (h : isDone o = true) : ∃ s fl res, o = .done s fl res := by
  cases o with
  | done s fl res => exact ⟨s, fl, res, rfl⟩
  | fault => simp [isDone] at h
  | wait => simp [isDone] at h

/-- The head of the user thread's queue changed. -/
def headAs (f : VEntry → VEntry) (s : State) : State := s.mapTh (fun t => { t with viq := t.viq.map f })

/-- 10 R261: on the core that has the turn and on another one, an entry that is queued, one that fails its checks, one that is
issued, one that is done with a result, and entries that wait. -/
theorem test_witness_VectorQueueEvents :
    let ran (i : Instr) : State := after i ((vec 0).mapCsr (fun c => { c with catctl := 0 }))
    let q := ran (.vredsum 9 8 10 false 0)
    (∀ s ∈ [q.select 0, (fifth q).select 5], s.core.th.streams = [] ∧ s.csr.vfemask = 0 ∧ s.csr.catctl.getLsbD 0 = false ∧
      ((headEntry s).map (fun e => decide (e.stage = .queued) && ((VX.of s e).checks (VX.of s e).shape false).isNone) = some true)) ∧
    (let s := (ran (.vcompress 8 8 false 0))
     (headEntry s).map (fun e => (VX.of s e).checks (VX.of s e).shape false) = some (some (.overlap, 0))) ∧
    (let s := headAs (fun e => { e with stage := .issued }) q
     (headEntry s).map (fun e => isDone (VX.of s e).run && decide (e.stage = .issued)) = some true) ∧
    (let s := headAs (fun e => { e with stage := .done, results := [(9, 44)] }) q
     (headEntry s).map (fun e => decide (e.stage = .done) && e.srq.contains 9 && e.names s.core.banked 9) = some true ∧ s.core.banked = false) ∧
    (let s := headAs (fun e => { e with since := 1 }) q
     (headEntry s).map (fun e => decide (e.since ≠ 0 ∧ e.desc.op ≠ .push)) = some true) ∧
    (let s := headAs (fun e => { e with since := 1 }) (ran (.vpush 8 9 10 1 0 0))
     (headEntry s).map (fun e => decide (e.since ≠ 0 ∧ e.desc.op = .push)) = some true) := by decide +kernel

/-- What a fetch finds is an instruction with a property. -/
def fetches (s : State) (f : Instr → Bool) : Bool :=
  match fetchPc s with
  | (_, .instr i) => f i
  | _ => false

theorem fetches_spec {s f} (h : fetches s f = true) : ∃ t i, fetchPc s = (t, .instr i) ∧ f i = true := by
  unfold fetches at h
  split at h
  · next t i heq => exact ⟨t, i, heq, h⟩
  · cases h

/-- A live user thread whose next instruction has the bits given. -/
def placed (nbits w : Nat) : State := State.reset.withFetchWord nbits w

/-- 07 R198, R204; 08 R235; 05 R134, R135: each instruction that waits at the pc of core 5, and a wait of just EMPTYSPIN cycles. -/
theorem test_witness_RetryEvents :
    (∀ p ∈ [(64, 0x0000200002CBC200, Instr.fget 11 22 0 1 0 0), (64, 0x1000200000C0C340, .bwait 0 6 1 0),
        (64, 0x100040002D49C2C0, .ewait 9 10 11 0 2 0 0), (32, 0x87C3, .nap 0), (16, 0x5400, .cKend)],
      let u := (fifth (placed p.1 p.2.1)).select 5
      u.core.run ≠ .idle ∧ u.core.run ≠ .stopped ∧ issueBlocked u = false ∧ fetches u (fun i => i == p.2.2) = true) ∧
    (let u := placed 64 0x0000200002CBC200
     let s : State := { u with core := { u.core with th := { u.core.th with wait := some ⟨0⟩ } }, dev := { u.dev with clk := 1024 } }
     headEntry s = none ∧ s.core.th.wait = some ⟨0⟩ ∧ emptyDue s s.csr.emptyspin 0 = true ∧
       emptyDue { s with dev := { s.dev with clk := 1023 } } s.csr.emptyspin 0 = false) ∧
    (let s := headAs (fun e => { e with since := 1 }) (after (.vtake 8 20 255 0) user)
     let s : State := { s with dev := { s.dev with clk := 1024 } }
     (headEntry s).map (fun e => decide (e.since ≠ 0) && emptyDue s e.spin (e.since - 1)) = some true) := by decide +kernel

/-- An input stream bound to v24 that has ended or not, and the strips it has fetched ahead. -/
def boundTo (ended : Bool) (ahead : Nat) : Binding := ⟨24, 0, 0, ended, false, ahead⟩

/-- 08 R240; 10 R271; 19 R418; 20 R434; 22 R466: one strip below the depth and none left, no binding; two registers with equal contents
and none; a fetch and a walk that find a page, one whose line is poisoned and one that finds none; a saved way that comes back, one
that is not claimed and none. -/
theorem test_witness_CoreUpkeepEvents :
    let s (tb : BitVec 16) (b : List Binding) : State := { user with core := { user.core with
      th := { user.core.th with streams := b, csr := { user.csr with tbcfg := tb } } }, dev := { user.dev with
      savedWays := [⟨wayMe user, 3, 0x2000000000⟩] } }
    user.csr.catctl = 3 ∧ (user.mapCsr (fun c => { c with catctl := 1 })).csr.catctl ≠ 3 ∧
    (equalNames 64 [(0, VReg.zero), (1, ⟨1, .i32, 0⟩), (2, VReg.zero)] = some (0, 2)) ∧ equalNames 64 [(0, VReg.zero)] = none ∧
    found (translate user user.ctx (.itlb 0) .exec placePc) (fun t p => !anyPoisoned t.dev 64 (p.loc / 64 * 64)) = true ∧
    found (translate poisoned poisoned.ctx (.itlb 0) .exec 0x2000000000) (fun t p => anyPoisoned t.dev 64 (p.loc / 64 * 64)) = true ∧
    failed (translate user user.ctx (.itlb 0) .exec 0x40000000000) = true ∧ windowOf placePc.toNat = none ∧
    windowOf dspBase ≠ none ∧
    bindingOf user.core.th 24 = none ∧ bindingOf (s 0 [boundTo false 1]).core.th 24 = some (boundTo false 1) ∧
    sdOut (boundTo false 1).desc = false ∧ (boundTo false 1).ahead < streamDepth (boundTo false 1).desc ∧
    streamDepth (boundTo false 2).desc ≤ (boundTo false 2).ahead ∧ (boundTo true 1).ended = true ∧
    user.dev.savedWays.find? (fun p => p.owner.is (wayMe user) && p.way == 3) = none ∧
    (s 0 []).csr.tbcfg.getLsbD 3 = false ∧ (s 8 []).csr.tbcfg.getLsbD 3 = true ∧
    (s 8 []).dev.savedWays.find? (fun p => p.owner.is (wayMe (s 8 [])) && p.way == 3) = some ⟨wayMe user, 3, 0x2000000000⟩ ∧
    (0x2000000000 : Nat) + 0x8000 ≤ dspLoc ∧ locPresent user.dev (waySlice 0 3 7 + 4095) = true := by
  decide +kernel

/-- 20 R431; 14 R349: each asynchronous cause as the first that is pending, at user level and at supervisor level with SIE; TIME at
TIMECMP and one tick before it; a user-level trap with and without a handler; a core that has stopped. -/
theorem test_witness_BoundaryEvents :
    let core (f : Core → Core) (s : State) : State := { s with core := f s.core }
    let handled := supervisor.mapSup (fun u => { u with sstatus := 4 })
    let due (v : Word) (s : State) : State := core (fun c => { c with sup := { c.sup with timecmp := v } }) s
    let trapped := user.mapTh (fun t => { t with utq := [⟨.engdone, 9⟩], csr := { t.csr with utvec := 0x4000 } })
    asyncNow user = false ∧ asyncEnabled user = true ∧ asyncEnabled handled = true ∧
    (core (fun c => { c with gangfail := some 3 }) user).core.gangfail = some 3 ∧
    (let s := core (fun c => { c with preempt := true }) user
     s.core.gangfail = none ∧ s.core.preempt = true ∧ s.core.th.viq = [] ∧ asyncEnabled s = true) ∧
    (let s := core (fun c => { c with hostint := some 5 }) user
     s.core.preempt = false ∧ s.core.hostint = some 5) ∧
    (due 0 user).core.hostint = none ∧ (due 0 user).core.sup.timecmp.toNat ≤ (due 0 user).time.toNat ∧
    (due 1 user).core.sup.timecmp.toNat > (due 1 user).time.toNat ∧
    userTrapNow user = none ∧ userTrapNow trapped = some ⟨.engdone, 9⟩ ∧ trapped.csr.utvec ≠ 0 ∧
    (⟨.engdone, 9⟩ : UTrap) ∈ trapped.core.th.utq ∧ (core (fun c => { c with run := .stopped }) user).core.run = .stopped ∧
    Core.start.run = .idle ∧ (user.core.run ≠ .stopped ∧ user.core.level = .user) := by decide +kernel

/-- 12 R302: no lead; one whose copy ends in this cycle, one whose copy does not, and one to which a register is owed. -/
theorem test_witness_LeadChangesNothing :
    let s := leadFork { user with core := { user.core with refork := true } }
    user.core.lead = none ∧ (s.core.lead.map (fun l => (l.copyUntil.map (fun c =>
      decide (c ≤ ({ s with dev := { s.dev with clk := c } } : State).dev.clk) && decide (s.dev.clk < c) && l.owed.isEmpty)).getD false)) =
        some true ∧
    (let u := leadFork { after (.vredsum 9 8 10 false 0) user with core := { (after (.vredsum 9 8 10 false 0) user).core with refork := true } }
     (u.core.lead.map (·.owed.isEmpty)) = some false) := by decide +kernel

/-! ### Witnesses: device events of the host, the walker and the engines -/

/-- Registrar and host translate through the placed page table, whose leaf has the host's key bit or not. -/
def registrar (leaf : Byte) : State := { user with dev := { user.dev with
  reg := { user.dev.reg with ptbase := placeRoot }
  mem := { user.dev.mem with cells := cellSet user.dev.mem.cells (placeRoot.toNat + 1) leaf } } }

/-- 14 R326; 20 R442; 22 R461: request words 3, 4 and 1; a live core, an idle one and one whose thread is set aside; mailbox words,
sizes and places on either side of what each rule asks. -/
theorem test_witness_HostEvents :
    4 ≤ (4 : Word).toNat ∧ (1 : Word).toNat < 2 ∧ (3 : Word).toNat < 4 ∧ (user.coreAt 0).run = .live ∧ (user.coreAt 0).out = false ∧
    (user.coreAt 7).run = .idle ∧ (({ user with core := { user.core with out := true } } : State).coreAt 0).out ≠ false ∧
    hostBytes 8 = 8 ∧ hostBytes 7 ≠ 8 ∧ wordFull user.dev.mem (mailboxLoc 511) = false ∧
    wordFull (markFull (mailboxLoc 511) true user).dev.mem (mailboxLoc 511) = true ∧
    (hostPlaces .read 8 0x2000000000 (registrar 0)).2 = none ∧ (hostPlaces .write 8 0x2000000000 (registrar 0)).2 = none ∧
    (hostPlaces .write 8 0x2000000000 (registrar 4)).2 = some ((List.range 8).map (fun i => (0x2000000000 + i, 4096))) := by
  decide +kernel

/-- A nest of a record, ready for dispatch. -/
def nestOf (flags : Nat) : Nest :=
  { newNest user user.ctx (BitVec.ofNat 1024 (record flags)) with seq := 6, eligible := true }

/-- The user thread's device with some nests. -/
def nested (ns : List Nest) : State := { user with dev := { user.dev with walker := { user.dev.walker with nests := ns } } }

/-- The Registrar's place for records, with a mailbox word of level 2 full that names the record in memory at 0x2000000000. -/
def mailed (flags : Nat) : State :=
  let s : State := { registrar 4 with dev := writeNat 4096 128 (registrar 4).dev 0x2000000000 (record flags) }
  markFull (mailboxLoc 130) true { s with dev := writeNat 0 8 s.dev (mailboxLoc 130) 0x2000000000 }

/-- What the Registrar reads of the word it takes. -/
def mailRead (s : State) : State × Option (BitVec 1024) := registrarRead 0x2000000000 (markFull (mailboxLoc 130) false s)

/-- 14 R327, R329: no mail; mail whose record is accepted, ill formed, for a priority without room, or cannot be read; a record kept
from before that finds room and one that does not. -/
theorem test_witness_LaunchEvents_mail :
    let kept (s : State) : State := { s with dev := { s.dev with reg := { s.dev.reg with kept := s.dev.reg.kept.set 3 (some (BitVec.ofNat 1024 (record 0))) } } }
    let full (s : State) : State := { s with dev := { s.dev with walker := { s.dev.walker with
      nests := List.replicate 128 (newNest s s.ctx (BitVec.ofNat 1024 (record 0))) } } }
    (∀ l < 8, keptAt user l = none) ∧ nextMail user = none ∧ nextMail (mailed 0) = some (2, 2) ∧
    BitVec.ofNat 64 (readNat (mailed 0).dev.mem 0 8 (mailboxLoc 130)) = (0x2000000000 : Word) ∧ (mailed 0).dev.mem.wf = true ∧
    ((mailRead (mailed 0)).2.map (fun r => recordOk r && nestRoom (mailed 0) (recF r 1 3) && !r.getLsbD 12)) = some true ∧
    ((mailRead (mailed 0)).2.map (fun r => nestRoom (full (mailed 0)) (recF r 1 3))) = some false ∧
    ((mailRead (mailed (2 ^ 15))).2.map recordOk) = some false ∧
    (registrarRead 0x2000000040 (mailed 0)).2 = none ∧
    keptAt (kept user) 3 = some (BitVec.ofNat 1024 (record 0)) ∧ (∀ k < 8, k ≠ 3 → keptAt (kept user) k = none) ∧
    nestRoom (kept user) 0 = true ∧ nestRoom (full (kept user)) 0 = false ∧
    (kept user).dev.mem.full = [] ∧ recF (BitVec.ofNat 1024 (record 0)) 1 3 = 0 := by decide +kernel

/-- 14 R331 to R337, R342, R343, R345 to R348; 10 R287: a nest whose wait word has come or not, cannot be read, or that has a
condition; one that is dispatched, that is ready to end with and without a completion word, that waits for its gang in its last
cycle and one cycle later; a thread of it that took FEATURE; one set aside. -/
theorem test_witness_LaunchEvents :
    let with_ (n : Nest) (v off : Nat) : Nest := { n with eligible := false, record := n.record + BitVec.ofNat 1024 (v * 2 ^ (8 * off)) }
    let waiting := with_ (nestOf 0) 0x2000000000 0x40
    let later := with_ waiting 1 0x48
    let lost := with_ (nestOf 0) 0x40000000000 0x40
    let cond := with_ (with_ (nestOf (2 ^ 11)) 0x2000000000 0x40) 0x2000000008 0x50
    let gang : Nest := { nestOf (2 ^ 12) with record := (nestOf (2 ^ 12)).record + BitVec.ofNat 1024 (9 * 2 ^ 832 + 2 * 2 ^ 864), gangFormed := false }
    let reads (n : Nest) : Option Word := (agentRead n.ctx.alien .sqd (n.word 0x40) (nested [n])).2
    let at_ (clk : Nat) (s : State) : State := { s with dev := { s.dev with clk := clk } }
    let took : State := { nested [nestOf 0] with core := { supervisor.core with
      th := { supervisor.core.th with nest := 6 }, sup := { supervisor.core.sup with scause := 0x15 } } }
    let aside : State := { nested [nestOf 0] with dev := { (nested [nestOf 0]).dev with clk := 512, walker :=
      { (nested [nestOf 0]).dev.walker with aside := [⟨{ user.core.th with nest := 6 }, .user, 9, 0, none, false⟩] } } }
    let done := with_ (nestOf (2 ^ 14)) 0x2000000010 0x60
    nestAt user 6 = none ∧ nestAt (nested [nestOf 0]) 6 = some (nestOf 0) ∧ (nestOf 0).eligible = true ∧
    (nestAt (nested [waiting]) 6).map (·.eligible) = some false ∧ waiting.flag 11 = false ∧ cond.flag 11 = true ∧
    reads waiting = some 0 ∧ (waiting.word 0x48).toNat ≤ (0 : Word).toNat ∧ (0 : Word).toNat < (later.word 0x48).toNat ∧
    reads lost = none ∧ lost.badWait = false ∧ ({ lost with badWait := true } : Nest).badWait = true ∧ reads cond = some 0 ∧
    (agentRead cond.ctx.alien .sqd (cond.word 0x50) (nested [cond])).2 = some (cond.word 0x58) ∧
    walkerMove user = none ∧
    (match walkerMove (nested [nestOf 0]) with
      | some (.dispatch 6 0 [1]) => true
      | _ => false) = true ∧
    (nested [nestOf 0]).others = [] ∧ (∀ m ∈ (nested [nestOf 0]).dev.walker.nests, m = nestOf 0) ∧ (nestOf 0).flag 3 = false ∧
    (match walkerMove aside with
      | some (.resume _ 8) => true
      | _ => false) = true ∧
    nestReady (nested [{ nestOf 0 with nextOrd := 1 }]) { nestOf 0 with nextOrd := 1 } = true ∧
    nestReady (nested [nestOf 0]) (nestOf 0) = false ∧
    done.word 0x60 = 0x2000000010 ∧ done.flag 14 = true ∧
    found (translate (nested [done]) done.ctx.alien .sqd .write (done.word 0x60)) (fun t p => !anyPoisoned t.dev 8 p.loc) = true ∧
    (∀ k ∈ user.knownCores, tookFeature (user.coreAt k) 6 = false) ∧
    took.knownCores.find? (fun k => tookFeature (took.coreAt k) 6) = some 0 ∧ (nestAt took 6).isSome = true ∧
    ((user.coreAt 0).lives = true ∧ (user.coreAt 0).run ≠ .stopped ∧ (user.coreAt 0).th.nest = 0) ∧
    (gang.flag 12 = true ∧ gang.fld 0x68 32 = 9 ∧ gang.gangFormed = false ∧ gang.gangLate = false ∧ gang.flag 13 = false) ∧
    ((9 : BitVec 32), (5 : BitVec 16)) ∉ user.dev.walker.early ∧
    (at_ 174999 (nested [gang])).dev.clk < gang.postedAt + 175000 ∧ gang.postedAt + 175000 ≤ (at_ 175000 (nested [gang])).dev.clk := by
  decide +kernel

/-- A request of a tile task for a lock that is free, and of a thread that waits for one. -/
def reqOf (h : Holder) (n : Word) : LockReq := ⟨h, 3, 3, n, .x, false, false⟩

/-- 16 R375, R377, R378: a task that can be granted, a thread that can, none; an older request that wounds; a grace that ends in this
cycle and one later, of a thread and of a task. -/
theorem test_witness_CuratorEvents :
    let task : State := locked [] [reqOf (.task 4) 0x50000]
    let waits (s : State) : State := { locked [] [⟨meHolder user, myAge user, user.core.th.tid, 0x50000, .x, false, false⟩] with
      core := { s.core with th := { s.core.th with wait := some ⟨0⟩ } } }
    let thr := waits user
    let lk := { waits (placed 64 0x6000039de301) with dev := { (placed 64 0x6000039de301).dev with cur := (waits user).dev.cur } }
    let older : LockReq := ⟨.task 9, 0, 0, 0x50000, .x, false, false⟩
    let due (h : Holder) (clk : Nat) : State :=
      let s := locked [{ other 0x50000 .x with holder := h, wounded := some 0 }] []
      { s with dev := { s.dev with clk := clk } }
    let hit (s : State) : Option LockEntry := s.dev.cur.held.find? (fun e => e.name == 0x50000 && e.tid == 7 &&
      (match e.wounded with
       | some t => decide (t + s.dev.cur.grace.toNat ≤ s.dev.clk)
       | none => false))
    user.dev.cur.queue = [] ∧ (locked [other 0x50000 .x] [older]).dev.cur.woundees older = [other 0x50000 .x] ∧
    (other 0x50000 .x).holder = .thread 1 7 ∧ (other 0x50000 .x).wounded = none ∧
    taskGrantable (woundAll task) = some (reqOf (.task 4) 0x50000, 4) ∧ taskGrantable (woundAll user) = none ∧
    threadGrantable (woundAll user) = none ∧ taskGrantable (woundAll thr) = none ∧ threadGrantable (woundAll thr) = some 0 ∧
    (taskGrantable (woundAll lk) = none ∧ threadGrantable (woundAll lk) = some 0 ∧ issueBlocked ((woundAll lk).select 0) = false ∧
      ((woundAll lk).select 0).core.run = .live ∧
      fetches ((woundAll lk).select 0) (fun i => match i with
        | .lkacq _ _ _ _ _ => true
        | _ => false) = true) ∧
    (hit (due (.thread 1 7) 65535)).isNone = true ∧ (hit (due (.thread 1 7) 65536)).map (·.holder) = some (.thread 1 7) ∧
    (hit (due (.task 3) 65536)).map (·.holder) = some (.task 3) := by decide +kernel

/-- A tile task of the user thread: an operation over one slice, its blocks at 0x2000000000 and 0x2000010000, its tile at
0x2000020000, no token condition and no lock. -/
def taskOf (op flags : Nat) (st : TaskState) (slice : Nat) : TileTask :=
  { id := 4, cluster := 0, cls := 0, scope := 0, ctx := user.ctx, nest := 0, ord := 0, tid := 0, state := st, engine := 0
    record := BitVec.ofNat 512 (op + 256 * flags + 2 ^ 16 + 0xFF * 2 ^ 56 + 0x2000000000 * 2 ^ 128 + 0x2000010000 * 2 ^ 192
      + 0x2000020000 * 2 ^ 256)
    slice := slice, tile := List.replicate 64 TileRow.zero, hdrs := none, failed := 0, stopped := false, due := 0 }

/-- The user thread's device with one tile task, and with the headers of two blocks of one plane and one slice. -/
def tiled (t : TileTask) : State :=
  { user with dev := { writeNat 0 8 (writeNat 0 8 user.dev 0x2000000080 0x10001) 0x2000010080 0x10101 with tasks := [t] } }

/-- 16 Table 16-2: a task in each state that an event moves it from, with the reads and checks it makes. -/
theorem test_witness_TileTaskEvents :
    let st (t : TileTask) := tiled t
    oldestReady user 0 = none ∧ oldestReady (st (taskOf 3 0 .ready 0)) 0 = some (taskOf 3 0 .ready 0) ∧
    chooseEngine (st (taskOf 3 0 .ready 0)) (taskOf 3 0 .ready 0) = some 0 ∧ (st (taskOf 3 0 .ready 0)).dev.slots = [] ∧
    isOkR (checkC (taskOf 3 0 .ready 0) 3 (st (taskOf 3 0 .ready 0))) = true ∧
    isOkR (checkC { taskOf 3 0 .ready 0 with record := BitVec.ofNat 512 (3 + 0x40000000000 * 2 ^ 256) } 3 user) = false ∧
    scratchLost 0 (exportDests (taskOf 5 0 .ready 0).record) = false ∧
    scratchLost 0 (exportDests (BitVec.ofNat 512 (5 + 32 * 2 ^ 32 + scratchBase * 2 ^ 128))) = true ∧
    (∀ op ∈ [0, 1], oldestReady (st (taskOf op 0 .ready 0)) 0 = some (taskOf op 0 .ready 0) ∧
      isOkR (readHdrs (taskOf op 0 .ready 0) (st (taskOf op 0 .ready 0))) = true ∧
      isOkR (checkC (taskOf op 0 .ready 0) 3 (st (taskOf op 0 .ready 0))) = true) ∧
    isOkR (readHdrs (taskOf 1 0 .ready 0) user) = false ∧
    taskAt user 4 = none ∧ taskAt (st (taskOf 3 0 .waiting 0)) 4 = some (taskOf 3 0 .waiting 0) ∧
    tokenReady user (taskOf 3 0 .waiting 0) = true ∧ (taskOf 3 0 .waiting 0).fld 6 8 = 0 ∧
    tokenReady user { taskOf 3 0 .waiting 0 with record := BitVec.ofNat 512 (3 + 2 ^ 80) } = false ∧
    1 < (taskOf 3 0 .running 0).op ∧ (taskOf 1 0 .running 0).op ≤ 1 ∧ (taskOf 1 0 .running 0).slice < (taskOf 1 0 .running 0).fld 2 16 ∧
    (taskOf 1 0 .running 0).tile ≠ [] ∧
    isOkR (readPlanes (taskOf 1 0 .running 0) 0x2000000000 1 0 1 1 (st (taskOf 1 0 .running 0))) = true ∧
    isOkR (readPlanes (taskOf 1 0 .running 0) 0x2000010000 1 0 1 1 (st (taskOf 1 0 .running 0))) = true ∧
    isOkR (checkC { taskOf 1 0 .running 0 with record := BitVec.ofNat 512 (1 + 0x3FFFFFFFF80 * 2 ^ 256) } tileChunks user) = false ∧
    (taskOf 1 1 .running 1).repInc = true ∧ (taskOf 1 1 .running 1).fld 2 16 ≤ (taskOf 1 1 .running 1).slice ∧
    (∀ k ∈ (st (taskOf 1 1 .running 1)).dev.tasks, k.olderThan (taskOf 1 1 .running 1) = false) ∧
    isOkR (taskWork (taskOf 3 0 .running 0) (st (taskOf 3 0 .running 0))) = true ∧
    isOkR (taskWork { taskOf 3 0 .running 0 with record := BitVec.ofNat 512 (3 + 0x40000000000 * 2 ^ 256) } user) = false ∧
    isOkR (taskWork (taskOf 0 0 .finishing 1) (st (taskOf 0 0 .finishing 1))) = true ∧
    isOkR (taskWork { taskOf 0 0 .finishing 1 with record := BitVec.ofNat 512 (0x40000000000 * 2 ^ 256) } user) = false := by
  decide +kernel

/-- The same for the whole tile that a task which starts reads. -/
theorem test_witness_TileTaskEvents_tile :
    isOkR (readTile (taskOf 0 0 .ready 0) (tiled (taskOf 0 0 .ready 0))) = true := by decide +kernel

/-- The same for the whole tile that a slice checks. -/
theorem test_witness_TileTaskEvents_slice :
    isOkR (checkC (taskOf 1 0 .running 0) tileChunks (tiled (taskOf 1 0 .running 0))) = true := by decide +kernel

/-- A 512-byte copy from 0x2000000000 to 0x2000001000 at a point of its progress. -/
def copying (st : CopyState) (progress : Nat) (stopped : Bool) : CopyCmd :=
  { copyOf 4 0 st false with
    record := BitVec.ofNat 512 (2 ^ 32 + 0x2000000000 * 2 ^ 64 + 0x2000001000 * 2 ^ 128 + 512 * 2 ^ 192), progress := progress
    stopped := stopped }

/-- The user thread's device with one copy. -/
def copies (c : CopyCmd) : State := { user with dev := { user.dev with copies := [c] } }

/-- 08 R216, R217, R472; 17 R386, R400: a copy to start, with its destination in memory and in a way that is no scratch; one at its last
256 bytes, one that cannot read and one that cannot write, a misaligned gather, one that is through, one stopped, one finished; a
split below its end. -/
theorem test_witness_CopyEvents :
    let at_ (src dst : Nat) : CopyCmd := { copying .running 256 false with
      record := BitVec.ofNat 512 (2 ^ 32 + src * 2 ^ 64 + dst * 2 ^ 128 + 512 * 2 ^ 192) }
    nextCopy user 0 = none ∧ nextCopy (copies (copying .queued 0 false)) 0 = some (copying .queued 0 false) ∧
    destLost user user.ctx (copyDests (copying .queued 0 false).record) = false ∧
    destLost user user.ctx (copyDests (at_ 0x2000000000 scratchBase).record) = true ∧
    copyAt user 4 = none ∧ copyAt (copies (copying .running 256 false)) 4 = some (copying .running 256 false) ∧
    (copying .running 256 false).total = 512 ∧ (copying .running 512 false).total ≤ 512 ∧ (copying .running 0 true).stopped = true ∧
    (copying .running 256 false).misfit false 256 256 = false ∧ (copying .running 256 false).misfit true 256 256 = false ∧
    ({ copying .running 0 false with record := BitVec.ofNat 512 (4 + 2 ^ 32 + 0x2000000004 * 2 ^ 64 + 8 * 2 ^ 192) } : CopyCmd).misfit false 0 8 = true ∧
    isOkR ((copying .running 256 false).gatherBytes 256 256 (copies (copying .running 256 false))) = true ∧
    isOkR ((copying .running 256 false).places 256 256 (copies (copying .running 256 false))) = true ∧
    isOkR ((at_ 0x40000000000 0x2000001000).gatherBytes 256 256 user) = false ∧
    isOkR ((at_ 0x2000000000 0x40000000000).places 256 256 user) = false ∧
    (∀ i < 256, (copying .running 256 false).inSource ((copying .running 256 false).dstOf (256 + i)) user = false) ∧
    (recN (BitVec.ofNat 512 3) 0 8 = 3 ∧ (256 : Nat) ≠ 512) ∧ (copying .finished 512 false).state = .finished := by decide +kernel

/-- 17 R388, R395, R401; 14 R342: an address that is populated and one that is not, with free slots and with one; a frame and an epoch that begin
and none; a nest that runs, with an acknowledged atomic that can be lost. -/
theorem test_witness_FabricEvents :
    let at_ (clk : Nat) (s : State) : State := { s with dev := { s.dev with clk := clk } }
    let busy (node : Nat) : Fabric := { user.dev.fabric with mesh := (List.range 7).map (fun k => ⟨homeDie 0x2000000000, node, k⟩) }
    let acked : Fabric := { user.dev.fabric with acked := [⟨6, 0, 0x2000000000, 8, 5⟩] }
    locPresent user.dev 0x2000000000 = true ∧ locPresent user.dev 0 = false ∧
    (∀ n < 64, 2 ≤ (freeSlots user.dev.fabric (homeDie 0x2000000000) n).length ∧ (freeSlots (busy n) (homeDie 0x2000000000) n).length = 1) ∧
    (at_ 511 user).dev.clk / 512 ≤ user.dev.fabric.epoch ∧ user.dev.fabric.epoch < (at_ 512 user).dev.clk / 512 ∧
    (at_ 4095 user).dev.clk / 4096 ≤ user.dev.fabric.frame ∧ user.dev.fabric.frame < (at_ 4096 user).dev.clk / 4096 ∧
    nestAt user 6 = none ∧ nestAt (nested [nestOf 0]) 6 = some (nestOf 0) ∧
    user.dev.fabric.acked.find? (fun a => a.seq == 6 && a.loc == 0x2000000000) = none ∧
    (acked.acked.find? (fun a => a.seq == 6 && a.loc == 0x2000000000)).isSome = true := by decide +kernel

/-! ### Witnesses: the machine as a whole -/

/-- What a fetch of bytes ends in. -/
def fetchEnd (s : State) : Nat :=
  match fetchBytes s.core.level s s.core.th.pc with
  | (_, .ok bs) => if refused bs then 1 else 0
  | (_, .error _) => 2

/-- 02 R59; 12 R307: a core at an instruction, at a reserved encoding and at an address that cannot be fetched, its queue empty;
one whose queue's head retires, and one that may not issue since its queue is full. -/
theorem test_witness_StepRunsDecoded :
    let ok (s : State) : Bool := s.agenda.isEmpty && (devMove s).isNone && s.core.run != .idle && (boundary s).isNone
    let lost := user.mapTh (fun t => { t with pc := 0x40000000000 })
    let busy := after (.vaddVv 8 10 12 false 0) (vec 0)
    let s0 (s : State) : State := leadCopied (drainOld s)
    let t0 (s : State) : State := leadFork (leadPassed (vecPhase (s0 s)))
    let stuck := (withQueue (List.replicate 64 (filler [])) 0xFF18 3 user).mapTh (fun t => { t with held := 64 })
    [placed 32 0x87C0, placed 32 0x8000, lost, busy, stuck].all ok = true ∧
    [placed 32 0x87C0, placed 32 0x8000, lost].all (fun s => (headEntry (s0 s)).isNone && !issueBlocked (t0 s)) = true ∧
    [placed 32 0x87C0, placed 32 0x8000, lost].map (fun s => fetchEnd (resumeOps (t0 s))) = [0, 1, 2] ∧
    (headEntry (s0 busy)).isSome = true ∧ vecMoved (s0 busy) (t0 busy) = true ∧
    (s0 busy).core.ahead = 0 ∧ (s0 busy).core.th.viq.length = (s0 busy).core.th.held + 1 ∧
    (headEntry (s0 stuck)).isNone = true ∧ issueBlocked (t0 stuck) = true := by decide +kernel

/-- An encoded instruction whose fields decoding accepts, and one it refuses. -/
theorem test_witness_DecodeEncode : (encode (.add 9 10 11 0)).isSome = true ∧ (Instr.add 9 10 11 0).wf = true ∧
    (encode (.vtake 8 20 0 0)).isSome = true ∧ (Instr.vtake 8 20 0 0).wf = false := by decide +kernel

/-- A step that answers a next state. -/
def steps (s : State) : Bool :=
  match step s with
  | .next _ => true
  | _ => false

theorem steps_spec {s} (h : steps s = true) : ∃ t, step s = .next t := by
  unfold steps at h
  split at h
  · next t heq => exact ⟨t, heq⟩
  · cases h

/-- A canonical state that lists bytes and steps. -/
theorem test_witness_MemoryStaysCanonical : (placed 32 0x01D285C0).memOk ∧ ∃ t, step (placed 32 0x01D285C0) = .next t :=
  ⟨by show (placed 32 0x01D285C0).dev.mem.wf = true; decide +kernel, steps_spec (by decide +kernel)⟩

/-! ### Witnesses: further clauses of the same statements -/

/-- 20 R432; 21 R451: a supervisor with SSTATUS.VT set, an area that is its own and one below the supervisor region. -/
theorem test_witness_SystemFunctionResults_restore :
    let s (o : Nat) : State := { supervisor with
      core := { supervisor.core with sup := { supervisor.core.sup with sstatus := 0x201, sctx := BitVec.ofNat 64 (dspBase + o) } }
      dev := { supervisor.dev with dspsup := 1, blocks := [(0x10000, supervisor.core.th.who)] } }
    (∀ o ∈ [0x10000, 0xFFF8], (s o).core.level ≠ .user ∧ (s o).core.sup.sstatus.getLsbD 9 = true ∧
      ¬((s o).core.level = .supervisor ∧ (s o).core.sup.sstatus.toNat % 4 = 2) ∧ vecBusy (s o) = false ∧ (s o).core.out = false) ∧
    vecBusy (withQueue [filler []] 0xFF18 3 (s 0x10000)) = true ∧
    areaOf (s 0x10000).dev (s 0x10000).core.sup.sctx = some 0x10000 ∧ areaOf (s 0xFFF8).dev (s 0xFFF8).core.sup.sctx = none ∧
    assocGet (s 0x10000).dev.blocks 0x10000 = some (s 0x10000).core.th.who := by decide +kernel

/-- 05 R135; 14 R342: a core whose thread is set aside, with and without a queue; iterations whose last thread ends: sound, faulted
and lost; one with a thread left; a completion word that can be written. -/
theorem test_witness_KendResults_count :
    let run (it : Iter) : State := { nested [{ nestOf 0 with iters := [it] }] with
      core := { user.core with th := { user.core.th with nest := 6, ord := it.ord } } }
    let word : Nest := { nestOf 0 with record := (nestOf 0).record + BitVec.ofNat 1024 (0x2000000010 * 2 ^ (8 * 0x60)) }
    let gone : State := { user with core := { user.core with out := true } }
    (gone.csr.utActive = false ∧ gone.core.out = true ∧ vecBusy gone = false ∧ vecBusy (withQueue [filler []] 0xFF18 3 gone) = true) ∧
    (∀ it ∈ [(⟨3, 1, false, false⟩ : Iter), ⟨3, 1, true, false⟩, ⟨3, 1, false, true⟩, ⟨3, 2, false, false⟩],
      (run it).csr.utActive = false ∧ (run it).core.out = false ∧ myLocks (run it) = [] ∧ kendReady (run it) = true ∧
      (nestAt (run it) (run it).core.th.nest).bind (fun n => n.iters.find? (·.ord == (run it).core.th.ord)) = some it) ∧
    word.word 0x60 ≠ 0 ∧
    found (translate user word.ctx.alien .sqd .write (word.word 0x60)) (fun t p => !anyPoisoned t.dev 8 p.loc) = true := by
  decide +kernel

/-- A state whose v11 holds the 32-bit indexes 0, 4 and 0. -/
def indexed : State := (vec 0).mapTh (fun t => { t with v := t.v.set 11 { t.v[11] with bits := BitVec.ofNat 16384 (4 * 2 ^ 32) } })

/-- 07 R191, R192: a vector atomic that returns and one that does not, an index that is poisoned, an address off its size, one that
translation finds and one that it does not. -/
theorem test_witness_AtomicResults_vector :
    let x := vx (.vaadd 8 7 11 12 true 255 false 0 0 0 0) indexed
    let y := vx (.vaadd 8 7 11 12 false 255 false 0 0 0 0) (writeG indexed 7 0x40000000000)
    let bad := vx (.vaadd 12 7 8 10 false 255 false 0 0 0 0) vecBad
    x.e.desc.op = .amo .add true ∧ x.Fits x.vd x.tagC.width ∧ x.actives 32 = [0, 1, 2] ∧
    (y.e.desc.op = .amo .add false ∧ misses y.s .rw y.e.x1 4 = true ∧ (y.e.x1 + 2).toNat % 4 ≠ 0) ∧
    reaches x.s .rw (x.e.x1 + 4) 4 false = true ∧ bad.bad bad.vb 32 1 = true ∧ bad.bad bad.vb 32 0 = false ∧
    (0xFFFF < 2 ^ Tag.i16.width ∧ 0x8000 < 2 ^ Tag.i16.width) :=
  ⟨by decide +kernel, fits_spec (by decide +kernel), by decide +kernel⟩

/-- 07 R193 to R195: `vgl` and `vsc` of registers that fit, at the start and after a trap; an element whose reservation stands and
covers its address, one whose reservation has ended and one that has none. -/
theorem test_witness_LinkedResults_vector :
    let g := vx (.vgl 8 7 11 255 false 0 0 0 0) indexed
    let c := vx (.vsc 3 7 11 12 255 false 0 0 0 0) indexed
    let stands (t0 clk i : Nat) : Bool := ([(0, 0x2000000000 / 128, t0)] : List (Nat × Nat × Nat)).any
      (fun r => r.1 == i && r.2.1 == 0x2000000004 / 128 && decide (clk < r.2.2 + 4096))
    g.Fits g.vd g.wtag.width ∧ g.e.progress = 0 ∧ g.actives 32 = [0, 1, 2] ∧ c.vd + c.ms ≤ 16 ∧ c.vl ≤ 1024 * c.ms ∧
    reaches g.s .rw (g.e.x1 + 4) 4 false = true ∧ misses g.s .rw 0x40000000000 4 = true ∧
    stands 5 4100 0 = true ∧ stands 5 4101 0 = false ∧ stands 5 4100 1 = false :=
  ⟨fits_spec (by decide +kernel), by decide +kernel⟩

/-- 07 R199 to R202; 21 R453: a peer that gates v8 with it empty, full or unloaded, one that does not gate it, one that is switched
out and none; a full register taken, registers marked, and nothing left to do. -/
theorem test_witness_FutureResults_registers :
    let c (mask st ld : BitVec 32) : Core := { user.core with th := { user.core.th with
      tid := 1, csr := { user.csr with vfemask := mask, vfestate := st, vloaded := ld } } }
    let with_ (k : Core) : State := { vec 0 with others := [(3, k)] }
    let push (s : State) : VX := vx (.vpush 8 9 10 255 0 0) s
    let far (v : Word) : VX := push (writeG (with_ (c 0x100 0 0x100)) 9 v)
    let x := far 1
    let peer (y : VX) (n : Nat) : Thread := (y.s.coreAt n).th
    let take := vx (.vtake 8 10 255 0) ((vec 0).mapCsr (fun c => { c with vfemask := 0x400, vfestate := 0x400 }))
    (x.e.x2 = 1 ∧ x.vd + x.grp ≤ 32 ∧ x.va + x.grp ≤ 32 ∧ peerOf x.s 1 = .core 3 ∧ x.vd = 8 ∧ x.grp = 1 ∧
      (peer x 3).csr.vfemask.getLsbD 8 = true ∧ (peer x 3).csr.vfestate.getLsbD 8 = false ∧ (peer x 3).csr.vloaded.getLsbD 8 = true ∧
      x.vlen ≤ 16384 ∧ x.vlen % 512 = 0) ∧
    256 ≤ (far 256).e.x2.toNat ∧ peerOf (far 7).s 7 = .none ∧ peerOf (push (with_ { c 0x100 0 0x100 with out := true })).s 1 ≠ .core 3 ∧
    (∀ k ∈ [c 0x100 0x100 0x100, c 0x100 0 0], let p := (with_ k).coreAt 3
      p.th.csr.vfestate.getLsbD 8 = true ∨ p.th.csr.vloaded.getLsbD 8 = false) ∧
    ((with_ (c 0 0 0x100)).coreAt 3).th.csr.vfemask.getLsbD 8 = false ∧
    (take.part = false ∧ take.start < take.vl ∧ take.Fits take.vd take.ta.width ∧ take.vl ≤ take.vl) :=
  ⟨by decide +kernel, by decide +kernel, by decide +kernel, by decide +kernel, by decide +kernel, by decide +kernel,
    by decide +kernel, by decide +kernel, fits_spec (by decide +kernel), Nat.le_refl _⟩

/-- 07 R197; 18 R417: a word for which another core waits, and one whose wait of this core has got its value. -/
theorem test_witness_FutureResults_waiting :
    let s (w : FutWait) : State := { futures with dev := { futures.dev with futq := [w] } }
    (s ⟨5, csmLoc + 8, .get, false, none⟩).dev.futq = [⟨5, csmLoc + 8, .get, false, none⟩] ∧ 5 ≠ futures.at_ ∧
    (s ⟨futures.at_, csmLoc, .get, true, some 9⟩).dev.futq = [⟨futures.at_, csmLoc, .get, true, some 9⟩] ∧
    futures.ready [7, 9] = true ∧ setHas futures.dev.mem.full csmLoc = true := by decide +kernel

/-- 07 R203 to R205; 14 R348: no arrival, with stores queued and none; a `bsync` that waits; a gang that did not form in time. -/
theorem test_witness_BarrierResults_waits :
    let busy := after (.vst32 8 7 0 false 0) (barrier 7 2 3 none)
    let late : State := { barrier 7 2 3 none with
      core := { user.core with th := { user.core.th with nest := 6 } }
      dev := { (barrier 7 2 3 none).dev with walker := { user.dev.walker with nests := [{ nestOf (2 ^ 12) with gangLate := true }] } } }
    let wait := barrier 7 0 3 (some (2, 7, placePc))
    storesQueued busy = true ∧ (barOf busy 2).target ≠ 0 ∧ busy.core.th.arrival = none ∧ gangReady 3 late = false ∧
    (late.dev.walker.nests.find? (fun m => m.seq == late.core.th.nest)).isSome = true ∧ late.ready [9] = true ∧
    late.core.th.arrival = none ∧ wait.core.th.arrival = some (2, 7, placePc) ∧
    ¬(1 ≤ ((barOf wait 2).gen - 7).toNat ∧ ((barOf wait 2).gen - 7).toNat ≤ 2 ^ 31) ∧
    acquiresQueued (after (.vtake 8 20 255 0) (user.mapCsr (fun c => { c with vfemask := 0x100000 }))) = true ∧ acquiresQueued wait = false := by
  decide +kernel

/-- A thread whose tile or block lies at an address. -/
def tileAt (v : Word) (y : Word) : State := writeG (writeG (vec 5) 7 v) 9 y

/-- 08 R223 to R230: a tile at an address that is off its alignment, one that is not mapped and one that is; row numbers, plane counts
and thresholds on either side of their ranges; a block with a header that holds the vector named, and one without a header. -/
theorem test_witness_EngineScalarResults_tile :
    let init (v y : Word) : VX := vx (.tinit 7 9 8 false 0 0) (tileAt v y)
    let load (y : Word) : VX := vx (.tload 8 7 9 false 0 0 0) (tileAt 0x2000000000 y)
    let stat (v : Word) : VX := vx (.tstat 9 7 0 0) (tileAt v 0)
    let head : Nat := packEls 16 (List.replicate 64 0xFC00) + 2 ^ 1024 * (8 + 1 * 2 ^ 16)
    let planar (k : Nat) : VX := vx (.tplanar 9 7 10 8 false 0 0)
      (withQueue [] 0xFF18 8 { writeG (vec 5) 10 0 with dev := writeNat 0 256 (vec 5).dev 0x2000000000 k })
    let hdr (k : Nat) : Option PlanarHdr := match (planar k).chunks .read 2 (planar k).e.x1 (planar k).s with
      | (t, .ok ps) => hdrOf (bytesOf 256 (readChunks t ps))
      | _ => none
    (init 0x2000000080 3).e.x1.toNat % 256 ≠ 0 ∧ (init 0x2000000000 3).e.x1.toNat % 256 = 0 ∧
    (init 0x2000000000 3).e.x2.toNat = 3 ∧ (init 0x2000000000 0).e.x2.toNat < 1 ∧ 64 < (init 0x2000000000 65).e.x2.toNat ∧
    isOkR ((init 0x2000000000 3).chunks .write 2 0x2000000000 (init 0x2000000000 3).s) = true ∧
    isOkR ((init 0x40000000000 3).chunks .write 2 0x40000000000 (init 0x40000000000 3).s) = false ∧
    isOkR ((stat 0x2000000000).chunks .rw 2 0x2000006000 (stat 0x2000000000).s) = true ∧
    (63 + ((load 63).vl + 63) / 64 ≤ 64 ∧ (load 63).e.x2.toNat = 63 ∧ 64 < 64 + ((load 64).vl + 63) / 64 ∧
      (load 63).Fits (load 63).vd (load 63).wtag.width ∧ (load 63).actives (load 63).wtag.width = [0, 1, 2] ∧
      isOkR ((load 63).chunks .read 3 (0x2000000000 + 384 * 63) (load 63).s) = true) ∧
    (hdr head).map (·.k) = some 1 ∧ hdr 0 = none ∧ (planar head).e.x2 = 0 ∧ (planar head).vl = 8 ∧
    (∀ i < 8, (planar head).bad (planar head).vc 32 i = false) := by
  refine ⟨?_, ?_, ?_, ?_, ?_, ?_, ?_, ?_, ⟨?_, ?_, ?_, fits_spec ?_, ?_, ?_⟩, ?_, ?_, ?_, ?_, ?_⟩ <;> decide +kernel

/-- The same for the 194 chunks of a whole tile. -/
theorem test_witness_EngineScalarResults_chunks :
    let x := vx (.tzero 7 0 0) (tileAt 0x2000000000 0)
    isOkR (x.chunks .rw 194 x.e.x1 x.s) = true := by decide +kernel

/-- A descriptor of four 32-bit integers from an address on. -/
def descTo (base : Nat) : BitVec 512 := BitVec.ofNat 512 (2 * 2 ^ 8 + 2 ^ 24 + 4 * 2 ^ 32 + base * 2 ^ 128 + 4 * 2 ^ 192)

/-- 08 R236, R241, R242: a descriptor that is valid, one that is not, one off its alignment and one that is not mapped; a register that
is bound and one that is not. -/
theorem test_witness_EngineScalarResults_stream :
    let s : State := { vec 0 with dev := writeNat 0 64 (vec 0).dev 0x2000000000 (descTo 0x2000001000).toNat }
    let x := vx (.sbind 24 7 0 0) s
    let b : Binding := ⟨24, descTo 0x2000001000, 0, false, false, 0⟩
    sdValid (descTo 0x2000001000) = true ∧ sdValid 0 = false ∧ (x.e.x1 + 0).toNat % 64 = 0 ∧ (x.e.x1 + 4).toNat % 64 ≠ 0 ∧
    found (translate x.s x.e.ctx (x.s.vtlb (dieOf x.vlen 32 0)) .read x.e.x1) (fun t p =>
      !anyPoisoned t.dev 64 p.loc && BitVec.ofNat 512 (readNat t.dev.mem p.key 64 p.loc) == descTo 0x2000001000) = true ∧
    misses x.s .read 0x40000000000 64 = true ∧ x.t.streams = [] ∧ x.t.csr.vfemask.getLsbD x.strmReg.toNat = false ∧
    x.strmReg = 24 ∧ [b] = [] ++ b :: [] ∧ b.reg = 24 := by decide +kernel

/-- 08 R246 to R248: an upgrade that must wait, a request for which the table has no room, one that waits already, and misuse; a queued
instruction that reads a gated register. -/
theorem test_witness_LockResults_waits :
    let n : Word := 0x50000
    let req (up : Bool) : LockReq := ⟨meHolder user, myAge user, user.core.th.tid, n, .x, up, false⟩
    let held := locked [lockOf n .s, other n .s] []
    let many := (List.range 511).flatMap (fun k => List.replicate 64 (lockOf (BitVec.ofNat 64 ((k + 1) * 65536)) .s))
    let full := mapCur (fun c => { c with starved := [⟨.thread 0 9, 0, 9, 0x60000, .x, false, false⟩], held := many }) user
    let gated := user.mapCsr (fun c => { c with vfemask := 0x100000 })
    (held.dev.cur.clear (req true) = false ∧ held.dev.cur.fits (req true) = true ∧ held.dev.cur.queue.contains (req true) = false ∧
      upOk (held.dev.cur.explOf (meHolder user) n) .x = true) ∧
    (locked [other n .x] [req false]).dev.cur.queue.contains (req false) = true ∧
    full.dev.cur.held.length = 32704 ∧
    nameOk 0x00FFFFFFFFFF0001 = false ∧ acquiresQueued (after (.vtake 8 20 255 0) gated) = true ∧
    (after (.vtake 8 20 255 0) gated).ready [9] = true ∧ acquiresQueued held = false := by decide +kernel

theorem eraseDups_of_nodup {α : Type} [BEq α] [LawfulBEq α] {l : List α} (h : l.Nodup) : l.eraseDups = l := by
  induction l with
  | nil => rfl
  | cons a l ih =>
    rw [List.nodup_cons] at h
    rw [List.eraseDups_cons, List.filter_eq_self.mpr, ih h.2]
    intro b hb
    simp only [Bool.not_eq_true', beq_eq_false_iff_ne]
    rintro rfl
    exact h.1 hb

/-- The name of a whole tensor. -/
def tensor : Word := 0x5FFFFFFFFFF

/-- A lock table that some tasks hold one tensor in, with an older request for it that waits for entries. -/
def crowd (n : Nat) : Curator := { Curator.start with
  held := (List.range n).map (fun k => ⟨.task k, 0, 8, tensor, .is, none⟩)
  queue := [], starved := [⟨.task 90000, 0, 0, tensor, .x, false, false⟩] }

theorem crowd_used (n : Nat) (r : LockReq) (hn : r.name = tensor) (hh : ∀ k, r.holder ≠ .task k) :
    (crowd n).pairs.eraseDups.length = n ∧ (crowd n).used r = n + 1 := by
  have ha : ancestors tensor = [] := by decide +kernel
  have nd : ((List.range n).map (fun k => ((.task k, tensor) : Holder × Word))).Nodup := by
    refine List.Pairwise.map _ ?_ List.nodup_range
    intro a b hab h
    injection h with h _
    injection h with h
    exact hab h
  have hp : (crowd n).pairs = (List.range n).map (fun k => (Holder.task k, tensor)) := by
    simp [Curator.pairs, crowd, List.flatMap_map, ha, ← List.map_eq_flatMap]
  have hq : ({ crowd n with queue := r :: (crowd n).queue.filter (· != r) } : Curator).pairs =
      (List.range n).map (fun k => (Holder.task k, tensor)) ++ [(r.holder, r.name)] := by
    simp [Curator.pairs, crowd, List.flatMap_map, ha, hn, ← List.map_eq_flatMap]
  constructor
  · rw [hp, eraseDups_of_nodup nd]; simp
  · unfold Curator.used
    rw [hq, eraseDups_of_nodup]
    · simp
    · rw [List.nodup_append]
      refine ⟨nd, by simp, ?_⟩
      intro a h b hb
      simp only [List.mem_map] at h
      obtain ⟨k, _, rfl⟩ := h
      simp only [List.mem_singleton] at hb
      subst hb
      intro h
      injection h with h _
      exact hh k h.symm

/-- The user thread with another number. -/
def third : State := user.mapTh (fun t => { t with tid := 3 })

/-- 08 R246; 16 R371, R375, R379: a request that is not the oldest, over 32,703 entries in use and over 32,704. -/
theorem test_witness_LockResults_full :
    let r : LockReq := ⟨meHolder third, myAge third, third.core.th.tid, tensor, .x, false, false⟩
    let s (n : Nat) : State := mapCur (fun _ => crowd n) third
    (s 0).core.th.revoked = false ∧ nameOk tensor = true ∧ (∀ n, (s n).dev.cur.held.filter (fun e => e.holder == meHolder third) = []) ∧
    (∀ n, (s n).dev.cur.queue.contains r = false) ∧
    ((s 32704).dev.cur.needs r = true ∧ 32704 < (s 32704).dev.cur.used r ∧ (s 32704).dev.cur.fits r = false) ∧
    ((s 32703).dev.cur.needs r = true ∧ ¬32704 < (s 32703).dev.cur.used r ∧ (s 32703).dev.cur.fits r = true) := by
  have u (n : Nat) := crowd_used n ⟨meHolder third, myAge third, third.core.th.tid, tensor, .x, false, false⟩ rfl
    (by intro k h; cases h)
  have old (n : Nat) : (crowd n).oldest ⟨meHolder third, myAge third, third.core.th.tid, tensor, .x, false, false⟩ = false := by
    show ([_] : List LockReq).all _ = false
    decide +kernel
  refine ⟨by decide +kernel, by decide +kernel, fun n => ?_, fun n => rfl, ?_, ?_⟩
  · show (List.map _ (List.range n)).filter _ = []
    rw [List.filter_eq_nil_iff]
    simp only [List.mem_map, beq_iff_eq, forall_exists_index, and_imp]
    rintro _ k _ rfl h
    cases h
  · show (crowd 32704).needs _ = true ∧ 32704 < (crowd 32704).used _ ∧ (crowd 32704).fits _ = false
    simp [Curator.needs, Curator.fits, (u 32704).1, (u 32704).2, old]
  · show (crowd 32703).needs _ = true ∧ ¬32704 < (crowd 32703).used _ ∧ (crowd 32703).fits _ = true
    simp [Curator.needs, Curator.fits, (u 32703).1, (u 32703).2, old]


/-- 01 R36: a synchronising register with an entry queued, and one that is not. -/
theorem test_witness_CsrWriteEvents_queued :
    let s := after (.vaddVv 8 10 12 false 0) user
    csrSync 0x012 = true ∧ csrLevel 0x012 = some .user ∧ s.core.th.held < s.core.th.viq.length ∧ csrSync 0x065 = false ∧
    user.core.th.viq.length ≤ user.core.th.held ∧ csrFirstUse 0x012 0 user = none ∧ csrWriteWaits 0x012 0 user = false := by decide +kernel

/-! ### Witnesses: further clauses of the statements about events -/

/-- 10 R270 to R278: an instruction the Catalogue knows, one it does not, one whose entry has a name in full use; a load over few granules. -/
theorem test_witness_VectorQueueEvents_catalogue :
    let s := after (.vaddVv 8 10 12 false 0) (vec 0)
    let x (s : State) : VX := VX.of s (s.core.th.viq.getLastD (filler []))
    let c : CatEntry := { key := (x s).key (x s).shape, isMask := false, flags := 0, load := none, names := [9], vregs := [VReg.zero], masks := [] }
    let with_ (es : List CatEntry) : State := { s with core := { s.core with cat := { s.core.cat with entries := es } } }
    (x s).eligible (x s).shape = true ∧ (x s).checks (x s).shape false = none ∧ s.core.th.streams = [] ∧ s.csr.vfemask = 0 ∧
    catFind s.core.cat ((x s).key (x s).shape) = none ∧
    (let t := with_ [c]
     catFind t.core.cat ((x t).key (x t).shape) = some c ∧ c.names.any (nameFull t.core.cat c.isMask) = false) ∧
    (let t := with_ (c :: List.replicate 16 { c with key := (vx (.vmulVv 8 10 12 false 0) (vec 0)).key (vx (.vmulVv 8 10 12 false 0) (vec 0)).shape })
     (catFind t.core.cat ((x t).key (x t).shape)).isSome = true) ∧
    (x s).e.desc.op.isLoad = false ∧ ((x s).shape.dst).isSome = true ∧ (∀ c, (x s).e.desc.op ≠ .setty c) := by
  refine ⟨?_, ?_, ?_, ?_, ?_, ?_, ?_, ?_, ?_, ?_⟩
  case refine_10 => intro c h; cases h
  all_goals decide +kernel

/-- 08 R238, R239: an instruction that reads a register bound to a stream of four elements, popped at its start, near its end and beyond
it, and where the elements lie outside memory; one that appends. -/
theorem test_witness_VectorQueueEvents_stream :
    let bind (base pos : Nat) : Binding := ⟨10, descTo base, pos, false, false, 0⟩
    let s (b : Binding) : State := after (.vaddVv 8 10 12 false 0)
      ((vec 0).mapTh (fun t => { t with streams := [b], csr := { t.csr with catctl := 0 } }))
    let x (b : Binding) : VX := VX.of (s b) ((s b).core.th.viq.getLastD (filler []))
    let good := bind 0x2000001000 0
    let pop (b : Binding) : State × Option Binding := (x b).popAll [b] (s b)
    (boundIn (s good).core.th (groupRegs (x good).view.shape.srcs)).filter (fun b => !sdOut b.desc) = [good] ∧
    emptySource (s good).core.th (x good).view.shape = none ∧ (x good).isStrm = false ∧ (s good).csr.catctl.getLsbD 0 = false ∧
    (x good).view.checks (x good).view.shape ((x good).view.boundIll (x good).view.shape) = none ∧
    (groupRegs (x good).view.shape.srcs).all (fun r => !(s good).csr.vfemask.getLsbD r) = true ∧
    (pop good).2 = none ∧ (pop good).1.core.th.viq = (s good).core.th.viq ∧ (pop good).1.core.th.held = (s good).core.th.held ∧
    (pop good).1.csr.vfemask = (s good).csr.vfemask ∧ (pop good).1.csr.catctl = (s good).csr.catctl ∧
    sdQ good.desc = false ∧ (sdAddr good.desc 0).toNat % sdSize good.desc = 0 ∧
    (sdAddr (bind 0x2000001002 0).desc 0).toNat % sdSize good.desc ≠ 0 ∧
    ((x good).vl ≤ perReg (x good).vlen 32 ∧ 0 < (x good).vl ∧ (x good).vlen ≤ 16384) ∧
    (((x good).stripOf (bind 0x2000001000 3) [0, 1, 2] (s good)).2.map (·.isSome) = [true, true, true]) ∧
    sdN good.desc ≤ 4 ∧
    (((x good).stripOf (bind 0x40000000000 0) [0, 1, 2] (s good)).2.any Option.isNone) = true ∧
    streamErrNow (s good) = true ∧
    streamErrNow ((s good).mapTh (fun t => { t with csr := { t.csr with utmask := 0xFF } })) = false := by
  refine ⟨?_, ?_, ?_, ?_, ?_, ?_, ?_, ?_, ?_, ?_, ?_, ?_, ?_, ?_, ?_, ?_, ?_, ?_, ?_, ?_⟩ <;> decide +kernel

/-- 22 R461, R462; 14 R336, R342: PREEMPT with an area and a nest whose iteration goes on, with one that is lost, with neither, and with a
queue that is not empty. -/
theorem test_witness_BoundaryEvents_preempt :
    let it (lost : Bool) : Nest := { nestOf 0 with iters := [⟨3, 1, false, lost⟩] }
    let s (n : Nest) (o : Nat) : State := { nested [n] with
      core := { user.core with preempt := true, th := { user.core.th with nest := 6, ord := 3 }
                               sup := { user.core.sup with sctx := BitVec.ofNat 64 (dspBase + o) } }
      dev := { (nested [n]).dev with dspsup := 1 } }
    let q : State := withQueue [filler []] 0xFF18 3 (s (it false) 0x10000)
    (∀ b ∈ [false, true], asyncEnabled (s (it b) 0x10000) = true ∧ (s (it b) 0x10000).core.gangfail = none ∧
      (s (it b) 0x10000).core.preempt = true ∧ (s (it b) 0x10000).core.th.viq = [] ∧
      areaOf (s (it b) 0x10000).dev (s (it b) 0x10000).core.sup.sctx = some 0x10000 ∧
      (nestAt (s (it b) 0x10000) (s (it b) 0x10000).core.th.nest).isSome = true ∧ iterLost (s (it b) 0x10000) = b) ∧
    areaOf (s (it false) 0).dev (s (it false) 0).core.sup.sctx = none ∧ asyncEnabled q = true ∧ q.core.gangfail = none ∧
    q.core.preempt = true ∧ (∀ e ∈ q.core.th.viq, e.isLoadff = false) ∧ q.core.th.viq ≠ [] := by decide +kernel

/-- A lead of the user thread that waits for nothing. -/
def leading (i : Nat × Nat) : State :=
  let s := placed i.1 i.2
  { s with core := { s.core with
    th := { s.core.th with csr := { s.core.th.csr with pairctl := 0x08000001 } }
    lead := (leadFork { s with core := { s.core with refork := true } }).core.lead.map (fun l => { l with copyUntil := none }) } }

/-- The lead and what it fetches. -/
def leads (s : State) (f : Lead → State → Instr → Bool) : Bool :=
  match s.core.lead with
  | some l => match fetchAt .user (leadView s l) l.pc with
    | (v, .instr i) => f l v i
    | _ => false
  | none => false

/-- 12 R299, R302, R304: a lead before an addition, a branch, a load and a vector instruction outside and inside its slice. -/
theorem test_witness_LeadChangesNothing_issue :
    (∀ p ∈ [(32, 0x02D48040), (32, 0xFA5584F4), (32, 0x01D285C0)], let s := leading p
      s.core.level = .user ∧ s.csr.utActive = false ∧ s.core.refork = false ∧
      leads s (fun l _ i => l.todo.isEmpty && decide (l.buf.length < 256) &&
        decide (l.din < s.core.th.din + s.csr.pairctl.toNat / 2 ^ 16) && !l.syw && !l.fstop && l.copyUntil.isNone &&
        (leadRow i).isSome) = true) ∧
    leads (leading (32, 0x02D48040)) (fun _ _ i => (leadRow i).any (fun a => a.kind == .alu)) = true ∧
    leads (leading (32, 0xFA5584F4)) (fun l v i => (leadRow i).any (fun a => a.kind == .transfer &&
      a.srcs.all (fun r => r == 0 || l.known.getLsbD r.toNat)) && (match exec i (leadView v l) with
        | .next t => t.core.level == .user && !t.csr.utActive
        | _ => false)) = true ∧
    leads (leading (32, 0x02D08C40)) (fun _ _ i => (leadRow i).isNone && (formOf i).isSome) = true := by decide +kernel

/-- 14 R337; 21 R451: a thread set aside by a pre-emption, its context complete in its area, and a core that can take it up. -/
theorem test_witness_LaunchEvents_resume :
    let s : State := { nested [{ nestOf 0 with iters := [⟨3, 1, false, false⟩], nextOrd := 4, eligible := false }] with
      core := { Core.start with level := .user } }
    let t : State := { s with dev := { writeNat 0 8 s.dev (dspLoc + 0x10000 + 0x138) 1 with
      clk := 512, dspsup := 1
      blocks := [(0x10000, { user.core.th with nest := 6, ord := 3 }.who)]
      walker := { s.dev.walker with aside := [⟨{ user.core.th with nest := 6, ord := 3 }, .user, 9, 0, some 0x10000, false⟩] } } }
    (match walkerMove t with
      | some (.resume a _) => a.area == some 0x10000 && decide (a.since + 512 ≤ t.dev.clk)
      | _ => false) = true ∧ dspRead t (0x10000 + 0x138) 8 = 1 := by decide +kernel

/-- 16 Table 16-2; 22 R464: a task whose token has come and that asks for a lock, free and with the table full for it; one stopped at a slice
boundary with its engine's slot free and taken, and one that comes back from it. -/
theorem test_witness_TileTaskEvents_stopped :
    let lk : TileTask := { taskOf 1 0 .waiting 0 with record := (taskOf 1 0 .waiting 0).record + BitVec.ofNat 512 (5 * 2 ^ 48) }
    let stop : TileTask := { taskOf 1 0 .running 1 with stopped := true }
    let slots (t : TileTask) (l : List (Nat × Nat)) : State := { tiled t with dev := { (tiled t).dev with slots := l } }
    lk.fld 6 8 ≠ 0 ∧ tokenReady (tiled lk) lk = true ∧ (tiled lk).dev.cur.fits lk.lockReq = true ∧
    ({ (tiled lk).dev.cur with queue := [lk.lockReq] } : Curator).woundees lk.lockReq = [] ∧
    stop.state = .running ∧ stop.op ≤ 1 ∧ stop.repInc = false ∧ stop.fld 2 16 ≤ stop.slice ∧ (slots stop []).dev.slots = [] ∧
    (∃ p ∈ (slots stop [(0, 9)]).dev.slots, p.1 = 8 * stop.cluster + stop.engine) ∧
    (let u := slots (taskOf 1 0 .ready 0) [(0, 4)]
     oldestReady u 0 = some (taskOf 1 0 .ready 0) ∧ chooseEngine u (taskOf 1 0 .ready 0) = some 0 ∧
       u.dev.slots.find? (fun p => p.2 == 4) = some (0, 4)) := by
  refine ⟨?_, ?_, ?_, ?_, ?_, ?_, ?_, ?_, ?_, ⟨(0, 9), ?_⟩, ?_⟩ <;> decide +kernel

/-- 22 R464: a task of two slices that is stopped in its first one, with its reads. -/
theorem test_witness_TileTaskEvents_parks :
    let h : PlanarHdr := ⟨List.replicate 64 0, 1, 0, 2, false⟩
    let t : TileTask := { taskOf 1 0 .running 0 with
      record := (taskOf 1 0 .running 0).record + 2 ^ 16, hdrs := some (h, h), stopped := true }
    taskAt (tiled t) 4 = some t ∧ t.state = .running ∧ t.op ≤ 1 ∧ t.stopped = true ∧ t.repInc = false ∧ t.slice + 1 < t.fld 2 16 ∧ t.tile ≠ [] ∧
    isOkR (readPlanes t (t.word 0x10) h.k t.slice h.p (planesRead (t.fld 4 8) h.p) (tiled t)) = true ∧
    isOkR (readPlanes t (t.word 0x18) h.k t.slice h.p (planesRead (t.fld 5 8) h.p) (tiled t)) = true ∧ (tiled t).dev.slots = [] := by
  decide +kernel

/-- 16 R365; 08 R221: a slice whose headers were read, with both of its operands. -/
theorem test_witness_TileTaskEvents_headers :
    (match readHdrs (taskOf 1 0 .running 0) (tiled (taskOf 1 0 .running 0)) with
      | (s, .ok (a, b)) => a.k == 1 && b.k == 1 && decide ((taskOf 1 0 .running 0).slice < (taskOf 1 0 .running 0).fld 2 16) &&
        isOkR (readPlanes (taskOf 1 0 .running 0) 0x2000000000 a.k 0 a.p (planesRead 0 a.p) s)
      | _ => false) = true := by decide +kernel

/-- 08 R220, R232: a group of records, of which the second word is poisoned, and one that is whole; a command into a scratch way that has
gone. -/
theorem test_witness_Posts :
    let p := vx (.tpost 9 8 0 0 0) (withQueue [] 0xFF18 16 (vec 0))
    let bad := vx (.tpost 9 8 0 0 0) (withQueue [] 0xFF18 16 vecBad)
    let e := vx (.epost 9 8 0) (withQueue [] 0xFF18 16 (vec 0))
    p.vl ≤ 512 ∧ e.vl ≤ 512 ∧ (∀ i < p.vl, p.bad p.va 32 i = false) ∧ (∀ i < e.vl, e.bad e.va 32 i = false) ∧
    (bad.bad bad.va 32 1 = true ∧ bad.bad bad.va 32 0 = false ∧ 1 < bad.vl) ∧
    scratchLost user.csr.tbcfg (copyDests (BitVec.ofNat 512 (2 ^ 32 + 0x2000000000 * 2 ^ 64 + scratchBase * 2 ^ 128 + 512 * 2 ^ 192))) = true ∧
    scratchLost user.csr.tbcfg (copyDests (BitVec.ofNat 512 (2 ^ 32 + 0x2000000000 * 2 ^ 64 + 0x2000001000 * 2 ^ 128 + 512 * 2 ^ 192))) = false := by
  decide +kernel

/-- The flit of some bytes with its CRC. -/
def flitOf (bs : List Nat) : BitVec 576 :=
  let b := bs ++ List.replicate (68 - bs.length) 0
  BitVec.ofNat 576 ((b.zipIdx.map (fun p => p.1 * 2 ^ (8 * p.2))).sum + crc32c b * 2 ^ 544)

/-- 17 R397, R398: a header with its CRC and sequence number right, with a wrong one of each, one that opens a context, one of a context
that is open, one where 255 are, one that closes, and data. -/
theorem test_witness_FabricEvents_flits :
    let got (f : BitVec 576) (k : Nat) : Nat := f.toNat / 2 ^ (8 * k) % 256
    let whole (f : BitVec 576) : Bool :=
      crc32c ((List.range 68).map (got f)) == got f 68 + 256 * got f 69 + 65536 * got f 70 + 16777216 * got f 71
    let head := flitOf [0, 0, 0, 0, 1, 0, 3]
    let ctx (tag : Nat) : LinkCtx := ⟨0, tag, 1, 0, 0, 0, 0, 0, 3, 0, 8, 2, 0, []⟩
    let open_ (l : List LinkCtx) : State := { user with dev := { user.dev with fabric := { user.dev.fabric with linkOpen := l } } }
    let many := (List.range 255).map (fun k => ctx (k + 1))
    whole head = true ∧ whole (head ^^^ 256) = false ∧ got head 0 = 0 ∧ got head 4 ≠ 5 ∧ got head 6 = 3 ∧ got head 2 = 0 ∧
    (user.dev.fabric.links.getD 0 ⟨0, [], none, 0, []⟩).seq = 0 ∧ (user.dev.fabric.links.getD 0 ⟨0, [], none, 0, []⟩).waiting = [] ∧
    whole (flitOf [0, 0, 1, 0, 1, 0, 3]) = true ∧ got (flitOf [0, 0, 1, 0, 1, 0, 3]) 2 = 1 ∧
    (open_ [ctx 3]).dev.fabric.linkOpen.any (fun c => c.link == 0 && c.tag == 3) = true ∧
    255 ≤ ((open_ many).dev.fabric.linkOpen.filter (·.link == 0)).length ∧
    ¬255 ≤ ((open_ (many.drop 1)).dev.fabric.linkOpen.filter (·.link == 0)).length ∧
    whole (flitOf [0, 0, 0, 0, 5, 0, 3]) = true ∧ whole (flitOf [3, 0, 0, 0, 7]) = true ∧ got (flitOf [3, 0, 0, 0, 7]) 0 ≠ 0 := by
  decide +kernel

/-- 17 R401, Table 17-7; 20 R447: a die below and at the greatest voltage, and its clock above and at the least. -/
theorem test_witness_FabricEvents_axolotl :
    let f := user.dev.fabric
    (f.nextVddc.toList.all (fun v => decide (v < 550)) = true ∧ f.nextClock.toList.all (fun c => decide (1500 < c)) = true) ∧
    ¬((f.nextVddc.set 0 550)[0] < 550) ∧ ¬(1500 < (f.nextClock.set 0 1500)[0]) := by decide +kernel

/-- 20 R441, R442: a read through the host's pages and one outside them; an entry of the error log. -/
theorem test_witness_HostEvents_read :
    (hostPlaces .read 8 0x2000000000 (registrar 4)).2 = some ((List.range 8).map (fun i => (0x2000000000 + i, 4096))) ∧
    (hostPlaces .read 8 0x40000000000 (registrar 4)).2 = none ∧
    (logError 0x2000000000 8 6 none user.dev).host.errors.length = 1 ∧ (0 : Nat) < 256 := by decide +kernel

/-- 16 R377, R378; 22 R467: no request at all; a holder on the core that has the turn and one that is switched out. -/
theorem test_witness_CuratorEvents_holders :
    let held (s : State) : State := { s with dev := { s.dev with cur := { s.dev.cur with
      held := [⟨.thread (6 * 2 ^ 32 + 3) 7, 6 * 2 ^ 32 + 3, 7, 0x50000, .x, some 0⟩] }, clk := 65536 } }
    let n : Nest := { nestOf 0 with iters := [⟨3, 1, false, false⟩] }
    let on := held { nested [n] with core := { user.core with th := { user.core.th with nest := 6, ord := 3, tid := 7 } } }
    let off := held (nested [n])
    user.dev.cur.queue = [] ∧ user.dev.cur.starved = [] ∧ coreOf on 6 3 7 = some 0 ∧ (on.coreAt 0).switching = false ∧
    coreOf off 6 3 7 = none ∧ (∀ a ∈ off.dev.walker.aside, a.area ≠ none) ∧ nestAt off ((6 * 2 ^ 32 + 3) / 2 ^ 32) = some n ∧
    (∃ i ∈ n.iters, i.ord = (6 * 2 ^ 32 + 3) % 2 ^ 32) := by
  refine ⟨?_, ?_, ?_, ?_, ?_, ?_, ?_, ⟨⟨3, 1, false, false⟩, ?_⟩⟩ <;> decide +kernel

/-- 19 R418: a line that was asked for, in the cache already, poisoned, and neither. -/
theorem test_witness_CoreUpkeepEvents_fill :
    let f : IFill := ⟨placePc.toNat / 64, 0, placePc.toNat, 0⟩
    let s : State := { user with core := { user.core with fills := [f] } }
    s.core.fills.find? (fun f => f.line == placePc.toNat / 64 && f.asid == s.core.sup.asid) = some f ∧
    user.core.fills = [] ∧ icacheFind s placePc.toNat = none ∧ anyPoisoned s.dev 64 (f.loc / 64 * 64) = false ∧
    anyPoisoned poisoned.dev 64 (0x2000000000 / 64 * 64) = true := by decide +kernel

/-! ### Single steps, with results from the worked examples and tables of spec/ -/

/-- g9 after an instruction that reads g7 and g8. -/
def g9 (i : Instr) (a b : Word) : Word := readG (after i (writeG (userG 7 a) 8 b)) 9

/-- 05 Table 05-1 and the example below it. -/
theorem test_step_division : g9 (.div 9 7 8 0) 0x8000000000000000 0xFFFFFFFFFFFFFFFF = 0x8000000000000000 ∧
    g9 (.rem 9 7 8 0) 0x8000000000000000 0xFFFFFFFFFFFFFFFF = 0 ∧ g9 (.divn 9 7 8 0) 17 0 = 0xFFFFFFFFFFFFFFFF ∧
    g9 (.remn 9 7 8 0) 17 0 = 17 := by decide +kernel

/-- 05 R127: classes of −0, +∞ and a negative quiet NaN. -/
theorem test_step_fclass : g9 (.fclass 9 7 false 0) 0x80000000 0 = 0x101 ∧ g9 (.fclass 9 7 false 0) 0x7F800000 0 = 0x008 ∧
    g9 (.fclass 9 7 false 0) 0xFFC00000 0 = 0x110 := by decide +kernel

/-- 05 R128: the examples of conversions, with the flags they raise (NV is bit 0, NX bit 4). -/
theorem test_step_conversions : g9 (.fcvtif 9 7 false 0) 0xC0600000 0 = 0xFFFFFFFFFFFFFFFC ∧
    (after (.fcvtif 9 7 false 0) (userG 7 0xC0600000)).csr.fflags = 16 ∧
    readG (after (.fcvtif 9 7 false 0) ((userG 7 0xC0600000).mapCsr (fun c => { c with frm := 1 }))) 9 = 0xFFFFFFFFFFFFFFFD ∧
    g9 (.fcvtnf 9 7 true 0) 0x43F0000000000000 0 = 0xFFFFFFFFFFFFFFFF ∧
    (after (.fcvtnf 9 7 true 0) (userG 7 0x43F0000000000000)).csr.fflags = 1 ∧
    g9 (.fcvtbf 9 7 false 0) 0x3F808000 0 = 0x3F80 ∧ (after (.fcvtbf 9 7 false 0) (userG 7 0x3F808000)).csr.fflags = 16 := by
  decide +kernel

/-- 04 R95: −0.3 rounds into range and −0.7 does not. -/
theorem test_step_unsigned_range : (after (.fcvtnf 9 7 false 0) (userG 7 0xBE99999A)).csr.fflags = 16 ∧
    (after (.fcvtnf 9 7 false 0) (userG 7 0xBF333333)).csr.fflags = 1 ∧ g9 (.fcvtnf 9 7 false 0) 0xBF333333 0 = 0 := by decide +kernel

/-- 06 R152: vl for 1,100 elements of F32 on a full part. -/
theorem test_step_vsetl : readG (after (.vsetl 10 9 0) (writeG (vec 5) 9 1100)) 10 = 512 ∧
    (after (.vsetl 10 9 0) (writeG (vec 5) 9 1100)).csr.vl = 512 := by decide +kernel

/-- 02 R57: `mul` with ST = 0 and with ST = 2 before a reader at once: the pair violates the class, or is legal. -/
theorem test_step_latency : hazard (after (.mul 5 6 7 0) user) 5 = true ∧ hazard (after (.mul 5 6 7 2) user) 5 = false := by
  decide +kernel

/-- 05 R132; 20 Table 20-1, R430: `svc` at user level under a handler at 0x3000. -/
theorem test_step_svc :
    let t := after (.svc 0) (user.mapSup (fun u => { u with stvec := 0x3000 }))
    t.core.sup.scause = 0x1C ∧ t.core.sup.sepc = placePc ∧ t.core.th.pc = 0x3000 ∧ t.core.level = .supervisor := by decide +kernel

/-- The state after the vector unit has run an instruction. -/
def ran (i : Instr) (s : State) : State := vecRun (after i s)

/-- 04 R101: the estimate of 1/3. -/
theorem test_step_vfrece : el (ran (.vfrece 8 (10, none) false 0)
    ((vec 5).mapTh (fun t => { t with v := t.v.set 10 { t.v[10] with bits := 0x40400000 } }))).core.th 16384 8 32 0 = 0x3EAAA000 := by
  decide +kernel

/-- 04 R98: 2^24 and thirty-nine ones summed in canonical order, with NX. -/
theorem test_step_vfredsum :
    let bits := BitVec.ofNat 16384 (packEls 32 (0x4B800000 :: List.replicate 39 0x3F800000))
    let s := (withQueue [] 0x28FF58 40 user).mapTh (fun t => { t with v := t.v.set 8 ⟨bits, .f32, 0⟩ })
    let t := ran (.vfredsum 9 8 0 false 0) s
    readG t 9 = 0x4B800013 ∧ t.csr.fflags = 16 ∧ t.csr.instret = 1 := by decide +kernel

/-- 02 R47: `vminn` with imm5 = −1 leaves every I16 element as it is; `vadd` with it subtracts one. -/
theorem test_step_imm5 :
    let s := withQueue [] 0x8FF18 3 ((vec 1).mapTh (fun t => { t with v := t.v.set 10 ⟨7, .i16, 0⟩ }))
    el (ran (.vminnVi 8 10 31 false 0) s).core.th 16384 8 16 0 = 7 ∧ el (ran (.vaddVi 8 10 31 false 0) s).core.th 16384 8 16 0 = 6 := by
  decide +kernel

/-- 20 R440: a byte stored into a poisoned unit leaves it poisoned; a load of that byte raises POISON with its address. -/
theorem test_step_poisoned_store :
    let s := after (.st8 9 7 3 0 0) poisoned
    let t := after (.ld8 10 7 3 0 0) s
    s.core.level = .user ∧ s.dev.mem.poison = [0x2000000000] ∧ t.core.sup.scause = 0x20 ∧ t.core.sup.stval = 0x2000000003 := by
  decide +kernel

/-- A step fetches, decodes and runs the word at the pc: `ld64 g9, 0(g7)`. -/
theorem test_step_fetched :
    let s := writeG (placed 32 0x01D285C0) 7 0x2000000000
    let s := { s with dev := writeNat 0 8 s.dev 0x2000000000 0x1122334455667788 }
    (match step s with
     | .next t => decide (readG t 9 = 0x1122334455667788 ∧ t.core.th.pc = placePc + 4)
     | _ => false) = true := by decide +kernel


/-! ### The listing of 21 R455: the words of Table 21-4, each with the instruction it stands for there -/

theorem test_listing_switch_1 : ([
    (4, 0x17FE88C8, .csrrw 31 31 0x108 0), (4, 0x07FC86DE, .st64 30 31 30 0 0), (4, 0x07FA86DD, .st64 29 31 29 0 0),
    (4, 0x103C8901, .csrrs 30 0 0x101 0), (4, 0x003A80F0, .addi 29 0 0x30 0), (4, 0x07BA834A, .beq 30 29 0xA 0),
    (4, 0x003A80DB, .addi 29 0 0x1B 0), (4, 0x17BA8344, .beq 30 29 0x104 0), (4, 0x07FC85E6, .ld64 30 31 38 0 0),
    (4, 0x07808300, .jalr 0 30 0 0), (4, 0x07C686C3, .st64 3 31 3 0 0), (4, 0x10028908, .csrrs 1 0 0x108 0),
    (4, 0x07C286DF, .st64 1 31 31 0 0), (4, 0x10028902, .csrrs 1 0 0x102 0), (4, 0x07C286E0, .st64 1 31 32 0 0),
    (4, 0x00028910, .csrrs 1 0 0x010 0), (4, 0x07C286E1, .st64 1 31 33 0 0), (4, 0x00028911, .csrrs 1 0 0x011 0),
    (4, 0x07C286E2, .st64 1 31 34 0 0), (4, 0x00028912, .csrrs 1 0 0x012 0), (4, 0x07C286E3, .st64 1 31 35 0 0),
    (4, 0x00028915, .csrrs 1 0 0x015 0), (4, 0x07C286E4, .st64 1 31 36 0 0), (4, 0x00028916, .csrrs 1 0 0x016 0),
    (4, 0x07C286E5, .st64 1 31 37 0 0), (4, 0x00048917, .csrrs 2 0 0x017 0), (4, 0x000088D5, .csrrw 0 0 0x015 0),
    (4, 0x000088D6, .csrrw 0 0 0x016 0), (4, 0x000088D2, .csrrw 0 0 0x012 0), (8, 0x0000001FE363C040, .ldi 3 0xFF1B 0),
    (4, 0x00C08981, .vsetvt 0 3 0), (4, 0x00068241, .movhi 3 1 0), (4, 0x00C08980, .vsetl 0 3 0),
    (4, 0x00088242, .movhi 4 2 0), (4, 0xF9088040, .add 4 4 31 0)] : List (Nat × Nat × Instr)).all readsAs = true := by decide +kernel

theorem test_listing_switch_2 : ([
    (4, 0x000A8244, .movhi 5 4 0), (4, 0x088D813F, .andi 6 2 0xFF 0), (4, 0x01808344, .beq 6 0 0x4 0),
    (4, 0x01008D00, .vst32 0 4 0 false 0), (4, 0x29088040, .add 4 4 5 0), (4, 0x408C8081, .srli 6 2 8 0),
    (4, 0x098D813F, .andi 6 6 0xFF 0), (4, 0x01108D00, .vst32 8 4 0 false 0), (4, 0x808C8081, .srli 6 2 16 0),
    (4, 0x01208D00, .vst32 16 4 0 false 0), (4, 0xC08C8081, .srli 6 2 24 0), (4, 0x01308D00, .vst32 24 4 0 false 0),
    (4, 0x001C8881, .vdrain 1 2 0), (4, 0x000C80C1, .addi 6 0 0x1 0), (8, 0x0413C0001BE0C083, .srel 6 31 39 3 2 0 0),
    (8, 0x003FC00003FFC083, .lacq 31 31 127 3 2 0 0), (4, 0x17C088C5, .csrrw 0 31 0x105 0),
    (4, 0x17C088C8, .csrrw 0 31 0x108 0), (4, 0x07C285E2, .ld64 1 31 34 0 0), (4, 0x004088D1, .csrrw 0 1 0x011 0),
    (4, 0x07C285E1, .ld64 1 31 33 0 0), (4, 0x004088D0, .csrrw 0 1 0x010 0), (4, 0x07C285E3, .ld64 1 31 35 0 0),
    (4, 0x004088D2, .csrrw 0 1 0x012 0), (4, 0x07C285E4, .ld64 1 31 36 0 0), (4, 0x004088D5, .csrrw 0 1 0x015 0),
    (4, 0x07C285E5, .ld64 1 31 37 0 0), (4, 0x004088D6, .csrrw 0 1 0x016 0), (4, 0x07C285E0, .ld64 1 31 32 0 0),
    (4, 0x104088C2, .csrrw 0 1 0x102 0), (4, 0x000088D7, .csrrw 0 0 0x017 0), (4, 0x000088D8, .csrrw 0 0 0x018 0),
    (8, 0x0413C00003E0C083, .srel 0 31 39 3 2 0 0), (4, 0x07C685C3, .ld64 3 31 3 0 0), (4, 0x07FE85DF, .ld64 31 31 31 0 0)] : List (Nat × Nat × Instr)).all readsAs = true := by decide +kernel

theorem test_listing_switch_3 : ([
    (4, 0x000087C1, .tret 0), (4, 0x10048909, .csrrs 2 0 0x109 0), (4, 0x0084811F, .andi 2 2 0x1F 0),
    (4, 0x18848081, .srli 2 2 3 0), (4, 0x70888080, .slli 4 2 14 0), (4, 0x00068242, .movhi 3 2 0),
    (4, 0x19088040, .add 4 4 3 0), (4, 0x080B80FF, .addi 5 0 0xFF 0), (4, 0x18828080, .slli 1 2 3 0),
    (4, 0x094A8046, .sll 5 5 1 0), (4, 0x01408918, .csrrs 0 5 0x018 0), (8, 0xFFE000000003C040, .ldi 3 0x7FF00000000 0),
    (4, 0xF8C381BF, .xori 1 3 0xFFF 0), (4, 0x00808354, .beq 2 0 0x14 0), (4, 0x003C80C1, .addi 30 0 0x1 0),
    (4, 0x00BC835A, .beq 2 30 0x1A 0), (4, 0x003C80C2, .addi 30 0 0x2 0), (4, 0x00BC8360, .beq 2 30 0x20 0),
    (4, 0x01308C40, .vld32 24 4 0 false 0), (4, 0x07FC85E5, .ld64 30 31 37 0 0), (4, 0x0FBC8043, .or 30 30 1 0),
    (4, 0x078088D6, .csrrw 0 30 0x016 0), (4, 0x000082DE, .jal 0 0x1E 0), (4, 0x01008C40, .vld32 0 4 0 false 0),
    (4, 0x07FC85E4, .ld64 30 31 36 0 0), (4, 0x1FBC8043, .or 30 30 3 0), (4, 0x078088D5, .csrrw 0 30 0x015 0),
    (4, 0x000082D4, .jal 0 0x14 0), (4, 0x01108C40, .vld32 8 4 0 false 0), (4, 0x000082CA, .jal 0 0xA 0),
    (4, 0x01208C40, .vld32 16 4 0 false 0), (4, 0x01408957, .csrrc 0 5 0x017 0), (4, 0x07FA85DD, .ld64 29 31 29 0 0),
    (4, 0x07FC85DE, .ld64 30 31 30 0 0)] : List (Nat × Nat × Instr)).all readsAs = true := by decide +kernel

end

end Sys2Proof.Tests
end

section
/-! SUPPORT. What a write of bytes leaves readable under its key: the bytes written, and every other byte as before, whether
the write re-encrypts its sector or not (17 R399; 20 R445; log 13). -/

namespace Sys2Proof.Machine

/-! ### Re-encryption of a sector -/

/-- Locations of one sector are all on-chip or all behind the L2: the on-chip windows begin at a whole sector. -/
theorem isSram_of_sectorOf_eq {x loc : Nat} (h : sectorOf x = sectorOf loc) : isSram x = isSram loc := by
  have hiff : dspLoc ≤ x ↔ dspLoc ≤ loc := by simp only [sectorOf, dspLoc] at h ⊢; omega
  simp only [isSram, hiff]

/-- The first `n` bytes of a sector as a new key reads them: what `rekey` does to the cells. -/
def reencrypt (key sector : Nat) (cs : List Host.Cell) (n : Nat) : List Host.Cell :=
  (List.range n).foldl (fun cs i =>
    cellSet cs (sector * 64 + i) (Config.wrongKeyByte (sector * 64 + i) key (cellGet cs (sector * 64 + i)))) cs

theorem reencrypt_succ (key sector : Nat) (cs : List Host.Cell) (n : Nat) : reencrypt key sector cs (n + 1) =
    cellSet (reencrypt key sector cs n) (sector * 64 + n)
      (Config.wrongKeyByte (sector * 64 + n) key (cellGet (reencrypt key sector cs n) (sector * 64 + n))) := by
  simp only [reencrypt, List.range_succ, List.foldl_append, List.foldl_cons, List.foldl_nil]

theorem reencrypt_wf (key sector : Nat) {cs : List Host.Cell} (h : cellsWf 0 cs = true) (n : Nat) :
    cellsWf 0 (reencrypt key sector cs n) = true :=
  cellsWf_foldl_set (fun i => sector * 64 + i)
    (fun cs i => Config.wrongKeyByte (sector * 64 + i) key (cellGet cs (sector * 64 + i))) (List.range n) cs h

/-- A cell that was re-encrypted holds what the new key reads, every other one what it held. -/
theorem cellGet_reencrypt (key sector : Nat) {cs : List Host.Cell} (h : cellsWf 0 cs = true) (x : Nat) : ∀ n,
    cellGet (reencrypt key sector cs n) x =
      if sector * 64 ≤ x ∧ x < sector * 64 + n then Config.wrongKeyByte x key (cellGet cs x) else cellGet cs x
  | 0 => by rw [if_neg (by omega)]; rfl
  | n + 1 => by
    rw [reencrypt_succ, cellGet_cellSet _ 0 _ _ _ (reencrypt_wf key sector h n)]
    by_cases hx : x = sector * 64 + n
    · simp [hx, cellGet_reencrypt key sector h (sector * 64 + n) n]
    · have hiff : (sector * 64 ≤ x ∧ x < sector * 64 + (n + 1)) ↔ (sector * 64 ≤ x ∧ x < sector * 64 + n) := by omega
      rw [if_neg hx, cellGet_reencrypt key sector h x n]
      simp only [hiff]

theorem rekey_of_isSram (m : Mem) (key : Nat) {loc : Nat} (hl : isSram loc = true) : rekey m key loc = m := by
  simp [rekey, hl]

theorem rekey_of_no_key {m : Mem} (key : Nat) {loc : Nat} (hl : isSram loc = false) (hk : assocGet m.keys (sectorOf loc) = none) :
    rekey m key loc = { m with keys := assocSet m.keys (sectorOf loc) key } := by
  simp [rekey, hl, hk]

theorem rekey_of_own_key {m : Mem} {key loc : Nat} (hk : assocGet m.keys (sectorOf loc) = some key) : rekey m key loc = m := by
  simp [rekey, hk]

theorem rekey_of_other_key {m : Mem} {k key loc : Nat} (hl : isSram loc = false)
    (hk : assocGet m.keys (sectorOf loc) = some k) (hne : k ≠ key) : rekey m key loc =
      { m with cells := reencrypt key (sectorOf loc) m.cells 64, keys := assocSet m.keys (sectorOf loc) key } := by
  simp [rekey, reencrypt, hl, hk, hne]

/-! ### Reading under the key of a write -/

/-- What a byte reads as depends on its cell and its sector's key alone. -/
theorem readByte_congr {m m' : Mem} {x : Nat} (hc : cellGet m'.cells x = cellGet m.cells x)
    (hk : assocGet m'.keys (sectorOf x) = assocGet m.keys (sectorOf x)) (key : Nat) : readByte m' key x = readByte m key x := by
  simp only [readByte, hc, hk]

/-- A byte of a sector that has no key yet reads under every key as its cell. -/
theorem readByte_of_no_key {m : Mem} {key x : Nat} (hk : assocGet m.keys (sectorOf x) = none) :
    readByte m key x = cellGet m.cells x := by
  simp [readByte, hk]

/-- A byte of a sector stored under a key reads under that key as its cell. -/
theorem readByte_of_own_key {m : Mem} {key x : Nat} (hk : assocGet m.keys (sectorOf x) = some key) :
    readByte m key x = cellGet m.cells x := by
  simp [readByte, hk]

/-- A byte behind the L2, of a sector stored under another key, reads as that key's byte of it (17 R399). -/
theorem readByte_of_other_key {m : Mem} {k key x : Nat} (hs : isSram x = false) (hk : assocGet m.keys (sectorOf x) = some k)
    (hne : k ≠ key) : readByte m key x = Config.wrongKeyByte x key (cellGet m.cells x) := by
  simp [readByte, hs, hk, hne]

/-- A write behind the L2 leaves its sector with the key of the write and every other sector with its own. -/
theorem assocGet_rekey {m : Mem} (h : m.wf = true) (key : Nat) {loc : Nat} (hl : isSram loc = false) (sector : Nat) :
    assocGet (rekey m key loc).keys sector = if sector = sectorOf loc then some key else assocGet m.keys sector := by
  obtain ⟨-, -, -, hkeys⟩ := (Mem.wf_iff m).mp h
  have hset := assocGet_assocSet m.keys 0 (sectorOf loc) sector key hkeys
  cases hk : assocGet m.keys (sectorOf loc) with
  | none => rw [rekey_of_no_key key hl hk, hset]
  | some k =>
    by_cases hkk : k = key
    · subst hkk
      rw [rekey_of_own_key hk]
      split
      · next hx => rw [hx, hk]
      · rfl
    · rw [rekey_of_other_key hl hk hkk, hset]

/-- Re-encryption makes each cell of its sector what the key of the write reads there, and keeps every other cell. -/
theorem cellGet_rekey {m : Mem} (h : m.wf = true) (key : Nat) {loc : Nat} (hl : isSram loc = false) (x : Nat) :
    cellGet (rekey m key loc).cells x = if sectorOf x = sectorOf loc then readByte m key x else cellGet m.cells x := by
  obtain ⟨hcells, -⟩ := (Mem.wf_iff m).mp h
  cases hk : assocGet m.keys (sectorOf loc) with
  | none =>
    rw [rekey_of_no_key key hl hk]
    split
    · next hx => rw [readByte_of_no_key (by rw [hx, hk])]
    · rfl
  | some k =>
    by_cases hkk : k = key
    · subst hkk
      rw [rekey_of_own_key hk]
      split
      · next hx => rw [readByte_of_own_key (by rw [hx, hk])]
      · rfl
    · have hin : (sectorOf loc * 64 ≤ x ∧ x < sectorOf loc * 64 + 64) ↔ sectorOf x = sectorOf loc := by
        simp only [sectorOf]; omega
      rw [rekey_of_other_key hl hk hkk, cellGet_reencrypt key _ hcells]
      simp only [hin]
      split
      · next hx => rw [readByte_of_other_key ((isSram_of_sectorOf_eq hx).trans hl) (by rw [hx, hk]) hkk]
      · rfl

/-- Re-encryption under a key changes nothing that is read under that key. -/
theorem readByte_rekey {m : Mem} (h : m.wf = true) (key loc x : Nat) : readByte (rekey m key loc) key x = readByte m key x := by
  cases hl : isSram loc with
  | true => rw [rekey_of_isSram m key hl]
  | false =>
    have hkey := assocGet_rekey h key hl (sectorOf x)
    have hcell := cellGet_rekey h key hl x
    by_cases hx : sectorOf x = sectorOf loc
    · rw [if_pos hx] at hkey hcell
      exact (readByte_of_own_key hkey).trans hcell
    · rw [if_neg hx] at hkey hcell
      exact readByte_congr hcell hkey key

/-! ### Bytes written one after another -/

/-- Whether memory works at a location depends on the tier's size and the domains that are down alone. -/
theorem locPresent_congr {d d' : Dev} (ht : d'.tierBytes = d.tierBytes) (hd : d'.down = d.down) (x : Nat) :
    locPresent d' x = locPresent d x := by
  simp only [locPresent, ht, hd]

@[simp] theorem locPresent_writeByte (d : Dev) (key loc : Nat) (b : Byte) (x : Nat) :
    locPresent (writeByte d key loc b) x = locPresent d x := by
  unfold writeByte; split <;> rfl

/-- A byte written under a key leaves every other byte as it reads under that key. -/
theorem readByte_writeByte_of_ne {d : Dev} (h : d.mem.wf = true) (key : Nat) {loc x : Nat} (b : Byte) (hx : x ≠ loc) :
    readByte (writeByte d key loc b).mem key x = readByte d.mem key x := by
  unfold writeByte
  split
  · obtain ⟨hcells, -⟩ := (Mem.wf_iff _).mp (rekey_wf h key loc)
    rw [← readByte_rekey h key loc x]
    refine readByte_congr ?_ ?_ key
    · exact (cellGet_cellSet _ 0 loc x b hcells).trans (if_neg hx)
    · rfl
  · rfl

/-- `n` bytes written under a key leave every byte outside them as it reads under that key. -/
theorem readByte_writeNat_of_outside (key : Nat) : ∀ (n : Nat) {d : Dev}, d.mem.wf = true → ∀ (loc v : Nat) {x : Nat},
    (x < loc ∨ loc + n ≤ x) → readByte (writeNat key n d loc v).mem key x = readByte d.mem key x
  | 0, _, _, _, _, _, _ => rfl
  | n + 1, d, h, loc, v, x, hx => by
    rw [writeNat, readByte_writeNat_of_outside key n (writeByte_wf h key loc _) (loc + 1) (v / 256) (by omega),
      readByte_writeByte_of_ne h key _ (by omega)]

/-- `n` bytes written where memory works read back as the low `8 * n` bits of the value. -/
theorem readNat_writeNat_same (key : Nat) : ∀ (n : Nat) {d : Dev}, d.mem.wf = true → ∀ (loc v : Nat),
    (∀ k < n, locPresent d (loc + k) = true) → readNat (writeNat key n d loc v).mem key n loc = v % 2 ^ (8 * n)
  | 0, _, _, _, _, _ => by simp [readNat, Nat.mod_one]
  | n + 1, d, h, loc, v, hp => by
    have hwf := writeByte_wf h key loc (BitVec.ofNat 8 v)
    have hfirst : readByte (writeNat key (n + 1) d loc v).mem key loc = BitVec.ofNat 8 v := by
      rw [writeNat, readByte_writeNat_of_outside key n hwf _ _ (by omega), readByte_writeByte_same h key loc _ (hp 0 (by omega))]
    have hrest : readNat (writeNat key (n + 1) d loc v).mem key n (loc + 1) = v / 256 % 2 ^ (8 * n) := by
      refine readNat_writeNat_same key n hwf (loc + 1) (v / 256) fun k hk => ?_
      rw [locPresent_writeByte, Nat.add_assoc, Nat.add_comm 1 k]
      exact hp (k + 1) (by omega)
    have hpow : 2 ^ (8 * (n + 1)) = 256 * 2 ^ (8 * n) := by rw [Nat.mul_succ, Nat.pow_add, Nat.mul_comm]
    rw [readNat, hfirst, hrest, BitVec.toNat_ofNat, hpow, Nat.mod_mul]

end Sys2Proof.Machine
end

section
/-! SUPPORT. What a store does beside its bytes (poison, loans, log, lines, joins) touches neither a byte nor the memory that
works; then the obligation about stored bytes (17 R389, R402; 20 R440, R445). -/

namespace Sys2Proof.Machine

/-! ### What a store does beside its bytes -/

@[simp] theorem logError_mem (pa size kind : Nat) (who : Option Nat) (d : Dev) : (logError pa size kind who d).mem = d.mem := rfl
@[simp] theorem locPresent_logError (pa size kind : Nat) (who : Option Nat) (d : Dev) (x : Nat) :
    locPresent (logError pa size kind who d) x = locPresent d x := rfl

@[simp] theorem recallLoans_mem (loc n : Nat) (d : Dev) : (recallLoans loc n d).mem = d.mem := rfl
@[simp] theorem locPresent_recallLoans (loc n : Nat) (d : Dev) (x : Nat) :
    locPresent (recallLoans loc n d) x = locPresent d x := rfl

@[simp] theorem logAbsent_mem (who : Option Nat) (loc n : Nat) (d : Dev) : (logAbsent who loc n d).mem = d.mem := by
  unfold logAbsent
  split
  · rfl
  · split <;> rfl
@[simp] theorem locPresent_logAbsent (who : Option Nat) (loc n : Nat) (d : Dev) (x : Nat) :
    locPresent (logAbsent who loc n d) x = locPresent d x := by
  unfold logAbsent
  split
  · rfl
  · split <;> rfl

@[simp] theorem writeLines_mem (loc n : Nat) (d : Dev) : (writeLines loc n d).mem = d.mem := by
  unfold writeLines; dsimp only; split <;> rfl
@[simp] theorem locPresent_writeLines (loc n : Nat) (d : Dev) (x : Nat) : locPresent (writeLines loc n d) x = locPresent d x := by
  unfold writeLines; dsimp only; split <;> rfl

/-- A write of request words that is not eight bytes long changes no memory (22 R461). -/
theorem requestWrite_mem_of_ne_eight (who : Option Nat) (off : Nat) {n : Nat} (hn : n ≠ 8) (v : Nat) (s : State) :
    (requestWrite who off n v s).dev.mem = s.dev.mem := by
  unfold requestWrite
  rw [if_pos (Or.inl hn)]
  split <;> rfl

/-! ### A store by its place -/

/-- Outside the page of request words a store writes its bytes on a device with the same bytes and the same memory that works. -/
theorem storeBy_bytes (who : Option Nat) (s : State) (key : Nat) {loc : Nat} (n v : Nat) (keepV : Bool)
    (hl : ¬(dspLoc + reqOff ≤ loc ∧ loc < dspLoc + 0x03FFF000)) :
    ∃ d : Dev, (storeBy who s key loc n v keepV).dev = writeNat key n d loc v ∧
      d.mem = clearCovered s.dev.mem loc n ∧ ∀ x, locPresent d x = locPresent s.dev x := by
  unfold storeBy
  rw [if_neg hl]
  refine ⟨_, rfl, ?_, fun x => ?_⟩
  · by_cases ht : touchesPoison s.dev.mem loc n <;> simp [breakResv, ht]
  · refine (locPresent_congr (d := writeLines loc n _) rfl rfl x).trans ?_
    by_cases ht : touchesPoison s.dev.mem loc n <;> simp [breakResv, ht]

/-- In the page of request words a store that is not eight bytes long changes no memory. -/
theorem storeBy_mem_of_request_ne_eight (who : Option Nat) (s : State) (key : Nat) {loc n : Nat} (v : Nat) (keepV : Bool)
    (hl : dspLoc + reqOff ≤ loc ∧ loc < dspLoc + 0x03FFF000) (hn : n ≠ 8) :
    (storeBy who s key loc n v keepV).dev.mem = s.dev.mem := by
  unfold storeBy
  rw [if_pos hl, requestWrite_mem_of_ne_eight _ _ hn]
  split
  · exact State.release_dev_mem s
  · rfl

@[simp] theorem readByte_clearCovered (m : Mem) (loc n key x : Nat) :
    readByte (clearCovered m loc n) key x = readByte m key x := rfl

/-- Settles O16: outside the page of request words a store is `writeNat` on unchanged bytes; at that page's first location only a
store of no bytes meets the premise, and it changes none. -/
theorem storedBytesReadBack : Obligations.StoredBytesReadBack := by
  intro key loc n v keepV s hwf hplace hpresent
  dsimp only [storeLoc]
  by_cases hl : dspLoc + reqOff ≤ loc ∧ loc < dspLoc + 0x03FFF000
  · obtain rfl : n = 0 := by obtain ⟨hlo, hhi⟩ := hl; omega
    rw [storeBy_mem_of_request_ne_eight _ _ _ _ _ hl (by decide)]
    exact ⟨by simp [readNat, Nat.mod_one], fun _ _ => rfl⟩
  · obtain ⟨d, hstore, hmem, hsame⟩ := storeBy_bytes (some s.at_) s key n v keepV hl
    have hd : d.mem.wf = true := hmem ▸ clearCovered_wf hwf loc n
    rw [hstore]
    refine ⟨readNat_writeNat_same key n hd loc v fun k hk => (hsame _).trans (hpresent k hk), fun x hx => ?_⟩
    rw [readByte_writeNat_of_outside key n hd loc v hx, hmem, readByte_clearCovered]

end Sys2Proof.Machine
end

section
/-! SUPPORT. What a control register reads as at reset, and the thread that a dispatch begins; then the two obligations about
them (01 R30, R37, R41, R42; 14 R335, R346). -/

namespace Sys2Proof.Machine

/-! ### Device reset -/

/-- A memory that lists no cell reads as the unlisted byte where no key is recorded. -/
theorem readByte_of_empty {m : Mem} (hcells : m.cells = []) (hkeys : m.keys = []) (key loc : Nat) :
    readByte m key loc = unlistedByte := by
  rw [readByte_of_no_key (by rw [hkeys]; rfl), hcells]
  rfl

/-- Settles O55: the registers are finitely many fixed numbers, and memory at reset lists neither a cell nor a key. -/
theorem resetState : Obligations.ResetState := by
  refine ⟨by decide +kernel, by decide +kernel, by decide, rfl, rfl, rfl, rfl, rfl, rfl, rfl, ?_⟩
  exact fun key loc => readByte_of_empty rfl rfl key loc

/-! ### A dispatched thread -/

/-- The stored MIN and PREF: MIN at least one, PREF at least MIN, neither above the columns (01 R30). -/
theorem Nest.lease_eq (n : Nest) (cols : Nat) :
    n.lease cols = (min (max (n.fld 0x38 8) 1) cols, min (max (n.fld 0x39 8) (min (max (n.fld 0x38 8) 1) cols)) cols) := rfl

theorem Nest.position_of_no_gang {n : Nest} (h : n.flag 12 = false) : n.position = 0 := by simp [Nest.position, h]

theorem Nest.position_of_rank {n : Nest} {r : BitVec 16} (h : n.flag 12 = true) (hr : n.rank = some r) : n.position = r := by
  simp [Nest.position, h, hr]

/-- Once every member is known nothing is free: the rank counts the members before this device. -/
theorem Nest.position_of_all_known {n : Nest} (h : n.flag 12 = true) (hr : n.rank = none)
    (hk : n.fld 0x6C 16 ≤ n.acks.length) : n.position =
      BitVec.ofNat 16 (n.acks.filter (fun f => decide (f.toNat < Config.fabricNumber.toNat))).length := by
  have hnone : n.fld 0x6C 16 - n.acks.length = 0 := Nat.sub_eq_zero_of_le hk
  simp [Nest.position, h, hr, hnone, Nat.mod_one]

section
variable (n : Nest) (ord stage core clk cols : Nat) (ways : BitVec 16)

/-- g1 to g4 hold the indices times their strides. -/
theorem Nest.thread_g_index {l : Nat} (hl : l < 4) : (n.thread ord stage core clk cols ways).g[l + 1] =
    BitVec.ofNat 64 ((n.indices ord).getD l 0 * n.fld (0x18 + 4 * l) 32) := by
  have hcases : l = 0 ∨ l = 1 ∨ l = 2 ∨ l = 3 := by omega
  obtain rfl | rfl | rfl | rfl := hcases <;> simp [Nest.thread]

/-- g5 to g8 hold the stage, the core, the argument block and the rank; g0 is zero. -/
theorem Nest.thread_g_fixed :
    (n.thread ord stage core clk cols ways).g[0] = 0 ∧ (n.thread ord stage core clk cols ways).g[5] = BitVec.ofNat 64 stage ∧
    (n.thread ord stage core clk cols ways).g[6] = BitVec.ofNat 64 core ∧
    (n.thread ord stage core clk cols ways).g[7] = n.word 0x30 ∧
    (n.thread ord stage core clk cols ways).g[8] = n.position.setWidth 64 := by
  simp [Nest.thread]

/-- No register beyond g8 holds anything. -/
theorem Nest.thread_g_high {k : Nat} (hk : k < 32) (h : 9 ≤ k) : (n.thread ord stage core clk cols ways).g[k] = 0 := by
  simp only [Nest.thread, Vector.getElem_ofFn]
  split
  case h_1 | h_2 | h_3 | h_4 => omega
  case h_5 => exact if_neg (by omega)

/-- The CSRs that the record gives (14 R335). -/
theorem Nest.thread_csr : (n.thread ord stage core clk cols ways).csr = { Csrs.start with
    vtype := if n.flag 2 then 0xFF58 else 0xFF18
    leasePref := BitVec.ofNat 8 (n.lease cols).2, leaseMin := BitVec.ofNat 8 (n.lease cols).1
    leaseGranted := BitVec.ofNat 8 (n.lease cols).1
    pairctl := if n.flag 1 then 0x08000001 else 0x08000000, kslice := BitVec.ofNat 32 (n.fld 0x3C 32), tbcfg := ways
    threadid := BitVec.ofNat 16 (stage * 256 + core), nestid := BitVec.ofNat 64 n.seq, gangrank := n.position } := by
  have hvtype : (0xFF18 + (if n.flag 2 then 0x40 else 0) : Word) = if n.flag 2 then 0xFF58 else 0xFF18 := by
    cases n.flag 2 <;> rfl
  have hpair : (0x08000000 + (if n.flag 1 then 1 else 0) : BitVec 32) = if n.flag 1 then 0x08000001 else 0x08000000 := by
    cases n.flag 1 <;> rfl
  rw [← hvtype, ← hpair]
  rfl

end

/-- Settles O50: `Nest.thread` register by register; only an eager gang's rank is not the record's, and it is `Nest.position`. -/
theorem dispatchedThread : Obligations.DispatchedThread := by
  intro n ord stage core clk cols ways t mn ix
  obtain ⟨hg0, hg5, hg6, hg7, hg8⟩ := n.thread_g_fixed ord stage core clk cols ways
  have hindex : ∀ l (h : l < 4), t.g[l + 1] = BitVec.ofNat 64 (ix l * n.fld (0x18 + 4 * l) 32) :=
    fun l h => n.thread_g_index ord stage core clk cols ways h
  have hhigh : ∀ k (h : k < 32), 9 ≤ k → t.g[k] = 0 := fun k h => n.thread_g_high ord stage core clk cols ways h
  have hv : ∀ k (h : k < 32), t.v[k] = ⟨0, .i32, 0⟩ := fun k h => Vector.getElem_replicate h
  have hm : ∀ k (h : k < 16), t.m[k] = 0 := fun k h => Vector.getElem_replicate h
  have hcsr := n.thread_csr ord stage core clk cols ways
  rw [n.lease_eq cols] at hcsr
  exact ⟨rfl, hindex, hg5, hg6, hg7, hg8, Nest.position_of_no_gang, fun r => Nest.position_of_rank,
    Nest.position_of_all_known, rfl, hg0, hhigh, hv, hm, rfl, rfl, rfl, rfl, rfl, rfl, rfl, rfl, hcsr⟩

end Sys2Proof.Machine
end

section
/-! SUPPORT. Control registers: when an access traps and when an event writes, then what each write event leaves; then the two
obligations about them (01 R22 to R25, R34 to R38; 05 R130; log 45). -/

namespace Sys2Proof.Machine

/-! ### Accesses that trap -/

theorem allows_iff (have_ need : Level) : have_.allows need = true ↔ need.num ≤ have_.num := decide_eq_true_iff

section
variable (f : Word → Word → Word) (always : Bool) (d a : Reg) (c : BitVec 12) (st : BitVec 2) (s : State)

theorem csrOp_of_unassigned (h : csrLevel c.toNat = none) :
    csrOp f always d a c st s = .next (trap .illegal (c.setWidth 64) s) := by
  simp [csrOp, h]

theorem csrOp_of_above {l : Level} (h : csrLevel c.toNat = some l) (hl : s.core.level.num < l.num) :
    csrOp f always d a c st s = .next (trap .priv (c.setWidth 64) s) := by
  have hno : s.core.level.allows l = false := decide_eq_false (Nat.not_le.mpr hl)
  simp [csrOp, h, hno]

end

/-- The three CSR instructions are one operation with different values written. -/
theorem exec_csr_eq_csrOp {d a : Reg} {c : BitVec 12} {st : BitVec 2} {i : Instr}
    (hi : i ∈ [Instr.csrrw d a c st, .csrrs d a c st, .csrrc d a c st]) (s : State) :
    ∃ f always, exec i s = csrOp f always d a c st s := by
  simp only [List.mem_cons, List.not_mem_nil, or_false] at hi
  obtain rfl | rfl | rfl := hi
  · exact ⟨_, _, exec_csrrw s d a c st⟩
  · exact ⟨_, _, exec_csrrs s d a c st⟩
  · exact ⟨_, _, exec_csrrc s d a c st⟩

/-- Settles O11: the three instructions share the two checks, which come before any operand is read. -/
theorem csrAccessTraps : Obligations.CsrAccessTraps := by
  intro d a c st s i hi
  obtain ⟨f, always, hexec⟩ := exec_csr_eq_csrOp hi s
  refine ⟨fun hnone _ => ?_, fun l hsome hlevel _ => ?_⟩
  · exact ⟨_, hexec.trans (csrOp_of_unassigned f always d a c st s hnone), trapEntry_trap ..⟩
  · exact ⟨_, hexec.trans (csrOp_of_above f always d a c st s hsome hlevel), trapEntry_trap ..⟩

/-! ### When an event writes -/

/-- A write event whose register the level does not reach, or whose write would wait or trap, changes nothing; every other
one does what its write does. -/
theorem eventWrite_acts {i : Instr} {n : Nat} {f : State → State} {v : Word} {s t : State} (hexec : exec i s = eventWrite n f v s)
    (hwrite : f s = t) :
    ((∀ l, csrLevel n = some l → s.core.level.num < l.num) ∨ csrFirstUse n v s ≠ none ∨ csrWriteWaits n v s = true ∨
      (csrSync n = true ∧ s.core.th.held < s.core.th.viq.length) → exec i s = .next s) ∧
    (∀ l, csrLevel n = some l → l.num ≤ s.core.level.num → csrFirstUse n v s = none → csrWriteWaits n v s = false →
      (csrSync n = true → s.core.th.viq.length ≤ s.core.th.held) → exec i s = .next t) := by
  rw [hexec, ← hwrite, eventWrite]
  cases hn : csrLevel n with
  | none => simp
  | some l =>
    have hopen : (s.core.level.allows l && (csrFirstUse n v s).isNone && !csrWriteWaits n v s &&
        !(csrSync n && vecBusy s)) = true ↔ l.num ≤ s.core.level.num ∧ csrFirstUse n v s = none ∧ csrWriteWaits n v s = false ∧
          (csrSync n = false ∨ s.core.th.viq.length ≤ s.core.th.held) := by
      simp only [allows_iff, vecBusy, Bool.and_eq_true, Bool.not_eq_true', Bool.and_eq_false_iff, Option.isNone_iff_eq_none,
        decide_eq_false_iff_not, Nat.not_lt, and_assoc]
    refine ⟨fun hblocked => ?_, fun k hk hlevel hfirst hwait hsync => ?_⟩
    · refine congrArg _ (if_neg fun hc => ?_)
      obtain ⟨hlevel, hfirst, hwait, hsync⟩ := hopen.mp hc
      obtain hlow | huse | hw | ⟨hs, hbusy⟩ := hblocked
      · exact absurd (hlow l rfl) (Nat.not_lt.mpr hlevel)
      · exact huse hfirst
      · simp [hwait] at hw
      · exact hsync.elim (Bool.eq_false_iff.mp · hs) (Nat.not_le.mpr hbusy)
    · obtain rfl : l = k := Option.some.inj hk
      have hidle := (Bool.eq_false_or_eq_true (csrSync n)).symm.imp_right hsync
      exact congrArg _ (if_pos (hopen.mpr ⟨hlevel, hfirst, hwait, hidle⟩))

/-! ### What the writes leave -/

theorem writeVtype_eq (v : Word) (s : State) : writeVtype v s = s.mapTh (fun t => { t with csr := if vtValid v
    then { s.csr with vtype := v, vl := BitVec.ofNat 15 (min s.csr.vl.toNat (vlmaxOf s.vlen v)) }
    else { s.csr with vtype := 0x8000000000000000, vl := 0 } }) := by
  unfold writeVtype
  split <;> rfl

/-- PAIRCTL as written, without its MODE: SLIP at least 64 (01 R38). -/
def pairSlip (v : Word) : BitVec 32 := BitVec.ofNat 32 (max (v.toNat / 2 ^ 16 % 2 ^ 16) 64 * 2 ^ 16)

/-- The slip leaves bit 0 to MODE. -/
theorem pairSlip_and_one (v : Word) : pairSlip v &&& 1 = 0 := by
  apply BitVec.eq_of_toNat_eq
  rw [BitVec.toNat_and, pairSlip, BitVec.toNat_ofNat]
  change _ &&& 1 = 0
  rw [Nat.and_one_is_mod]
  omega

theorem pairSlip_or_one (v : Word) : pairSlip v ||| 1 = pairSlip v + 1 :=
  (BitVec.add_eq_or_of_and_eq_zero _ _ (pairSlip_and_one v)).symm

theorem pairSlip_and_mask (v : Word) : pairSlip v &&& 0xFFFFFFFE = pairSlip v := by
  calc pairSlip v &&& 0xFFFFFFFE
      = (pairSlip v &&& 1) ||| (pairSlip v &&& 0xFFFFFFFE) := by rw [pairSlip_and_one]; exact BitVec.zero_or.symm
    _ = pairSlip v &&& (1 ||| 0xFFFFFFFE) := BitVec.and_or_distrib_left.symm
    _ = pairSlip v := BitVec.and_allOnes

/-- A value of PAIRCTL is its SLIP, with or without MODE. -/
theorem pairctlValue_eq (v : Word) : pairctlValue v = pairSlip v ∨ pairctlValue v = pairSlip v ||| 1 := by
  rw [pairSlip_or_one]
  unfold pairctlValue pairSlip
  obtain h | h := Nat.mod_two_eq_zero_or_one v.toNat
  · exact .inl (by rw [h, Nat.add_zero])
  · exact .inr (by rw [h]; exact BitVec.ofNat_add ..)

/-- Clearing MODE leaves the slip. -/
theorem pairctlValue_and_mask (v : Word) : pairctlValue v &&& 0xFFFFFFFE = pairSlip v + 0 := by
  refine Eq.trans ?_ (BitVec.add_zero _).symm
  obtain h | h := pairctlValue_eq v <;> rw [h]
  · exact pairSlip_and_mask v
  · rw [BitVec.and_or_distrib_right, pairSlip_and_mask]
    exact BitVec.or_zero

/-- Setting MODE leaves the slip and one. -/
theorem pairctlValue_or_one (v : Word) : pairctlValue v ||| 1 = pairSlip v + 1 := by
  obtain h | h := pairctlValue_eq v <;> rw [h]
  · exact pairSlip_or_one v
  · rw [BitVec.or_assoc, BitVec.or_self, pairSlip_or_one]

theorem writePairSolo_eq (v : Word) (s : State) : writePairSolo v s = { s with core := { (squashLead s).core with
    th := { s.core.th with csr := { s.csr with pairctl := pairSlip v + 0 } }, refork := false } } := by
  rw [writePairSolo, pairctlValue_and_mask]
  rfl

/-- A fork wanted under a PAIRCTL whose MODE is PAIR: what there is of a lead is squashed, and the fork is due. -/
theorem wantFork_of_pair {p : BitVec 32} (hp : p.getLsbD 0 = true) (s : State) :
    wantFork (s.mapCsr (fun c => { c with pairctl := p })) = { s with core := { (squashLead s).core with
      th := { s.core.th with csr := { s.csr with pairctl := p } }, refork := true } } := by
  rw [← hp]
  rfl

/-- A write that keeps MODE at PAIR keeps the lead. -/
theorem writePairPair_eq (v : Word) (s : State) : writePairPair v s = { s with core := (if s.csr.pairctl.getLsbD 0
    then { s.core with th := { s.core.th with csr := { s.csr with pairctl := pairSlip v + 1 } } }
    else { (squashLead s).core with
      th := { s.core.th with csr := { s.csr with pairctl := pairSlip v + 1 } }, refork := true }) } := by
  have hmode : (pairSlip v + 1).getLsbD 0 = true := by
    rw [← pairSlip_or_one, BitVec.getLsbD_or]
    exact Bool.or_true _
  rw [writePairPair, pairctlValue_or_one]
  dsimp only
  cases s.csr.pairctl.getLsbD 0 with
  | true => rfl
  | false => exact wantFork_of_pair hmode s

theorem writeCatctl_eq (v : Word) (s : State) : writeCatctl v s = { s with core := { s.core with
    th := { s.core.th with csr := { s.csr with catctl := v.setWidth 2 } }
    cat := { s.core.cat with entries := if v.getLsbD 0 then s.core.cat.entries else [] } } } := by
  unfold writeCatctl
  split <;> rfl

theorem writePlain_frm (v : Word) (s : State) : writePlain 0x002 v s = s.mapTh (fun t => { t with
    csr := if v.toNat % 8 ≤ 4 then { s.csr with frm := v.setWidth 3 } else s.csr }) := by
  change (if _ then _ else _) = _
  split <;> rfl

/-- Settles O42: each event is `eventWrite` of its register's write, and the write leaves what its lemma says. -/
theorem csrWriteEvents : Obligations.CsrWriteEvents := by
  intro v csr hi s acts csrs sup squash pair
  exact ⟨eventWrite_acts (exec_vtypeWrite s v) (writeVtype_eq v s), eventWrite_acts (exec_vlWrite s v) rfl,
    eventWrite_acts (exec_vstartWrite s v) rfl, eventWrite_acts (exec_vtagsWrite s hi v) rfl,
    eventWrite_acts (exec_pairctlModeSolo s v) (writePairSolo_eq v s),
    eventWrite_acts (exec_pairctlModePair s v) (writePairPair_eq v s), eventWrite_acts (exec_ksliceWrite s v) rfl,
    eventWrite_acts (exec_catctlWrite s v) (writeCatctl_eq v s), eventWrite_acts (exec_curcmpWrite s v) rfl,
    eventWrite_acts (exec_ptbaseWrite s v) rfl, eventWrite_acts (exec_sctxWrite s v) rfl,
    eventWrite_acts (exec_tbcfgWrite s v) rfl, eventWrite_acts (exec_dspsupWrite s v) rfl,
    eventWrite_acts (exec_csrWrite s csr v) rfl, eventWrite_acts (exec_csrWrite s 0x001 v) rfl,
    eventWrite_acts (exec_csrWrite s 0x002 v) (writePlain_frm v s), eventWrite_acts (exec_csrWrite s 0x060 v) rfl,
    eventWrite_acts (exec_csrWrite s 0x065 v) rfl, eventWrite_acts (exec_csrWrite s 0x100 v) rfl,
    eventWrite_acts (exec_csrWrite s 0x102 v) rfl, eventWrite_acts (exec_csrWrite s 0x107 v) rfl,
    eventWrite_acts (exec_csrWrite s 0x314 v) rfl⟩

end Sys2Proof.Machine
end

section
/-! SUPPORT. A scalar instruction that completes on a changed state, waits, or does not issue (02 R43; 05 R135; 07 R198). -/

namespace Sys2Proof.Machine

/-- A wait records itself where none stands, and the core is busy beyond now. -/
theorem waitEffect_waiting (s : State) : WaitEffect s (waiting s) where
  state := rfl
  core := rfl
  wait := by
    change s.core.th.wait.or (some ⟨s.dev.clk⟩) = _
    cases s.core.th.wait <;> rfl
  later := Nat.lt_succ_of_le (Nat.le_max_right ..)

/-- An instruction that does not issue changes only when its core is next ready. -/
theorem holds_of_stall {i : Instr} {s : State} (h : exec i s = .next (stall s)) : Holds i s :=
  ⟨_, h, Nat.lt_succ_of_le (Nat.le_max_right ..)⟩

/-- A scalar instruction that completes on a changed state and writes one register. -/
theorem acts_of_retire {i : Instr} {s s2 : State} {rs : List Reg} {st : BitVec 2} {n : Nat} {d : Reg} {l : Lat} {v : Word}
    (hpc : s2.core.th.pc = s.core.th.pc)
    (hexec : s.ready rs = true → exec i s = .next (retire st n (writeLat s2 d l v))) :
    Acts rs (BitVec.ofNat 64 n) i s s2 d v := by
  intro hready
  have heffect := scalarEffect_retire s2 st n d l v 0
  rw [raise_zero, hpc] at heffect
  exact ⟨_, hexec hready, heffect⟩

/-- A scalar instruction that completes on a changed state and writes no register. -/
theorem acts_of_retire_none {i : Instr} {s s2 : State} {rs : List Reg} {st : BitVec 2} {n : Nat}
    (hpc : s2.core.th.pc = s.core.th.pc) (hexec : s.ready rs = true → exec i s = .next (retire st n s2)) :
    Acts rs (BitVec.ofNat 64 n) i s s2 0 0 :=
  acts_of_retire (d := 0) (l := .alu) (v := 0) hpc hexec

/-- A scalar instruction that reads no register acts. -/
theorem scalar_nil (s : State) (body : State → State) : scalar [] s body = body s := scalar_of_ready (ready_nil s) body

end Sys2Proof.Machine
end

section
/-! SUPPORT. Barriers: a register read back after it is set, an arrival, a generation that is done, and what a wait and an
acquire leave; then the obligation about the barrier members and `tsread` (01 R33; 07 R203 to R207; 14 R348). -/

namespace Sys2Proof.Machine

/-! ### Barrier registers -/

/-- A barrier register reads as it was set. -/
theorem barOf_setBar (n : BitVec 3) (b : Bar) (s : State) : barOf (setBar n b s) n = b := by
  simp [barOf, setBar, State.cluster, State.mapCluster]

/-- An arrival by the fields of the register. -/
theorem Bar.arrive_eq (b : Bar) : b.arrive =
    if b.count + 1 = b.target then ⟨b.gen + 1, 0, b.target⟩ else ⟨b.gen, b.count + 1, b.target⟩ := rfl

/-- The last arrival completes the generation that it arrived in. -/
theorem genDone_arrive_of_last {b : Bar} (h : b.count + 1 = b.target) : genDone b.arrive b.gen = true := by
  have hgen : b.gen + 1 - b.gen = 1 := by rw [BitVec.add_comm, BitVec.add_sub_cancel]
  rw [Bar.arrive_eq, if_pos h, genDone, hgen]
  rfl

/-- Any other arrival does not. -/
theorem genDone_arrive_of_early {b : Bar} (h : b.count + 1 ≠ b.target) : genDone b.arrive b.gen = false := by
  rw [Bar.arrive_eq, if_neg h, genDone, BitVec.sub_self]
  rfl

theorem genDone_iff (b : Bar) (g : BitVec 32) : genDone b g = true ↔ 1 ≤ (b.gen - g).toNat ∧ (b.gen - g).toNat ≤ 2 ^ 31 := by
  simp [genDone]

/-- A wait goes on where the generation is not done or the gang is not. -/
theorem not_done_and_ready {done ready : Bool} (h : done ≠ true ∨ ready = false) : ¬(done && ready) = true := by
  rw [Bool.and_eq_true]
  rintro ⟨hdone, hready⟩
  exact h.elim (fun hnot => hnot hdone) (fun hno => Bool.eq_false_iff.mp hno hready)

/-! ### The acquire of a barrier, and the wait at gang scope -/

@[simp] theorem acquireAt_pc (scope : BitVec 2) (mask : BitVec 16) (s : State) :
    (acquireAt scope mask s).core.th.pc = s.core.th.pc := by
  unfold acquireAt; dsimp only; split <;> rfl

@[simp] theorem barAcquire_pc (scope : BitVec 2) (s : State) : (barAcquire scope s).core.th.pc = s.core.th.pc := by
  unfold barAcquire; dsimp only; split <;> exact acquireAt_pc scope 0xFFFF s

/-- The running thread's nest where its gang did not form in time and the wait is at gang scope (14 R348). -/
def lateNest (scope : BitVec 2) (s : State) : Option Nest := (myNest s).filter (fun m => scope = 3 ∧ m.gangLate = true)

/-- The wait at gang scope of a gang that did not form in time makes GANGFAIL pending; any other wait leaves it. -/
theorem gangWait_eq (scope : BitVec 2) (s : State) : gangWait scope s = { s with core := { s.core with
    gangfail := ((lateNest scope s).map (fun m => m.record.extractLsb' (8 * 0x68) 32)).or s.core.gangfail } } := by
  unfold gangWait lateNest
  cases myNest s with
  | none => rfl
  | some m =>
    rw [Option.filter_some]
    simp only [decide_eq_true_eq]
    split <;> rfl

/-- A try at gang scope that waits draws a free value and reports a gang that did not form in time. -/
theorem waitEffect_gangWait (scope : BitVec 2) (s : State) : WaitEffect { s with
    free := s.free + 1
    core := { s.core with gangfail :=
      ((lateNest scope s).map (fun m => m.record.extractLsb' (8 * 0x68) 32)).or s.core.gangfail } }
    (waiting (gangWait scope s)).draw := by
  rw [gangWait_eq]
  exact waitEffect_waiting _

/-! ### Arrivals -/

/-- The state with the thread's arrival forgotten: what a `bsync` at another barrier begins with. -/
def unarrived (s : State) : State := s.mapTh (fun t => { t with arrival := none })

/-- The state after a release and an arrival at a barrier: the thread keeps the generation and where it arrived. -/
def arrivedAt (n : BitVec 3) (s : State) : State :=
  (setBar n (barOf s n).arrive s.release).mapTh (fun t => { t with arrival := some (n, (barOf s n).gen, t.pc) })

theorem unarrived_of_none {s : State} (h : s.core.th.arrival = none) : unarrived s = s := by
  unfold unarrived
  rw [← h]
  rfl

theorem barOf_unarrived (s : State) (n : BitVec 3) : barOf (unarrived s) n = barOf s n := by
  unfold barOf
  rfl

theorem arrivedAt_unarrived (s : State) (n : BitVec 3) : arrivedAt n (unarrived s) = arrivedAt n s := by
  rw [arrivedAt, barOf_unarrived]
  rfl

/-- What a queued entry names does not depend on an arrival, so neither does what is queued. -/
theorem shape_unarrived (s : State) (e : VEntry) : (VX.behind (unarrived s) e).shape = (VX.behind s e).shape := by
  unfold VX.shape
  rfl

theorem accessesIn_unarrived (k : BitVec 16) (s : State) (e : VEntry) : accessesIn k (unarrived s) e = accessesIn k s e := by
  simp only [accessesIn, shape_unarrived]
  rfl

theorem storesQueued_unarrived (s : State) : storesQueued (unarrived s) = storesQueued s := by
  simp only [storesQueued, accessesIn_unarrived]
  rfl

theorem acquiresQueued_unarrived (s : State) : acquiresQueued (unarrived s) = acquiresQueued s := by
  simp only [acquiresQueued, shape_unarrived]
  rfl

@[simp] theorem barOf_arrivedAt (n : BitVec 3) (s : State) : barOf (arrivedAt n s) n = (barOf s n).arrive :=
  barOf_setBar n _ s.release

@[simp] theorem gangReady_arrivedAt (scope : BitVec 2) (n : BitVec 3) (s : State) :
    gangReady scope (arrivedAt n s) = gangReady scope s := rfl

/-! ### `barr` and `bwait` -/

theorem unlessReserved_of_scope {scope : BitVec 2} (h : scope ≠ 0) (m : State → Result) (s : State) :
    unlessReserved (scope == 0) m s = m s :=
  if_neg (by simpa using h)

theorem traps_of_scope_zero {i : Instr} {m : State → Result} {s : State}
    (h : exec i s = unlessReserved ((0 : BitVec 2) == 0) m s) : Traps [] i s .illegal 0 :=
  fun _ => ⟨_, h, trapEntry_trap ..⟩

section
variable {scope : BitVec 2} (st : BitVec 2) {n : BitVec 3} {s : State}

section
variable (hsc : scope ≠ 0)
include hsc

theorem exec_barr_of_no_target (d : Reg) (ht : (barOf s n).target = 0) :
    exec (.barr d n scope st) s = .next (trap .illegal 0 s) := by
  rw [exec_barr, execBarr, unlessReserved_of_scope hsc, scalar_nil]
  exact congrArg _ (if_pos ht)

theorem exec_barr_of_busy (d : Reg) (ht : (barOf s n).target ≠ 0) (hbusy : storesQueued s = true ∨ acquiresQueued s = true) :
    exec (.barr d n scope st) s = .next (waiting s) := by
  rw [exec_barr, execBarr, unlessReserved_of_scope hsc, scalar_nil]
  exact congrArg _ ((if_neg ht).trans (if_pos (Bool.or_eq_true_iff.mpr hbusy)))

theorem exec_barr_of_free (d : Reg) (ht : (barOf s n).target ≠ 0)
    (hfree : ¬(storesQueued s = true ∨ acquiresQueued s = true)) : exec (.barr d n scope st) s = .next (retire st 8
      (writeLat (setBar n (barOf s n).arrive s.release) d .interlocked ((barOf s n).gen.setWidth 64))) := by
  rw [exec_barr, execBarr, unlessReserved_of_scope hsc, scalar_nil]
  exact congrArg _ ((if_neg ht).trans (if_neg (fun h => hfree (Bool.or_eq_true_iff.mp h))))

theorem exec_bwait_of_ready {a : Reg} (hready : s.ready [a] = true) : exec (.bwait n a scope st) s = .next
    (if genDone (barOf s n) ((readG s a).setWidth 32) && gangReady scope s then retire st 8 (barAcquire scope s)
      else (waiting (gangWait scope s)).draw) := by
  rw [exec_bwait, execBwait, unlessReserved_of_scope hsc, scalar_of_ready hready,
    opVal_of_ready hready (List.mem_singleton_self a)]

theorem exec_bwait_of_done {a : Reg} (hready : s.ready [a] = true)
    (hdone : genDone (barOf s n) ((readG s a).setWidth 32) = true) (hgang : gangReady scope s = true) :
    exec (.bwait n a scope st) s = .next (retire st 8 (barAcquire scope s)) := by
  rw [exec_bwait_of_ready st hsc hready, hdone, hgang]
  rfl

theorem exec_bwait_of_not_done {a : Reg} (hready : s.ready [a] = true)
    (h : genDone (barOf s n) ((readG s a).setWidth 32) ≠ true ∨ gangReady scope s = false) :
    exec (.bwait n a scope st) s = .next (waiting (gangWait scope s)).draw := by
  rw [exec_bwait_of_ready st hsc hready, if_neg (not_done_and_ready h)]

/-! ### `bsync` -/

/-- The first try of a `bsync`, from a thread that has not arrived (07 R205). -/
def bsyncArrive (n : BitVec 3) (scope st : BitVec 2) (s : State) : State :=
  if (barOf s n).target = 0 then trap .illegal 0 s
  else if storesQueued s || acquiresQueued s then waiting s
  else bsyncWait n (barOf s n).gen scope st (arrivedAt n s)

theorem exec_bsync_of_fresh (hfresh : ∀ g pc, s.core.th.arrival ≠ some (n, g, pc)) :
    exec (.bsync n scope st) s = .next (bsyncArrive n scope st (unarrived s)) := by
  rw [exec_bsync, execBsync, unlessReserved_of_scope hsc, scalar_nil]
  cases harr : s.core.th.arrival with
  | none =>
    rw [unarrived_of_none harr]
    rfl
  | some p =>
    obtain ⟨k, g, pc⟩ := p
    have hne : k ≠ n := fun h => hfresh g pc (h ▸ harr)
    exact congrArg _ (if_neg hne)

theorem exec_bsync_of_arrived {g : BitVec 32} {pc : Word} (harr : s.core.th.arrival = some (n, g, pc)) :
    exec (.bsync n scope st) s = .next (bsyncWait n g scope st s) := by
  rw [exec_bsync, execBsync, unlessReserved_of_scope hsc, scalar_nil]
  simp only [harr, if_true]

end

/-- What the first try does is decided by the state before it. -/
theorem bsyncArrive_unarrived : bsyncArrive n scope st (unarrived s) =
    if (barOf s n).target = 0 then trap .illegal 0 (unarrived s)
    else if storesQueued s || acquiresQueued s then waiting (unarrived s)
    else bsyncWait n (barOf s n).gen scope st (arrivedAt n s) := by
  simp only [bsyncArrive, barOf_unarrived, storesQueued_unarrived, acquiresQueued_unarrived, arrivedAt_unarrived]

theorem bsyncArrive_of_no_target (ht : (barOf s n).target = 0) :
    bsyncArrive n scope st (unarrived s) = trap .illegal 0 (unarrived s) :=
  (bsyncArrive_unarrived st).trans (if_pos ht)

theorem bsyncArrive_of_busy (ht : (barOf s n).target ≠ 0) (hbusy : storesQueued s = true ∨ acquiresQueued s = true) :
    bsyncArrive n scope st (unarrived s) = waiting (unarrived s) :=
  (bsyncArrive_unarrived st).trans ((if_neg ht).trans (if_pos (Bool.or_eq_true_iff.mpr hbusy)))

theorem bsyncArrive_of_free (ht : (barOf s n).target ≠ 0) (hfree : ¬(storesQueued s = true ∨ acquiresQueued s = true)) :
    bsyncArrive n scope st (unarrived s) = bsyncWait n (barOf s n).gen scope st (arrivedAt n s) :=
  (bsyncArrive_unarrived st).trans ((if_neg ht).trans (if_neg (fun h => hfree (Bool.or_eq_true_iff.mp h))))

theorem bsyncWait_of_done {g : BitVec 32} (hdone : genDone (barOf s n) g = true) (hgang : gangReady scope s = true) :
    bsyncWait n g scope st s = retire st 8 (barAcquire scope (unarrived s)) :=
  if_pos (by rw [hdone, hgang]; rfl)

theorem bsyncWait_of_not_done {g : BitVec 32} (h : genDone (barOf s n) g ≠ true ∨ gangReady scope s = false) :
    bsyncWait n g scope st s = (waiting (gangWait scope s)).draw :=
  if_neg (not_done_and_ready h)

/-- The last arrival of a generation goes on at once where the gang is ready. -/
theorem bsyncArrive_of_last (ht : (barOf s n).target ≠ 0) (hfree : ¬(storesQueued s = true ∨ acquiresQueued s = true))
    (hlast : (barOf s n).count + 1 = (barOf s n).target) (hgang : gangReady scope s = true) :
    bsyncArrive n scope st (unarrived s) = retire st 8 (barAcquire scope (unarrived (arrivedAt n s))) := by
  have hdone : genDone (barOf (arrivedAt n s) n) (barOf s n).gen = true := by
    rw [barOf_arrivedAt, genDone_arrive_of_last hlast]
  rw [bsyncArrive_of_free st ht hfree, bsyncWait_of_done st hdone (gangReady_arrivedAt scope n s ▸ hgang)]

/-- Any other arrival waits, and so does the last one of a gang that is not ready. -/
theorem bsyncArrive_of_early (ht : (barOf s n).target ≠ 0) (hfree : ¬(storesQueued s = true ∨ acquiresQueued s = true))
    (hnot : (barOf s n).target ≠ (barOf s n).count + 1 ∨ gangReady scope s = false) :
    bsyncArrive n scope st (unarrived s) = (waiting (gangWait scope (arrivedAt n s))).draw := by
  have hwait : genDone (barOf (arrivedAt n s) n) (barOf s n).gen ≠ true ∨ gangReady scope (arrivedAt n s) = false := by
    rw [barOf_arrivedAt, gangReady_arrivedAt]
    exact hnot.imp_left fun h => Bool.eq_false_iff.mp (genDone_arrive_of_early h.symm)
  rw [bsyncArrive_of_free st ht hfree, bsyncWait_of_not_done st hwait]

end

/-- Settles O38: `barr`, `bwait` and `bsync` case by case; an arrival completes its own generation just where it is the last, so a
first `bsync` goes on or waits as a `bwait` for the generation it arrived in does. -/
theorem barrierResults : Obligations.BarrierResults := by
  intro d a n k sc st s r put x arrived passed got s0 come late tried busy fresh
  have hdone : ∀ g, genDone r g = true ↔ passed g := genDone_iff r
  refine ⟨?bset, ?barr, ?barrBusy, ?barrNoTarget, ?bwait, ?bwaitWaits, ?bsyncNoTarget, ?bsyncBusy, ?bsyncLast, ?bsyncEarly,
    ?bsyncDone, ?bsyncWaits, ?reserved, ?tsreadHolds, ?tsread⟩
  case bset =>
    refine acts_of_retire_none (st := st) rfl fun hready => ?_
    rw [exec_bset, execBset, scalar_of_ready hready, opVal_of_ready hready (List.mem_singleton_self a)]
    rfl
  case barr =>
    exact fun hsc ht hfree => acts_of_retire rfl fun _ => exec_barr_of_free st hsc d ht hfree
  case barrBusy => exact fun hsc ht hbusy => ⟨_, exec_barr_of_busy st hsc d ht hbusy, waitEffect_waiting s⟩
  case barrNoTarget => exact fun hsc ht _ => ⟨_, exec_barr_of_no_target st hsc d ht, trapEntry_trap ..⟩
  case bwait =>
    exact fun hsc hgang hpassed => acts_of_retire_none (barAcquire_pc sc s) fun hready =>
      exec_bwait_of_done st hsc hready ((hdone _).mpr hpassed) hgang
  case bwaitWaits =>
    intro hsc hready hnot
    exact ⟨_, exec_bwait_of_not_done st hsc hready (hnot.imp_left (mt (hdone _).mp)), waitEffect_gangWait sc s⟩
  case bsyncNoTarget =>
    intro hsc hfresh ht
    refine ⟨_, exec_bsync_of_fresh st hsc hfresh, ?_⟩
    rw [bsyncArrive_of_no_target st ht]
    exact trapEntry_trap ..
  case bsyncBusy =>
    intro hsc hfresh ht hbusy
    refine ⟨_, exec_bsync_of_fresh st hsc hfresh, ?_⟩
    rw [bsyncArrive_of_busy st ht hbusy]
    exact waitEffect_waiting _
  case bsyncLast =>
    intro hsc hfresh hlast ht hfree hgang
    refine acts_of_retire_none (st := st) (barAcquire_pc sc _) fun _ => ?_
    exact (exec_bsync_of_fresh st hsc hfresh).trans (congrArg _ (bsyncArrive_of_last st ht hfree hlast.symm hgang))
  case bsyncEarly =>
    intro hsc hfresh hnot ht hfree
    refine ⟨_, exec_bsync_of_fresh st hsc hfresh, ?_⟩
    rw [bsyncArrive_of_early st ht hfree hnot]
    exact waitEffect_gangWait sc (arrivedAt n s)
  case bsyncDone =>
    intro hsc hgang g pc harr hpassed
    refine acts_of_retire_none (st := st) (barAcquire_pc sc _) fun _ => ?_
    rw [exec_bsync_of_arrived st hsc harr, bsyncWait_of_done st ((hdone g).mpr hpassed) hgang]
    rfl
  case bsyncWaits =>
    intro hsc g pc harr hnot
    refine ⟨_, exec_bsync_of_arrived st hsc harr, ?_⟩
    rw [bsyncWait_of_not_done st (hnot.imp_left (mt (hdone g).mp))]
    exact waitEffect_gangWait sc s
  case reserved =>
    rintro rfl
    exact ⟨traps_of_scope_zero (exec_barr ..), traps_of_scope_zero (exec_bwait ..), traps_of_scope_zero (exec_bsync ..)⟩
  case tsreadHolds =>
    intro hbusy
    refine holds_of_stall ?_
    rw [exec_tsread, execTsread, scalar_nil, if_pos hbusy]
  case tsread =>
    intro hfree
    refine acts_of_retire (st := st) (l := .interlocked) (acquireAt_pc 1 0xFFFF s) fun _ => ?_
    rw [exec_tsread, execTsread, scalar_nil]
    exact congrArg _ (if_neg (Bool.eq_false_iff.mp hfree))

end Sys2Proof.Machine
end
